-- ==== Sys2Proof/Word.lean ====
section
/-! DEFINITION. The plain types the rest of the model is written in: the byte of a frame, the numbers that name
bays, stations, pack classes, held-answer slots and template slots, and the list of all twelve bays. -/

namespace Sys2Proof

/-- One byte of a frame payload or of the setup store. -/
abbrev Byte := BitVec 8

/-- A bay number, 0 to 11 (Introduction, Numbering). -/
abbrev BayNo := Fin 12

/-- A station number, 0 to 15 (Introduction, Numbering). -/
abbrev Station := Fin 16

/-- A pack class, 0 to 3 (Introduction, Numbering). -/
abbrev PackClass := Fin 4

/-- One of the four slots of the Held Answer Table (R61). The manual does not number them. -/
abbrev SlotNo := Fin 4

/-- One of the eight template slots. Template id n of the manual, 1 to 8, is slot n - 1 here (R150). -/
abbrev TemplateNo := Fin 8

/-- The twelve bays in order of their numbers. -/
def allBays : List BayNo := List.finRange 12

end Sys2Proof
end

