-- ==== Sys2Proof/Syntax.lean ====
section
/-! DEFINITION. The commands: one constructor of Instr for each row of spec/opcode_table.json, with the operands the
row's event has. A command that takes a frame from a receive queue has no operand, since the frame stands at the front
of that queue in State; a command that is the expiry of a timer names whose timer it is. -/

namespace Sys2Proof

/-- The door switch of a bay as a report shows it (R1); sent as CLOSED 0, OPEN 1 (R171). -/
inductive Door | closed | opened
  deriving DecidableEq, Repr

/-- One bay report as it stands on the bay link (1.2), with the outcome of the test of its check (R4). -/
structure Report where
  /-- whether the report's check passes: the manual leaves the form of the check out and takes its outcome as given -/
  checkOk : Bool
  door : Door
  present : Bool
  /-- 0 when the module has no pack data -/
  serial : Nat
  cls : PackClass
  soc : Nat
  /-- tenths of a degree Celsius -/
  temperature : Int
  health : Nat
  packFault : Bool
  stageFault : Bool
  boostFault : Bool
  deriving DecidableEq, Repr

/-- Why the line coding or a fixed part of a frame, or its check, makes it bad (R162). -/
inductive BadFrame | stuff | shape | check
  deriving DecidableEq, Repr

/-- A frame the line coding delivered whole with a good check (R159): its source station, kind and payload. -/
structure RawFrame where
  source : Station
  kind : Byte
  payload : List Byte
  deriving DecidableEq, Repr

/-- What the receiver of the Line Controller saw on the line (R162). -/
inductive Reception
  | bad (e : BadFrame)
  | whole (f : RawFrame)
  deriving DecidableEq, Repr

/-- How a send ended (R161, the table of ends). -/
inductive SendResult
  | lostContention
  | good
  | noAcknowledge
  | bitError
  | flagHeard
  deriving DecidableEq, Repr

/-- What comes to the Setup Store from outside as it takes a SETUP: the level of the SELECT pin (R175), and whether a restart
cuts short the write of the store, if the frame brings one (R174). Log entries 5 and 8. -/
structure Setting where
  select : Bool
  cut : Bool
  deriving DecidableEq, Repr

/-- The commands of the ZK412, one for each row of spec/opcode_table.json. -/
inductive Instr
  /-- RESTART (R172): power-up, or release of the RESTART pin; `erase` is the ERASE pin as sampled then. -/
  | restart (erase : Bool)
  /-- SELECT_RELEASE (R175): the SELECT pin goes to released. -/
  | selectRelease
  /-- BAY_REPORT (R4): a report arrives on the link of `bay`. -/
  | bayReport (bay : BayNo) (r : Report)
  /-- LINK_LOSS (R5): the report age of `bay` has reached 3000 ms. -/
  | linkLoss (bay : BayNo)
  /-- DATA_TIMER_EXPIRY (R9): the data timer of `bay` has run out. -/
  | dataTimerExpiry (bay : BayNo)
  /-- SERVICE_OFF (R18): the Bay Table takes a SERVICE with action OFF from the Ask queue. -/
  | serviceOff
  /-- SERVICE_ON (R19): the Bay Table takes a SERVICE with action ON from the Ask queue. -/
  | serviceOn
  /-- SWAP_ASK (R62): the Ask Handler takes a SWAP ASK from the Ask queue. -/
  | swapAsk
  /-- OFFER (R69): the Ask Handler takes an OFFER from the Peer queue. -/
  | offer
  /-- BID_WINDOW_END (R71): the bid timer of `slot` has run out. -/
  | bidWindowEnd (slot : SlotNo)
  /-- DISCARD_TIMER_EXPIRY (R79): the discard timer of `slot` has run out. -/
  | discardTimerExpiry (slot : SlotNo)
  /-- RECORD_EXPIRY (R52): the clock has reached the expiry instant of the record with this id. -/
  | recordExpiry (id : Nat)
  /-- RELEASE (R55): the Reservation Book takes a RELEASE from the Ask queue. -/
  | release
  /-- CLAIM (R136): the Handover Unit takes a CLAIM from the Ask queue. -/
  | claim
  /-- HANDOVER_TIMER_EXPIRY (R142): the handover timer of the OPEN `bay` has run out. -/
  | handoverTimerExpiry (bay : BayNo)
  /-- DOOR_AJAR_TIMER_EXPIRY (R145): the door-ajar timer of the AJAR `bay` has run out. -/
  | doorAjarTimerExpiry (bay : BayNo)
  /-- PERIOD_TIMER_EXPIRY (R83): the period timer of the Charge Planner has run out. -/
  | periodTimerExpiry
  /-- PASS_COMPLETION (R96): the plan pass in progress completes. -/
  | passCompletion
  /-- SLICE_TIMER_EXPIRY (R113): the slice timer of the boost holder has run out. -/
  | sliceTimerExpiry
  /-- SWITCH_TIMER_EXPIRY (R116): the 2 s switchover has run out. -/
  | switchTimerExpiry
  /-- SITE_FEED (R121): the Feed Share Unit takes a SITE FEED from the Peer queue. -/
  | siteFeed
  /-- METER_LOST (R122): the meter age has passed 10,000 ms. -/
  | meterLost
  /-- DRAW_CLAIM (R124): the Feed Share Unit takes a DRAW CLAIM from the Peer queue. -/
  | drawClaim
  /-- PEER_STALE (R127): the age of the entry of `station` has passed 6000 ms. -/
  | peerStale (station : Station)
  /-- PEER_LOST (R127): the age of the entry of `station` has reached 30,000 ms. -/
  | peerLost (station : Station)
  /-- CLAIM_TIMER_EXPIRY (R129): the claim timer has run out. -/
  | claimTimerExpiry
  /-- TEMPLATE_OPEN (R151): the Template Store takes a TEMPLATE OPEN from the Ask queue. -/
  | templateOpen
  /-- TEMPLATE_BODY (R153): the Template Store takes a TEMPLATE BODY from the Ask queue. -/
  | templateBody
  /-- TEMPLATE_CONTEXT_TIMEOUT (R152): the timer of the open-template context of `station` has run out. -/
  | templateContextTimeout (station : Station)
  /-- TEMPLATE_DROP_ONE (R154): a TEMPLATE DROP of mode ONE is taken. -/
  | templateDropOne
  /-- TEMPLATE_DROP_ALL_TEMPORARY (R154): a TEMPLATE DROP of mode ALL_TEMPORARY is taken. -/
  | templateDropAllTemporary
  /-- TEMPLATE_DROP_ALL (R154): a TEMPLATE DROP of mode ALL is taken. -/
  | templateDropAll
  /-- TEMPLATE_DROP_MAKE_TEMPORARY (R154): a TEMPLATE DROP of mode MAKE_TEMPORARY is taken. -/
  | templateDropMakeTemporary
  /-- TEMPLATE_DROP_MAKE_KEPT (R154): a TEMPLATE DROP of mode MAKE_KEPT is taken. -/
  | templateDropMakeKept
  /-- DAY_TIME (R155): the Template Store takes a DAY TIME from the Peer queue. -/
  | dayTime
  /-- TEMPLATE_INSTANT (R157): the day clock has passed the instant of the template in `slot`. -/
  | templateInstant (slot : TemplateNo)
  /-- DAY_ROLL (R156): the local day second has passed midnight. -/
  | dayRoll
  /-- FRAME_RECEIVE (R162): a frame another station sent has ended on the line. -/
  | frameReceive (r : Reception)
  /-- SEND_START (R161): the line has been idle for `idleBits` bit times and the Line Controller may start a send. -/
  | sendStart (idleBits : Nat)
  /-- SEND_END (R161): the send in progress ends as `r` says. -/
  | sendEnd (r : SendResult)
  /-- REJOIN (R164): the line of a DETACHED part has been idle for a run of `idleBits` bit times (log entry 18). -/
  | rejoin (idleBits : Nat)
  /-- STATUS_ASK (R180): the Notice Unit takes a STATUS ASK from the Ask queue. -/
  | statusAsk
  /-- STATUS_CLEAR (R181): the Notice Unit takes a STATUS CLEAR from the Ask queue. -/
  | statusClear
  /-- SETUP (R175): the Setup Store takes a SETUP from the Ask queue. -/
  | setup (setting : Setting)
  /-- RESTART_ASSERTED (R172): the RESTART pin is asserted. -/
  | restartAsserted
  /-- TEMPLATE_DROP_BAD_MODE (R154): a TEMPLATE DROP with a mode the part does not recognise is taken. -/
  | templateDropBadMode
  /-- SERVICE_BAD_ACTION (R19): a SERVICE whose action is neither OFF nor ON is taken. -/
  | serviceBadAction
  deriving DecidableEq, Repr

end Sys2Proof
end

