-- ==== Sys2Proof/WellFormed.lean ====
section
/-! DEFINITION. Which commands stay within the ranges the manual gives their operands. A command outside them names an
event the part cannot meet; exec is total and still answers a next state. -/

namespace Sys2Proof

/-- The serial of a report is a 32-bit number (1.2, R2). -/
def Report.wellFormed (r : Report) : Bool := r.serial < 2 ^ 32

/-- Every operand of the command lies in the range the manual gives it: a serial is a 32-bit number (R2) and a
reservation id a number from 1 to 65535 (R37). All other operands have types that hold no value out of range. -/
def Instr.wellFormed : Instr → Bool
  | .bayReport _ r => r.wellFormed
  | .recordExpiry id => 1 ≤ id && id ≤ 65535
  | _ => true

end Sys2Proof
end

