-- ==== Sys2Proof/Decode.lean ====
section
/-! DEFINITION. The part is a block: it has no instruction words. The rows of spec/opcode_table.json give no bits, so
no word spells a command. How the bytes of a frame are read is in Sys2Proof/Machine/Operands.lean. -/

namespace Sys2Proof

/-- The command that a word of `nbits` bits spells: none, since no row of the table gives bits. -/
def decodeTableWord (_nbits _w : Nat) : Option Instr := none

end Sys2Proof
end

