-- ==== Sys2Proof/Config.lean ====
section
/-! DEFINITION. What the manual leaves open and the machine still produces: each is an opaque constant with no body,
so that nothing can be proved of its value. A fresh one is had by applying it to the counter State.free. -/

namespace Sys2Proof

/-- Stands for a payload byte that a received frame does not carry although its kind's layout has it (R171 gives the
layouts, no rule says what a shorter payload means). DESIGN CHOICE, log entry 14. -/
opaque Config.missingByte : Nat → Byte

/-- What the existing flag of an OFFER says when its byte is neither 0 nor 1, a value R171 calls not recognised.
DESIGN CHOICE, log entry 15. -/
opaque Config.unknownFlag : Byte → Bool

/-- The bytes of an ANSWER that its code gives no content to: the cabinet station and the last field of HOLD, NONE
and BUSY (R78 gives 0 for two fields only). DESIGN CHOICE, log entry 16. -/
opaque Config.unusedAnswerField : Nat → Nat

/-- The day number that status page 3 carries while the day clock is unknown (R180 gives 255s for the time of day only).
DESIGN CHOICE, log entry 37. -/
opaque Config.unknownDay : Nat → Nat

/-- Which of several events that fall due at one moment is taken next (R9, R69, R113, R133 and others give both
orders). DESIGN CHOICE, log entry 3. -/
opaque Config.orderChoice : Nat → Nat

/-- Whether the day roll goes before a template instant that lies on the same second of a forward jump (R156 orders
points by where they lie, and these lie together). DESIGN CHOICE, log entry 34. -/
opaque Config.rollFirst : Nat → Bool

/-- The bytes that a write of the setup store cut short by a restart leaves in it (R174 says that the store is not valid,
no rule says what it holds). DESIGN CHOICE, log entry 8. -/
opaque Config.cutByte : Nat → Byte

end Sys2Proof
end

