-- ==== Sys2Proof/Machine/State.lean ====
section
/-! DEFINITION. The state of the ZK412 as plain data, one structure for each block, the reasons a command could stop,
and the state right after power-up of a part with an empty setup store. -/

namespace Sys2Proof.Machine

/-! ### Bays and packs (Bays, Packs and the Bay Table) -/

/-- The kinds of fault, in the order of R1. -/
inductive FaultKind | packFault | packHot | stageFault | wrongClass | noPackData
  deriving DecidableEq, Repr

/-- Why a bay is OFF, in the order of R1. -/
inductive OffCause | link | service | unused
  deriving DecidableEq, Repr

/-- The bay states of R1. The fault kind is present in FAULT only and the off cause in OFF only, so each stands in
its state. -/
inductive BayState
  | empty | checking | stock | held | ready | opened | ajar
  | fault (kind : FaultKind)
  | off (cause : OffCause)
  deriving DecidableEq, Repr

/-- The pack record (R2). -/
structure Pack where
  serial : Nat
  cls : PackClass
  soc : Nat
  temperature : Int
  health : Nat
  retired : Bool
  deriving DecidableEq, Repr

/-- The handover context kept in the bay record (R135). The timer is held in milliseconds. -/
structure Handover where
  timer : Nat
  packRemoved : Bool
  outSerial : Option Nat
  reservation : Nat
  deriving DecidableEq, Repr

/-- The bay record (R1). -/
structure Bay where
  state : BayState
  /-- present in OPEN and AJAR only (R14) -/
  pendingFault : Option FaultKind
  /-- bit c set when the bay may hold class c; from the setup store -/
  mask : BitVec 4
  pack : Option Pack
  /-- milliseconds left of the 10 s data timer -/
  dataTimer : Option Nat
  setpoint : Nat
  boost : Bool
  reservation : Option Nat
  door : Door
  locked : Bool
  lockPending : Bool
  /-- milliseconds since the last valid report, holding at 65,535 -/
  reportAge : Nat
  handover : Option Handover
  /-- whether the last valid report since restart showed a pack present; absent when none has come (R19, R142) -/
  lastPresent : Option Bool
  deriving DecidableEq, Repr

/-! ### The Reservation Book -/

/-- The state a record held when its handover began (R37). -/
inductive Prior | bound | ready
  deriving DecidableEq, Repr

/-- The states of a record (R37). The bay is present in BOUND, READY and HANDOVER and the prior state in HANDOVER, so
they stand in those states. -/
inductive RecordState
  | pending
  | bound (bay : BayNo)
  | ready (bay : BayNo)
  | handover (bay : BayNo) (prior : Prior)
  deriving DecidableEq, Repr

/-- Where a record came from (R37); the template id is present when the origin is STANDING. -/
inductive Origin
  | ask
  | standing (template : TemplateNo)
  deriving DecidableEq, Repr

/-- A reservation record (R37). -/
structure Reservation where
  id : Nat
  token : Nat
  cls : PackClass
  target : Nat
  windowOpen : Nat
  windowClose : Nat
  state : RecordState
  origin : Origin
  late : Bool
  atDoor : Bool
  deriving DecidableEq, Repr

/-- The book and its figures (R37). Records stand in book order (R38). -/
structure Book where
  records : List Reservation
  commit : Vector Nat 4
  nextId : Nat
  /-- oldest first -/
  expired : List Nat
  unknownReleases : Nat
  deriving DecidableEq, Repr

/-! ### The Ask Handler -/

/-- Why the part is not serving an ask (R61). -/
inductive NoneReason | noPack | full | gone
  deriving DecidableEq, Repr

/-- Whether a won reservation was created by this ask or was already held (R61). -/
inductive WonKind | new | existing
  deriving DecidableEq, Repr

/-- The part's own offer (R61). -/
structure Offer where
  offset : Nat
  existing : Bool
  deriving DecidableEq, Repr

/-- The best peer offer heard (R61). -/
structure Heard where
  offset : Nat
  existing : Bool
  station : Station
  deriving DecidableEq, Repr

/-- The states of a slot (R61), each with the timer that runs in it, in milliseconds, and WON with its reservation. -/
inductive SlotState
  | bidding (bid : Nat)
  | won (id offset : Nat) (kind : WonKind) (discard : Nat)
  | lost (discard : Nat)
  | none (discard : Nat)
  deriving DecidableEq, Repr

/-- An occupied slot of the Held Answer Table (R61). The class is kept as received. -/
structure Slot where
  terminal : Station
  ask : Nat
  token : Nat
  cls : Nat
  target : Nat
  window : Nat
  arrivalEstimate : Nat
  arrival : Nat
  state : SlotState
  own : Option Offer
  reason : Option NoneReason
  heard : Option Heard
  deriving DecidableEq, Repr

/-- The Held Answer Table and the asks-dropped count (R61). -/
structure AskTable where
  slots : Vector (Option Slot) 4
  dropped : Nat
  deriving DecidableEq, Repr

/-! ### The Charge Planner -/

/-- The pass snapshot (R85). -/
structure Snapshot where
  now : Nat
  bays : Vector Bay 12
  records : List Reservation
  share : Nat
  deriving DecidableEq, Repr

/-- A pass in progress: its snapshot and the milliseconds since it started (R84 bounds them by 50). -/
structure Pass where
  snapshot : Snapshot
  age : Nat
  deriving DecidableEq, Repr

/-- The Charge Planner (R82). The pass state is RUNNING exactly when `pass` is present, since the snapshot is. -/
structure Planner where
  pass : Option Pass
  again : Bool
  /-- milliseconds left of the 10 s period timer -/
  period : Option Nat
  lastOrder : List BayNo
  /-- MODEL: a plan pass has been requested in the event now being taken (R83); no between events -/
  requested : Bool
  deriving DecidableEq, Repr

/-! ### The Boost Arbiter -/

/-- The converter states of R105, with what is present in each: the holder and its slice timer, or the switch timer,
in milliseconds. -/
inductive Converter
  | idle
  | granted (holder : BayNo) (slice : Nat)
  | switching (timer : Nat)
  | faulted
  deriving DecidableEq, Repr

/-- The Boost Arbiter (R104). -/
structure Arbiter where
  converter : Converter
  /-- position 0 to 12 of the high ring; 12 is the LOW member -/
  highPtr : Fin 13
  lowPtr : BayNo
  high : List BayNo
  low : List BayNo
  eligible : Vector Bool 12
  deriving DecidableEq, Repr

/-! ### The Feed Share Unit -/

/-- The meter states of R119. -/
inductive MeterState | waiting | present | lost
  deriving DecidableEq, Repr

/-- An entry of the Peer Claim Table (R119). -/
structure Peer where
  station : Station
  demand : Nat
  priority : Nat
  /-- milliseconds -/
  age : Nat
  stale : Bool
  deriving DecidableEq, Repr

/-- The Feed Share Unit (R119). -/
structure Feed where
  meter : MeterState
  siteLimit : Option Nat
  measuredDraw : Option Nat
  /-- milliseconds, holding at 65,535 -/
  meterAge : Nat
  trim : Nat
  peers : List Peer
  ownDemand : Nat
  ownPriority : Nat
  detached : Bool
  limit : Nat
  share : Nat
  /-- milliseconds left of the 2000 ms claim timer -/
  claimTimer : Option Nat
  deriving DecidableEq, Repr

/-! ### The Template Store -/

/-- A template (R150). The id is the slot it stands in. -/
structure Template where
  token : Nat
  cls : PackClass
  target : Nat
  /-- time-of-day open, 0 to 86,399 s -/
  todOpen : Nat
  window : Nat
  kept : Bool
  lastDay : Option Int
  /-- MODEL: the day of an instant the clock has counted past and that has not yet been taken (R156) -/
  passed : Option Int
  deriving DecidableEq, Repr

/-- An open-template context (R150): the template and the milliseconds left of its 2000 ms timer. -/
structure Context where
  template : TemplateNo
  timer : Nat
  deriving DecidableEq, Repr

/-- The Template Store (R150). The day clock is known exactly when its day offset is present. -/
structure TemplateStore where
  slots : Vector (Option Template) 8
  contexts : Vector (Option Context) 16
  dayOffset : Option Int
  /-- MODEL: the clock has counted past a midnight and the day roll has not yet been taken (R156) -/
  rollDue : Bool
  deriving DecidableEq, Repr

/-! ### Frames, notices and the Line Controller -/

/-- A frame of an Ask kind as its block reads it (R160, R171). -/
inductive AskBody
  | swapAsk (ask token cls target arrivalEstimate window : Nat)
  | claim (token : Nat)
  | release (id : Nat)
  | service (bay action : Nat)
  | templateOpen (id : Nat)
  | templateBody (token cls : Nat) (kept : Bool) (todOpen target window : Nat)
  | templateDrop (mode id : Nat)
  | statusAsk (page : Nat)
  | statusClear (mask : List Byte)
  | setup (piece : Nat) (content : List Byte)
  deriving DecidableEq, Repr

/-- A frame stored in the Ask queue: its source station and its fields. -/
structure AskFrame where
  source : Station
  body : AskBody
  deriving DecidableEq, Repr

/-- A frame of a Peer kind as its block reads it (R160, R171). -/
inductive PeerBody
  | siteFeed (limit draw : Nat)
  | drawClaim (demand priority : Nat)
  | offer (terminal ask offset : Nat) (existing : Bool)
  | dayTime (seconds : Nat)
  deriving DecidableEq, Repr

/-- A frame stored in the Peer queue. -/
structure PeerFrame where
  source : Station
  body : PeerBody
  deriving DecidableEq, Repr

/-- The line states (R163). -/
inductive LineState | full | guarded | detached
  deriving DecidableEq, Repr

/-- The values of the last line error (R165). -/
inductive LineError | none | noChange | stuff | shape | ack | check | bit
  deriving DecidableEq, Repr

/-- Why an open-template context was cancelled (R152). -/
inductive CancelCause | timeout | otherFrame
  deriving DecidableEq, Repr

/-- Why a template frame was refused (R158). -/
inductive RefuseReason | noOpen | badId | badField | badMode
  deriving DecidableEq, Repr

/-- Why a template made no reservation (R158). -/
inductive MissReason | tokenHeld | bookFull | limit | previousHeld
  deriving DecidableEq, Repr

/-- The converter state as a notice or a status page gives it (R105). -/
inductive ConverterName | idle | granted | switching | faulted
  deriving DecidableEq, Repr

/-- The notices with their arguments (R15, R60, R81, R118, R134, R149, R158, R170, R176, R177), in the order of their
codes (R178). -/
inductive Notice
  | askDropped (terminal : Station) (ask count : Nat)
  | answerDiscarded (terminal : Station) (ask id : Nat)
  | earlyShort (id : Nat) (bay : BayNo) (soc target : Nat)
  | swapDone (outSerial inSerial : Nat)
  | noReturn (id : Nat) (bay : BayNo) (outSerial : Nat)
  | handoverTimeout (id : Nat) (bay : BayNo)
  | doorAjar (id : Nat) (bay : BayNo)
  | resExpired (id token : Nat) (cls : PackClass)
  | resReleased (id : Nat) (cls : PackClass)
  | unknownRelease (id count : Nat)
  | resLate (id : Nat) (bay : BayNo)
  | packMissing (bay : BayNo) (serial id : Nat)
  | bayFault (bay : BayNo) (kind : FaultKind) (serial : Nat)
  | packRetired (bay : BayNo) (serial health : Nat)
  | linkLost (bay : BayNo)
  | linkBack (bay : BayNo)
  | doorForced (bay : BayNo) (door : Door) (present : Bool)
  | serviceRefused (bay action : Nat) (state : Option BayState)
  | meterLost (lastLimit meterLostLimit : Nat)
  | meterBack (limit : Nat)
  | peerTableFull (station : Station)
  | stationClash (demand priority : Nat)
  | peerLost (station : Station)
  | lineState (old new : LineState) (sendCount recvCount : Nat)
  | caution (sendCount recvCount : Nat)
  | logOverflow
  | templateSet (id : TemplateNo) (token : Nat) (kept : Bool)
  | templateCancelled (terminal : Station) (id : TemplateNo) (cause : CancelCause)
  | templateRefused (terminal : Station) (reason : RefuseReason)
  | templateMiss (id : TemplateNo) (token : Nat) (reason : MissReason) (holder : Nat)
  | dayClockSet (old : Option Nat) (new : Nat) (day : Int)
  | boostFault (bay : BayNo) (converter : ConverterName) (holder : Option BayNo)
  | setupIgnored (piece : Nat)
  | setupLoaded (station : Station)
  deriving DecidableEq, Repr

/-- The codes of ANSWER with the fields each carries (R78). -/
inductive Answer
  | hold (ask : Nat)
  | granted (ask id offset : Nat)
  | none (ask : Nat) (reason : NoneReason)
  | busy (id : Nat)
  deriving DecidableEq, Repr

/-- The codes of CLAIM REPLY with the fields each carries (R139). -/
inductive Reply
  | go (id : Nat) (bay : BayNo)
  | busy (id : Nat) (bay : BayNo)
  | wait (id estimate : Nat)
  | notReady (id : Nat)
  | tooLate
  deriving DecidableEq, Repr

/-- The frames the part sends (R160). -/
inductive OutFrame
  | claimReply (dest : Station) (token : Nat) (reply : Reply)
  | drawClaim (demand priority : Nat)
  | offer (terminal : Station) (ask offset : Nat) (existing : Bool)
  | answer (dest : Station) (answer : Answer)
  | notice (n : Notice)
  | overrun (count : Nat)
  | statusReply (dest : Station) (page : Nat) (figures : List Byte)
  deriving DecidableEq, Repr

/-- A frame of the Outbound queue and whether it is in transmission (R168, R169). -/
structure OutEntry where
  frame : OutFrame
  sending : Bool
  deriving DecidableEq, Repr

/-- The Line Controller (10.1 to 10.6). The Outbound queue stands in the order of posting, oldest first. -/
structure LineController where
  state : LineState
  sendCount : Nat
  recvCount : Nat
  /-- idle gaps counted, present in DETACHED only (R164) -/
  gaps : Option Nat
  errorLog : Nat
  lastError : LineError
  caution : Bool
  overflowReported : Bool
  askQueue : List AskFrame
  peerQueue : List PeerFrame
  outQueue : List OutEntry
  /-- the frame in transmission, with the figures the transmission carries (R168) -/
  sending : Option OutFrame
  asksLost : Nat
  peerLost : Nat
  noticesLost : Nat
  sendsDropped : Nat
  deriving DecidableEq, Repr

/-! ### Setup, pins, clock and outputs -/

/-- UNSET or RUN (11.1). -/
inductive Part | unset | run
  deriving DecidableEq, Repr

/-- The nonvolatile setup store (R173): 42 record bytes and a 16-bit check, and whether its latest write ran to its end
(R174). -/
structure SetupStore where
  record : List Byte
  check : BitVec 16
  /-- no when a restart cut the latest write short -/
  ended : Bool
  deriving DecidableEq, Repr

/-- A setup assembly in progress (11.3): the number of the next piece expected and the bytes taken so far. -/
structure Assembly where
  next : Nat
  bytes : List Byte
  deriving DecidableEq, Repr

/-- The values loaded from the setup store (R174). The class masks are kept in the bay records (R1). -/
structure Setup where
  station : Station
  capacity : Vector Nat 4
  /-- 20 or 120 s -/
  discardTime : Nat
  commitLimit : Vector Nat 4
  reserveMargin : Nat
  meterLostLimit : Nat
  isolatedShare : Nat
  retireThreshold : Nat
  stockTarget : Nat
  handoverTime : Nat
  expiryGrace : Nat
  boostSlice : Nat
  templateLead : Nat
  /-- bit g set when the notices of group g are not sent -/
  disableMask : BitVec 8
  deriving DecidableEq, Repr

/-- The levels of the three input pins as the part last saw them; yes is asserted. -/
structure Pins where
  restart : Bool
  select : Bool
  erase : Bool
  deriving DecidableEq, Repr

/-- The schedule clock (Introduction, Conventions): a 32-bit count of seconds and a millisecond sub-count. -/
structure Clock where
  seconds : Nat
  millis : Nat
  deriving DecidableEq, Repr

/-- A bay order with its three commanded values (1.6). -/
structure BayOrder where
  bay : BayNo
  setpoint : Nat
  boost : Bool
  locked : Bool
  deriving DecidableEq, Repr

/-- A frame as it goes onto the line: contention word, kind and payload (R159). -/
structure WireFrame where
  word : Byte
  kind : Byte
  payload : List Byte
  deriving DecidableEq, Repr

/-- What the part put out in the latest event: its bay orders, whether it filled the acknowledge slot, whether it sent
an error flag, and the frame whose transmission it began. -/
structure Outputs where
  orders : List BayOrder
  acknowledged : Bool
  flagged : Bool
  wire : Option WireFrame
  deriving DecidableEq, Repr

/-- The whole machine. -/
structure State where
  pins : Pins
  clock : Clock
  part : Part
  store : SetupStore
  assembly : Option Assembly
  cfg : Setup
  bays : Vector Bay 12
  book : Book
  asks : AskTable
  plan : Planner
  boost : Arbiter
  feed : Feed
  ts : TemplateStore
  line : LineController
  /-- condition flags: bit n - 1 is the flag of code n (R178) -/
  flags : BitVec 34
  out : Outputs
  /-- MODEL: how many free values have been used -/
  free : Nat
  /-- the commands waiting, first in, first out -/
  pending : List Instr
  deriving DecidableEq, Repr

/-- Why the machine would stop with a fault. No rule of the manual stops the part, so there is no reason. -/
inductive Fault
  deriving DecidableEq, Repr

/-- Why a command would have no meaning. -/
inductive Refusal
  /-- Raised by exec alone, for a command whose meaning is not written. Safe: nothing is claimed of it. -/
  | notModelled (mnemonic : String)
  deriving DecidableEq, Repr

/-! ### Restart values -/

/-- The bay record after a restart (R1). -/
def Bay.restart : Bay where
  state := .off .link
  pendingFault := none
  mask := 0
  pack := none
  dataTimer := none
  setpoint := 0
  boost := false
  reservation := none
  door := .closed
  locked := true
  lockPending := false
  reportAge := 0
  handover := none
  lastPresent := none

/-- The book after a restart (R37). -/
def Book.restart : Book where
  records := []
  commit := Vector.replicate 4 0
  nextId := 1
  expired := []
  unknownReleases := 0

/-- The Held Answer Table after a restart (R61). -/
def AskTable.restart : AskTable where
  slots := Vector.replicate 4 none
  dropped := 0

/-- The Charge Planner after a restart (R82). -/
def Planner.restart : Planner where
  pass := none
  again := false
  period := none
  lastOrder := []
  requested := false

/-- The Boost Arbiter after a restart (R104). -/
def Arbiter.restart : Arbiter where
  converter := .idle
  highPtr := 12
  lowPtr := 11
  high := []
  low := []
  eligible := Vector.replicate 12 false

/-- The Feed Share Unit after a restart (R119). -/
def Feed.restart : Feed where
  meter := .waiting
  siteLimit := none
  measuredDraw := none
  meterAge := 0
  trim := 1000
  peers := []
  ownDemand := 0
  ownPriority := 0
  detached := false
  limit := 0
  share := 0
  claimTimer := none

/-- The Template Store after a restart (R150). -/
def TemplateStore.restart : TemplateStore where
  slots := Vector.replicate 8 none
  contexts := Vector.replicate 16 none
  dayOffset := none
  rollDue := false

/-- The Line Controller after a restart (R163 to R168). -/
def LineController.restart : LineController where
  state := .full
  sendCount := 0
  recvCount := 0
  gaps := none
  errorLog := 0
  lastError := .none
  caution := false
  overflowReported := false
  askQueue := []
  peerQueue := []
  outQueue := []
  sending := none
  asksLost := 0
  peerLost := 0
  noticesLost := 0
  sendsDropped := 0

/-- The emptied setup store (R172): every byte 0. -/
def SetupStore.empty : SetupStore where
  record := List.replicate 42 0
  check := 0
  ended := true

/-- The loaded values while nothing has been loaded. DESIGN CHOICE, log entry 7: no rule gives them and, but for the
disable mask, which R179 says is clear, nothing reads them while the part is UNSET. -/
def Setup.unloaded : Setup where
  station := 0
  capacity := Vector.replicate 4 0
  discardTime := 0
  commitLimit := Vector.replicate 4 0
  reserveMargin := 0
  meterLostLimit := 0
  isolatedShare := 0
  retireThreshold := 0
  stockTarget := 0
  handoverTime := 0
  expiryGrace := 0
  boostSlice := 0
  templateLead := 0
  disableMask := 0

/-- Nothing put out. -/
def Outputs.quiet : Outputs where
  orders := []
  acknowledged := false
  flagged := false
  wire := none

/-- The part after power-up with ERASE released and the empty setup store a part leaves the factory with (11.1, R172):
UNSET, every block at its restart values, no command waiting. -/
def State.reset : State where
  pins := ⟨false, false, false⟩
  clock := ⟨0, 0⟩
  part := .unset
  store := .empty
  assembly := none
  cfg := .unloaded
  bays := Vector.replicate 12 .restart
  book := .restart
  asks := .restart
  plan := .restart
  boost := .restart
  feed := .restart
  ts := .restart
  line := .restart
  flags := 0
  out := .quiet
  free := 0
  pending := []

end Sys2Proof.Machine
end

