-- ==== Sys2Proof/Machine/Ops.lean ====
section
/-! DEFINITION. The operations every block shares: the rounding the manual fixes, bytes of multi-byte numbers, reading
and writing a bay record, a slot, a template, the book's lookups, and the request for a plan pass. -/

namespace Sys2Proof.Machine

/-! ### Arithmetic (Introduction, Conventions) -/

/-- The quotient rounded up. -/
def ceilDiv (a b : Nat) : Nat := (a + b - 1) / b

/-- Rounded down to 10 W. -/
def roundTen (p : Nat) : Nat := p / 10 * 10

/-- The value, or the nearer end of the range when it lies outside. -/
def limitTo (lo hi v : Nat) : Nat := max lo (min hi v)

/-- The site-side draw of a setpoint: what it costs the feed at an efficiency of 940 per mille. -/
def siteDraw (p : Nat) : Nat := ceilDiv (p * 1000) 940

/-! ### Bytes (R171: most significant byte first) -/

/-- The low `n` bytes of a number, most significant first. -/
def bytesOf : Nat → Nat → List Byte
  | 0, _ => []
  | n + 1, v => BitVec.ofNat 8 (v / 256 ^ n) :: bytesOf n v

/-- The number that bytes spell, most significant first. -/
def ofBytes (bs : List Byte) : Nat := bs.foldl (fun acc b => acc * 256 + b.toNat) 0

/-- `n` bytes from position `at_` of a list, as a number. -/
def field (bs : List Byte) (at_ n : Nat) : Nat := ofBytes ((bs.drop at_).take n)

/-! ### Bays -/

/-- The record of a bay. -/
def State.bay (s : State) (b : BayNo) : Bay := s.bays[b]

/-- The state with another record for a bay. -/
def State.setBay (b : BayNo) (x : Bay) (s : State) : State :=
  { s with bays := s.bays.set b x b.isLt }

/-- The bays for which a test holds, in order of their numbers. -/
def baysWhere (p : BayNo → Bool) : List BayNo := allBays.filter p

/-! ### Lookups of the book (R42) -/

/-- The record with this id, or none. -/
def Book.byId (k : Book) (id : Nat) : Option Reservation := k.records.find? (·.id == id)

/-- The record with this token, or none. -/
def Book.byToken (k : Book) (token : Nat) : Option Reservation := k.records.find? (·.token == token)

/-- The bay a record names (R37). -/
def Reservation.bay (r : Reservation) : Option BayNo :=
  match r.state with
  | .pending => none
  | .bound b => some b
  | .ready b => some b
  | .handover b _ => some b

/-- The state with a record of the book changed by `f`. -/
def State.updateRecord (id : Nat) (f : Reservation → Reservation) (s : State) : State :=
  { s with book.records := s.book.records.map fun r => if r.id == id then f r else r }

/-! ### Plan pass requests and free values -/

/-- A plan pass is requested (R83). Several requests in one event act as one, so the request is noted here and met at
the end of the event. DEDUCED, log entry 11. -/
def State.request (s : State) : State := { s with plan.requested := true }

/-- `n` free values have been used. -/
def State.useFree (n : Nat) (s : State) : State := { s with free := s.free + n }

/-- The state with nothing put out yet, as an event begins. -/
def State.quiet (s : State) : State := { s with out := .quiet }

end Sys2Proof.Machine
end

