-- ==== Sys2Proof/Machine/Flags.lean ====
section
/-! DEFINITION. The notices as they leave the part: the code and group of each (R178), its argument bytes, the position
at which each enumerated value is sent (R171), and the condition flags. -/

namespace Sys2Proof.Machine

/-! ### Positions of enumerated values (R171) -/

/-- A yes or no field (R171). -/
def boolByte (b : Bool) : Nat := if b then 1 else 0

/-- CLOSED 0, OPEN 1 (R171). -/
def doorCode : Door → Nat
  | .closed => 0
  | .opened => 1

/-- The position in R1's list of fault kinds. -/
def FaultKind.code : FaultKind → Nat
  | .packFault => 0
  | .packHot => 1
  | .stageFault => 2
  | .wrongClass => 3
  | .noPackData => 4

/-- The position in R1's list of bay states. -/
def BayState.code : BayState → Nat
  | .empty => 0
  | .checking => 1
  | .stock => 2
  | .held => 3
  | .ready => 4
  | .opened => 5
  | .ajar => 6
  | .fault _ => 7
  | .off _ => 8

/-- The position in R61's list of reasons. -/
def NoneReason.code : NoneReason → Nat
  | .noPack => 0
  | .full => 1
  | .gone => 2

/-- The position in R119's list of meter states. -/
def MeterState.code : MeterState → Nat
  | .waiting => 0
  | .present => 1
  | .lost => 2

/-- The position in R163's list of line states. -/
def LineState.code : LineState → Nat
  | .full => 0
  | .guarded => 1
  | .detached => 2

/-- The position in R165's list of line errors. -/
def LineError.code : LineError → Nat
  | .none => 0
  | .noChange => 1
  | .stuff => 2
  | .shape => 3
  | .ack => 4
  | .check => 5
  | .bit => 6

/-- The position in R158's list of causes, TIMEOUT first. R152 names the two the other way round, and R171 does not say which
of the two rules defines the field. DESIGN CHOICE, log entry 50. -/
def CancelCause.code : CancelCause → Nat
  | .timeout => 0
  | .otherFrame => 1

/-- The position in R158's list of refusal reasons. -/
def RefuseReason.code : RefuseReason → Nat
  | .noOpen => 0
  | .badId => 1
  | .badField => 2
  | .badMode => 3

/-- The position in R158's list of miss reasons. -/
def MissReason.code : MissReason → Nat
  | .tokenHeld => 0
  | .bookFull => 1
  | .limit => 2
  | .previousHeld => 3

/-- The position in R104's list of converter states. -/
def ConverterName.code : ConverterName → Nat
  | .idle => 0
  | .granted => 1
  | .switching => 2
  | .faulted => 3

/-- UNSET 0, RUN 1. DEDUCED from the order of 11.1, log entry 39. -/
def Part.code : Part → Nat
  | .unset => 0
  | .run => 1

/-- The name of a converter state without what is present in it. -/
def Converter.name : Converter → ConverterName
  | .idle => .idle
  | .granted _ _ => .granted
  | .switching _ => .switching
  | .faulted => .faulted

/-- The holder of the converter, or none (R105). -/
def Converter.holder : Converter → Option BayNo
  | .granted h _ => some h
  | _ => none

/-- A bay or none, none being 255 (R178, R180). -/
def holderByte : Option BayNo → Nat
  | some b => b.val
  | none => 255

/-! ### Codes and arguments (R178) -/

/-- The code of a notice (R178). -/
def Notice.code : Notice → Nat
  | .askDropped .. => 1
  | .answerDiscarded .. => 2
  | .earlyShort .. => 3
  | .swapDone .. => 4
  | .noReturn .. => 5
  | .handoverTimeout .. => 6
  | .doorAjar .. => 7
  | .resExpired .. => 8
  | .resReleased .. => 9
  | .unknownRelease .. => 10
  | .resLate .. => 11
  | .packMissing .. => 12
  | .bayFault .. => 13
  | .packRetired .. => 14
  | .linkLost .. => 15
  | .linkBack .. => 16
  | .doorForced .. => 17
  | .serviceRefused .. => 18
  | .meterLost .. => 19
  | .meterBack .. => 20
  | .peerTableFull .. => 21
  | .stationClash .. => 22
  | .peerLost .. => 23
  | .lineState .. => 24
  | .caution .. => 25
  | .logOverflow => 26
  | .templateSet .. => 27
  | .templateCancelled .. => 28
  | .templateRefused .. => 29
  | .templateMiss .. => 30
  | .dayClockSet .. => 31
  | .boostFault .. => 32
  | .setupIgnored .. => 33
  | .setupLoaded .. => 34

/-- The code of OVERRUN, which the Outbound queue makes (R178). -/
def overrunCode : Nat := 40

/-- The group of a code, by its disable bit (R178). -/
def groupOfCode (c : Nat) : Nat :=
  if c ≤ 7 then 0 else if c ≤ 11 then 1 else if c ≤ 18 then 2 else if c ≤ 23 then 3
  else if c ≤ 26 then 4 else if c ≤ 31 then 5 else if c ≤ 32 then 6 else 7

/-- A time of day in three bytes, 255 three times while unknown (R178). -/
def timeOfDayBytes : Option Nat → List Byte
  | some t => bytesOf 3 t
  | none => [255, 255, 255]

/-- A day number's lowest 16 bits (R178). -/
def dayBytes (d : Int) : List Byte := bytesOf 2 (BitVec.ofInt 16 d).toNat

/-- The argument bytes of a notice, each argument in the width R178 gives it. -/
def Notice.args : Notice → List Byte
  | .askDropped t a n => bytesOf 1 t ++ bytesOf 1 a ++ bytesOf 1 n
  | .answerDiscarded t a id => bytesOf 1 t ++ bytesOf 1 a ++ bytesOf 2 id
  | .earlyShort id b soc target => bytesOf 2 id ++ bytesOf 1 b ++ bytesOf 2 soc ++ bytesOf 2 target
  | .swapDone o i => bytesOf 4 o ++ bytesOf 4 i
  | .noReturn id b o => bytesOf 2 id ++ bytesOf 1 b ++ bytesOf 4 o
  | .handoverTimeout id b => bytesOf 2 id ++ bytesOf 1 b
  | .doorAjar id b => bytesOf 2 id ++ bytesOf 1 b
  | .resExpired id t c => bytesOf 2 id ++ bytesOf 4 t ++ bytesOf 1 c
  | .resReleased id c => bytesOf 2 id ++ bytesOf 1 c
  | .unknownRelease id n => bytesOf 2 id ++ bytesOf 1 n
  | .resLate id b => bytesOf 2 id ++ bytesOf 1 b
  | .packMissing b sn id => bytesOf 1 b ++ bytesOf 4 sn ++ bytesOf 2 id
  | .bayFault b k sn => bytesOf 1 b ++ bytesOf 1 k.code ++ bytesOf 4 sn
  | .packRetired b sn h => bytesOf 1 b ++ bytesOf 4 sn ++ bytesOf 2 h
  | .linkLost b => bytesOf 1 b
  | .linkBack b => bytesOf 1 b
  | .doorForced b d p => bytesOf 1 b ++ bytesOf 1 (doorCode d) ++ bytesOf 1 (boolByte p)
  | .serviceRefused b a st => bytesOf 1 b ++ bytesOf 1 a ++ bytesOf 1 ((st.map BayState.code).getD 255)
  | .meterLost l m => bytesOf 3 l ++ bytesOf 3 m
  | .meterBack l => bytesOf 3 l
  | .peerTableFull st => bytesOf 1 st
  | .stationClash d p => bytesOf 3 d ++ bytesOf 3 p
  | .peerLost st => bytesOf 1 st
  | .lineState o n sc rc => bytesOf 1 o.code ++ bytesOf 1 n.code ++ bytesOf 1 sc ++ bytesOf 1 rc
  | .caution sc rc => bytesOf 1 sc ++ bytesOf 1 rc
  | .logOverflow => []
  | .templateSet id t k => bytesOf 1 (id.val + 1) ++ bytesOf 4 t ++ bytesOf 1 (boolByte k)
  | .templateCancelled t id c => bytesOf 1 t ++ bytesOf 1 (id.val + 1) ++ bytesOf 1 c.code
  | .templateRefused t r => bytesOf 1 t ++ bytesOf 1 r.code
  | .templateMiss id t r h => bytesOf 1 (id.val + 1) ++ bytesOf 4 t ++ bytesOf 1 r.code ++ bytesOf 2 h
  | .dayClockSet o n d => timeOfDayBytes o ++ bytesOf 3 n ++ dayBytes d
  | .boostFault b c h => bytesOf 1 b ++ bytesOf 1 c.code ++ bytesOf 1 (holderByte h)
  | .setupIgnored p => bytesOf 1 p
  | .setupLoaded st => bytesOf 1 st

/-! ### Condition flags (R179, R181) -/

/-- The condition flag of code `c` (1 to 34) set. -/
def setFlag (c : Nat) (flags : BitVec 34) : BitVec 34 := flags ||| BitVec.twoPow 34 (c - 1)

/-- The condition flag of code `c` (1 to 34). -/
def flagOf (c : Nat) (flags : BitVec 34) : Bool := flags.getLsbD (c - 1)

/-- The flags as the five bytes of status page 4: flag n in bit (n - 1) mod 8 of byte (n - 1) div 8 (R180). -/
def flagBytes (flags : BitVec 34) : List Byte :=
  (List.range 5).map fun k => (flags >>> (8 * k)).setWidth 8

/-- A flag mask, laid out as page 4, as 34 bits; bits beyond those sent are clear (R181). -/
def maskOfBytes : List Byte → BitVec 34
  | [] => 0
  | b :: bs => b.setWidth 34 ||| (maskOfBytes bs <<< 8)

end Sys2Proof.Machine
end

