-- ==== Sys2Proof/Machine/Operands.lean ====
section
/-! DEFINITION. The frame layouts of R171, both ways: the fields a received payload carries, the payload a frame the
part sends carries, and the precedence and kind of each frame (R160). -/

namespace Sys2Proof.Machine

/-! ### Received frames -/

/-- What a good frame is to the part (R160): a frame of an Ask kind or a Peer kind, or one that is not stored. -/
inductive Sorted
  | ask (f : AskFrame)
  | peer (f : PeerFrame)
  | notStored
  deriving DecidableEq, Repr

/-- The payload bytes that the layout of a kind names (R171). SETUP and STATUS CLEAR go on after them with content of
varying length. Kinds the part does not store need none. -/
def layoutLength (kind : Nat) : Nat :=
  match kind with
  | 0 => 6
  | 1 => 4
  | 3 => 4
  | 4 => 5
  | 5 => 12
  | 7 => 3
  | 8 => 3
  | 9 => 2
  | 10 => 12
  | 11 => 3
  | 12 => 3
  | 14 => 2
  | 15 => 1
  | 17 => 1
  | _ => 0

/-- How many bytes of its layout a frame does not carry. -/
def missingBytes (f : RawFrame) : Nat := layoutLength f.kind.toNat - f.payload.length

/-- The payload with a free value for each byte of the layout that it does not carry. DESIGN CHOICE, log entry 14. -/
def filledPayload (free : Nat) (f : RawFrame) : List Byte :=
  f.payload ++ (List.range (missingBytes f)).map fun i => Config.missingByte (free + i)

/-- An existing flag: 0 no, 1 yes (R171), and a free value for any other byte. DESIGN CHOICE, log entry 15. -/
def existingFlag (b : Byte) : Bool := if b = 0 then false else if b = 1 then true else Config.unknownFlag b

/-- The kinds that carry a destination as their first payload byte and that the part may store (R160). -/
def isAddressed (kind : Nat) : Bool := kind ∈ [7, 8, 9, 10, 11, 14, 15]

/-- The fields of a frame by its kind (R171; the kinds count the rows of its table). A frame of an addressed kind is
the part's only in RUN and with its own station as destination (R160). -/
def sortFrame (part : Part) (station : Station) (free : Nat) (f : RawFrame) : Sorted :=
  let p := filledPayload free f
  let mine := part == .run && field p 0 1 == station.val
  if isAddressed f.kind.toNat && !mine then .notStored
  else match f.kind.toNat with
  | 0 => .peer ⟨f.source, .siteFeed (field p 0 3) (field p 3 3)⟩
  | 1 => .ask ⟨f.source, .claim (field p 0 4)⟩
  | 3 => .peer ⟨f.source, .drawClaim (field p 0 2) (field p 2 2)⟩
  | 4 => .peer ⟨f.source, .offer (field p 0 1) (field p 1 1) (field p 2 2) (existingFlag (p.getD 4 0))⟩
  | 5 => .ask ⟨f.source, .swapAsk (field p 0 1) (field p 1 4) (field p 5 1) (field p 6 2) (field p 8 2) (field p 10 2)⟩
  | 7 => .ask ⟨f.source, .release (field p 1 2)⟩
  | 8 => .ask ⟨f.source, .service (field p 1 1) (field p 2 1)⟩
  | 9 => .ask ⟨f.source, .templateOpen (field p 1 1)⟩
  | 10 => .ask ⟨f.source, .templateBody (field p 1 4) (field p 5 1) ((p.getD 6 0).getLsbD 7)
            (field p 6 3 % 2 ^ 17) (field p 9 3 / 2 ^ 12) (field p 9 3 % 2 ^ 12)⟩
  | 11 => .ask ⟨f.source, .templateDrop (field p 1 1) (field p 2 1)⟩
  | 12 => .peer ⟨f.source, .dayTime (field p 0 3)⟩
  | 14 => .ask ⟨f.source, .statusAsk (field p 1 1)⟩
  | 15 => .ask ⟨f.source, .statusClear (p.drop 1)⟩
  | 17 => .ask ⟨f.source, .setup (field p 0 1) (p.drop 1)⟩
  | _ => .notStored

/-! ### Sent frames -/

/-- The precedence of a frame's kind (R160). -/
def OutFrame.precedence : OutFrame → Nat
  | .claimReply .. => 2
  | .drawClaim .. => 3
  | .offer .. => 4
  | .answer .. => 5
  | .notice .. => 10
  | .overrun .. => 10
  | .statusReply .. => 11

/-- The kind number of a frame, counting the rows of R171's table. -/
def OutFrame.kind : OutFrame → Nat
  | .claimReply .. => 2
  | .drawClaim .. => 3
  | .offer .. => 4
  | .answer .. => 6
  | .notice .. => 13
  | .overrun .. => 13
  | .statusReply .. => 16

/-- The contention word: precedence × 16 + source station (R159). -/
def contentionWord (station : Station) (f : OutFrame) : Byte := BitVec.ofNat 8 (f.precedence * 16 + station.val)

/-- Ask number, code, reservation id, cabinet station and last field of an ANSWER (R78, R171). The two fields a code
gives no content to are free values. DESIGN CHOICE, log entry 16. -/
def Answer.payload (station : Station) (free : Nat) : Answer → List Byte
  | .hold a => bytesOf 1 a ++ bytesOf 1 0 ++ bytesOf 2 0 ++ bytesOf 1 (Config.unusedAnswerField free)
      ++ bytesOf 2 (Config.unusedAnswerField (free + 1))
  | .granted a id off => bytesOf 1 a ++ bytesOf 1 1 ++ bytesOf 2 id ++ bytesOf 1 station ++ bytesOf 2 off
  | .none a r => bytesOf 1 a ++ bytesOf 1 2 ++ bytesOf 2 0 ++ bytesOf 1 (Config.unusedAnswerField free)
      ++ bytesOf 2 r.code
  | .busy id => bytesOf 1 0 ++ bytesOf 1 3 ++ bytesOf 2 id ++ bytesOf 1 (Config.unusedAnswerField free)
      ++ bytesOf 2 (Config.unusedAnswerField (free + 1))

/-- Code, reservation id, cabinet station and bay or estimate of a CLAIM REPLY; unused fields are 0 (R139, R171). -/
def Reply.payload (station : Station) : Reply → List Byte
  | .go id b => bytesOf 1 0 ++ bytesOf 2 id ++ bytesOf 1 station ++ bytesOf 2 b
  | .busy id b => bytesOf 1 1 ++ bytesOf 2 id ++ bytesOf 1 station ++ bytesOf 2 b
  | .wait id e => bytesOf 1 2 ++ bytesOf 2 id ++ bytesOf 1 station ++ bytesOf 2 e
  | .notReady id => bytesOf 1 3 ++ bytesOf 2 id ++ bytesOf 1 station ++ bytesOf 2 0
  | .tooLate => bytesOf 1 4 ++ bytesOf 2 0 ++ bytesOf 1 station ++ bytesOf 2 0

/-- The payload bytes of a frame the part sends (R171). -/
def OutFrame.payload (station : Station) (free : Nat) : OutFrame → List Byte
  | .claimReply d t r => bytesOf 1 d ++ bytesOf 4 t ++ r.payload station
  | .drawClaim d p => bytesOf 2 d ++ bytesOf 2 p
  | .offer t a off e => bytesOf 1 t ++ bytesOf 1 a ++ bytesOf 2 off ++ bytesOf 1 (boolByte e)
  | .answer d a => bytesOf 1 d ++ a.payload station free
  | .notice n => bytesOf 1 n.code ++ n.args
  | .overrun c => bytesOf 1 overrunCode ++ bytesOf 1 c
  | .statusReply d page figures => bytesOf 1 d ++ bytesOf 1 page ++ figures

/-- The frame as it goes onto the line (R159). Its length is that of the payload; its check is left out with the line's
bit-level signalling (R162). -/
def OutFrame.wire (station : Station) (free : Nat) (f : OutFrame) : WireFrame :=
  ⟨contentionWord station f, BitVec.ofNat 8 f.kind, f.payload station free⟩

end Sys2Proof.Machine
end

