-- ==== Sys2Proof/Machine/Outbound.lean ====
section
/-! DEFINITION. Posting to the Outbound queue (R168, R169) and raising a notice (R179). -/

namespace Sys2Proof.Machine

/-- The most frames the Outbound queue holds (R168). -/
def outboundSize : Nat := 8

/-- A count that holds at 255. -/
def addTo255 (c n : Nat) : Nat := min 255 (c + n)

/-- Whether a frame is a DRAW CLAIM. -/
def OutFrame.isDrawClaim : OutFrame → Bool
  | .drawClaim _ _ => true
  | _ => false

/-- Whether a frame is a NOTICE, the OVERRUN among them (R169). -/
def OutFrame.isNotice : OutFrame → Bool
  | .notice _ => true
  | .overrun _ => true
  | _ => false

/-- How many lost notices a notice stands for: an OVERRUN its count, any other notice 1 (R169). -/
def OutFrame.noticesHeld : OutFrame → Nat
  | .overrun c => c
  | _ => 1

/-- A queued notice that is not in transmission (R169). -/
def OutEntry.idleNotice (e : OutEntry) : Bool := e.frame.isNotice && !e.sending

/-- A queued OVERRUN that is not in transmission (R169). -/
def OutEntry.idleOverrun (e : OutEntry) : Bool :=
  match e.frame with
  | .overrun _ => !e.sending
  | _ => false

/-- The entry with its OVERRUN's count one higher, holding at 255 (R169). -/
def OutEntry.bump (e : OutEntry) : OutEntry :=
  match e.frame with
  | .overrun c => { e with frame := .overrun (addTo255 c 1) }
  | _ => e

/-- The list with its first member that meets `p` changed by `f`. -/
def changeFirst {α : Type} (p : α → Bool) (f : α → α) : List α → List α
  | [] => []
  | x :: xs => if p x then f x :: xs else x :: changeFirst p f xs

/-- A NOTICE posted to a full queue (R169, rows 2 to 4). Where two OVERRUNs are queued the older one counts on: DESIGN
CHOICE, log entry 33. -/
def LineController.postNoticeFull (l : LineController) : LineController :=
  if l.outQueue.any OutEntry.idleOverrun then
    { l with outQueue := changeFirst OutEntry.idleOverrun OutEntry.bump l.outQueue
             noticesLost := addTo255 l.noticesLost 1 }
  else if l.outQueue.any OutEntry.idleNotice then
    { l with outQueue := (changeFirst OutEntry.idleNotice (fun e => { e with frame := .overrun 2 }) l.outQueue.reverse).reverse
             noticesLost := addTo255 l.noticesLost 2 }
  else { l with noticesLost := addTo255 l.noticesLost 1 }

/-- Any other frame posted to a full queue (R169, rows 5 and 6). -/
def LineController.postOtherFull (f : OutFrame) (l : LineController) : LineController :=
  match l.outQueue.find? OutEntry.idleNotice with
  | some e =>
    { l with outQueue := l.outQueue.eraseP OutEntry.idleNotice ++ [⟨f, false⟩]
             noticesLost := addTo255 l.noticesLost e.frame.noticesHeld }
  | none => { l with sendsDropped := addTo255 l.sendsDropped 1 }

/-- A frame posted to the Outbound queue in RUN (R168, R169). A DRAW CLAIM replaces one that is queued and takes the new
posting as its age; the figures of one in transmission stay with the transmission. -/
def LineController.post (f : OutFrame) (l : LineController) : LineController :=
  if f.isDrawClaim && l.outQueue.any (·.frame.isDrawClaim) then
    { l with outQueue := l.outQueue.eraseP (·.frame.isDrawClaim) ++ [⟨f, false⟩] }
  else if l.outQueue.length < outboundSize then
    { l with outQueue := l.outQueue ++ [⟨f, false⟩] }
  else if f.isNotice then l.postNoticeFull
  else l.postOtherFull f

/-- A block posts a frame; while the part is UNSET the frame is discarded (R168), and neither notices-lost nor sends-dropped
counts it. DESIGN CHOICE, log entry 52. -/
def State.post (f : OutFrame) (s : State) : State :=
  match s.part with
  | .unset => s
  | .run => { s with line := s.line.post f }

/-- Whether the disable mask keeps a notice's frame back (R179). -/
def State.silenced (n : Notice) (s : State) : Bool := s.cfg.disableMask.getLsbD (groupOfCode n.code)

/-- A block raises a notice: its condition flag is set, and its frame posted unless its group is disabled (R179). -/
def State.raise (n : Notice) (s : State) : State :=
  let s := { s with flags := setFlag n.code s.flags }
  if s.silenced n then s else s.post (.notice n)

end Sys2Proof.Machine
end

