-- ==== Sys2Proof/Machine/Readiness.lean ====
section
/-! DEFINITION. The Readiness Estimator: estimates, power caps and slack (Readiness Arithmetic, R24 to R36). It keeps
no state (R24). -/

namespace Sys2Proof.Machine

/-- The stage limit without boost, in watts (R31). -/
def normalStage : Nat := 1200

/-- The stage limit with boost, in watts (R31). -/
def boostStage : Nat := 4000

/-- The stage limit a bay's boost field gives (R31). -/
def stageOf (boost : Bool) : Nat := if boost then boostStage else normalStage

/-- The estimator's "not within horizon" (R30). -/
def beyondHorizon : Nat := 65535

/-- The temperature factor k_T in per mille (R26). -/
def tempFactor (t : Int) : Nat :=
  if t < 0 then 0 else if t < 100 then 300 else if t < 150 then 600 else if t < 400 then 1000
  else if t < 450 then 500 else if t < 500 then 200 else 0

/-- One band of R27: its soc range and its taper. -/
structure Band where
  lo : Nat
  hi : Nat
  taper : Nat
  deriving DecidableEq, Repr

/-- The five bands (R27). -/
def bands : List Band := [⟨0, 800, 1000⟩, ⟨800, 850, 800⟩, ⟨850, 900, 600⟩, ⟨900, 950, 400⟩, ⟨950, 1000, 200⟩]

/-- The taper of the band that holds a soc; 0 for a soc in no band (R27). -/
def taperAt (soc : Nat) : Nat :=
  match bands.find? fun b => b.lo ≤ soc && soc < b.hi with
  | some b => b.taper
  | none => 0

/-- The band power P (R29). -/
def bandPower (limit kT taper : Nat) : Nat := limit * kT * taper / 1000000

/-- The seconds of a piece of width `w` (R28, R30). -/
def pieceSeconds (limit kT c taper w : Nat) : Nat :=
  ceilDiv (ceilDiv (w * c) 1000 * 3600) (bandPower limit kT taper)

/-- The seconds of the part of `s`..`t` that lies in a band, 0 when none of it does (R27). -/
def bandSeconds (limit kT c s t : Nat) (b : Band) : Nat :=
  let lo := max s b.lo
  let hi := min t b.hi
  if lo < hi then pieceSeconds limit kT c b.taper (hi - lo) else 0

/-- The effective capacity C (R25). -/
def effectiveCapacity (capacity health : Nat) : Nat := capacity * health / 1000

/-- The estimate from the six inputs of R24, stage by stage (R25 to R30). -/
def estimate (s t capacity health : Nat) (temperature : Int) (limit : Nat) : Nat :=
  if s ≥ t then 0
  else
    let c := effectiveCapacity capacity health
    if c = 0 then beyondHorizon
    else
      let kT := tempFactor temperature
      if kT = 0 then beyondHorizon
      else min beyondHorizon ((bands.map (bandSeconds limit kT c s t)).sum)

/-- The estimate of a pack to a target at a stage limit. -/
def packEstimate (cfg : Setup) (limit target : Nat) (p : Pack) : Nat :=
  estimate p.soc target cfg.capacity[p.cls] p.health p.temperature limit

/-- The estimate of a bay's pack; 65,535 for a bay that holds no pack record (R31). -/
def bayEstimateAt (cfg : Setup) (limit target : Nat) (b : Bay) : Nat :=
  match b.pack with
  | some p => packEstimate cfg limit target p
  | none => beyondHorizon

/-- The normal estimate of a bay's pack (R31). -/
def normalEstimate (cfg : Setup) (target : Nat) (b : Bay) : Nat := bayEstimateAt cfg normalStage target b

/-- The bay estimate: at the stage limit the boost field gives (R31). -/
def bayEstimate (cfg : Setup) (target : Nat) (b : Bay) : Nat := bayEstimateAt cfg (stageOf b.boost) target b

/-- A pack that a STOCK bay may charge: not retired and below the stock target (R3). -/
def Pack.chargeable (cfg : Setup) (p : Pack) : Bool := !p.retired && p.soc < cfg.stockTarget

/-- Whether a bay is chargeable (R3). -/
def Bay.chargeable (cfg : Setup) (b : Bay) : Bool :=
  match b.state with
  | .held => true
  | .stock => (b.pack.map (Pack.chargeable cfg)).getD false
  | _ => false

/-- The power cap of a bay at a stage limit, with its reservation's target (R32). -/
def capAt (cfg : Setup) (limit target : Nat) (b : Bay) : Nat :=
  if !b.chargeable cfg then 0
  else match b.pack with
    | none => 0
    | some p =>
      if b.state = .held ∧ p.soc ≥ target then 0
      else roundTen (bandPower limit (tempFactor p.temperature) (taperAt p.soc))

/-- The power cap p_max, at the stage limit the boost field gives (R32). -/
def powerCap (cfg : Setup) (target : Nat) (b : Bay) : Nat := capAt cfg (stageOf b.boost) target b

/-- The normal cap (R33). -/
def normalCap (cfg : Setup) (target : Nat) (b : Bay) : Nat := capAt cfg normalStage target b

/-- (window open − now) − an estimate, signed and not limited (R34). -/
def slack (windowOpen now est : Nat) : Int := (windowOpen : Int) - now - est

/-- The target of the reservation a bay names, read from a list of records; the stock target for a bay with no
reservation (R31). -/
def targetOf (cfg : Setup) (records : List Reservation) (b : Bay) : Nat :=
  match b.reservation with
  | none => cfg.stockTarget
  | some id => ((records.find? (·.id == id)).map (·.target)).getD cfg.stockTarget

end Sys2Proof.Machine
end

