-- ==== Sys2Proof/Machine/Boost.lean ====
section
/-! DEFINITION. The Boost Arbiter (The Boost Converter and its Arbiter, R104 to R118), with the boost field it drives in
the bay records (R23) and the clamp at the end of a grant (R102). -/

namespace Sys2Proof.Machine

/-- The length of the switchover, in milliseconds (R105). -/
def switchMillis : Nat := 2000

/-- A setpoint written to a bay: stored if the bay is chargeable at that moment, 0 otherwise (R21). -/
def Bay.writeSetpoint (cfg : Setup) (p : Nat) (b : Bay) : Bay :=
  { b with setpoint := if b.chargeable cfg then p else 0 }

/-- The power cap of a bay as the Bay Table and the book hold it now (R32). -/
def State.capOf (s : State) (b : BayNo) : Nat :=
  powerCap s.cfg (targetOf s.cfg s.book.records (s.bay b)) (s.bay b)

/-- The normal cap of a bay as the Bay Table and the book hold it now (R33). -/
def State.normalCapOf (s : State) (b : BayNo) : Nat :=
  normalCap s.cfg (targetOf s.cfg s.book.records (s.bay b)) (s.bay b)

/-- The Bay Table sets a bay's boost field (R23). -/
def State.setBoost (b : BayNo) (v : Bool) (s : State) : State :=
  s.setBay b { s.bay b with boost := v }

/-- The boost-end clamp: the smaller of the present setpoint and the normal cap (R102). -/
def State.clampBoostEnd (b : BayNo) (s : State) : State :=
  s.setBay b ((s.bay b).writeSetpoint s.cfg (min (s.bay b).setpoint (s.normalCapOf b)))

/-- A grant ends, the converter going to `next` (R112). Without a holder nothing happens. -/
def State.endGrant (next : Converter) (s : State) : State :=
  match s.boost.converter.holder with
  | none => s
  | some h => ({ s with boost.converter := next }.setBoost h false).clampBoostEnd h |>.request

/-- The converter is granted to a bay (R111). -/
def State.grant (b : BayNo) (s : State) : State :=
  { s with boost.converter := .granted b (s.cfg.boostSlice * 1000) }.setBoost b true |>.request

/-- Whether a bay state is HELD or STOCK (R106). -/
def BayState.eligible : BayState → Bool
  | .held => true
  | .stock => true
  | _ => false

/-- The Bay Table passes on a change of a bay's state (R106, R115). -/
def State.bayChanged (b : BayNo) (new : BayState) (s : State) : State :=
  let s := { s with boost.eligible := s.boost.eligible.set b new.eligible b.isLt }
  if s.boost.converter.holder = some b ∧ new.eligible = false then s.endGrant (.switching switchMillis) else s

/-! ### The decision (R108 to R110) -/

/-- The positions of a ring of `n` in the order a scan looks at them: from the one after the pointer round to the
pointer's own (R108). -/
def scanOrder (n ptr : Nat) : List Nat := (List.range n).map fun i => (ptr + 1 + i) % n

/-- Whether a bay is in the HIGH set and eligible (R109). -/
def Arbiter.highRequests (a : Arbiter) (b : BayNo) : Bool := b ∈ a.high && a.eligible[b]

/-- Whether a bay is in the LOW set and eligible (R110). -/
def Arbiter.lowRequests (a : Arbiter) (b : BayNo) : Bool := b ∈ a.low && a.eligible[b]

/-- Whether a position of the high ring requests: a bay by the HIGH set, the LOW member when some LOW bay does (R109). -/
def Arbiter.positionRequests (a : Arbiter) (p : Nat) : Bool :=
  if h : p < 12 then a.highRequests ⟨p, h⟩ else allBays.any a.lowRequests

/-- The first position of the high ring found requesting (R109). -/
def Arbiter.highWinner (a : Arbiter) : Option Nat := (scanOrder 13 a.highPtr).find? a.positionRequests

/-- The first bay of the low ring found requesting (R110). -/
def Arbiter.lowWinner (a : Arbiter) : Option BayNo :=
  ((scanOrder 12 a.lowPtr).map (Fin.ofNat 12)).find? a.lowRequests

/-- The winner of a decision, if there is one, and the arbiter with the pointers it leaves (R109, R110). -/
def Arbiter.decide (a : Arbiter) : Option BayNo × Arbiter :=
  match a.highWinner with
  | none => (none, a)
  | some p =>
    if h : p < 12 then (some ⟨p, h⟩, { a with highPtr := Fin.ofNat 13 p })
    else match a.lowWinner with
      | some b => (some b, { a with highPtr := 12, lowPtr := b })
      | none => (none, a)

/-- A decision made: with a winner the converter is granted, without one it is IDLE (R107, R116). -/
def State.decideGrant (s : State) : State :=
  match s.boost.decide with
  | (some b, a) => { s with boost := a }.grant b
  | (none, a) => { s with boost := { a with converter := .idle } }

/-- The Charge Planner hands over the HIGH and LOW sets (R107, R114). -/
def State.takeSets (high low : List BayNo) (s : State) : State :=
  let s := { s with boost.high := high, boost.low := low }
  match s.boost.converter with
  | .idle => s.decideGrant
  | .granted h _ => if h ∈ high ∨ h ∈ low then s else s.endGrant (.switching switchMillis)
  | .switching _ => s
  | .faulted => s

/-- A boost fault of yes from a report of bay `b` (R117). -/
def State.takeBoostFault (b : BayNo) (s : State) : State :=
  match s.boost.converter with
  | .faulted => s
  | c =>
    let s := match c.holder with
      | some _ => s.endGrant .faulted
      | none => { s with boost.converter := .faulted }
    s.raise (.boostFault b c.name c.holder)

/-! ### The arbiter's own timers -/

/-- Whether a bay other than the holder requests (R113). -/
def Arbiter.rivalOf (a : Arbiter) (h : BayNo) : Bool :=
  allBays.any fun b => b ≠ h && (a.highRequests b || a.lowRequests b)

/-- The slice timer has run out (R113): the grant ends if there is a rival and is renewed otherwise. -/
def State.sliceEnds (s : State) : State :=
  match s.boost.converter with
  | .granted h 0 =>
    if s.boost.rivalOf h then s.endGrant (.switching switchMillis)
    else { s with boost.converter := .granted h (s.cfg.boostSlice * 1000) }
  | _ => s

/-- The switch timer has run out (R116). -/
def State.switchEnds (s : State) : State :=
  match s.boost.converter with
  | .switching 0 => s.decideGrant
  | _ => s

end Sys2Proof.Machine
end

