-- ==== Sys2Proof/Machine/Bays.lean ====
section
/-! DEFINITION. The Bay Table's own side of a change of state: what a bay record holds in each state (R1, R2), the
setpoint and the lock that follow it (R21, R22), and the pack figures (R2, R3). -/

namespace Sys2Proof.Machine

/-- The data timer's 10 s, in milliseconds (R1). -/
def dataMillis : Nat := 10000

/-- The report age at which a bay's link is lost (R5). -/
def linkLossMillis : Nat := 3000

/-- The temperature at which a pack is hot: 60.0 °C (R9, R10). -/
def hotTemperature : Int := 600

/-! ### What a bay record keeps as it enters a state -/

/-- Whether the state is OPEN or AJAR, where the door is unlocked (R22) and a handover context is kept (R135). -/
def BayState.atDoor : BayState → Bool
  | .opened => true
  | .ajar => true
  | _ => false

/-- Whether the reservation field is present in the state (R1). -/
def BayState.reserved : BayState → Bool
  | .held => true
  | .ready => true
  | .opened => true
  | .ajar => true
  | _ => false

/-- Whether the state is one in which the pack record is dropped as the bay enters it (R2). -/
def BayState.dropsPack : BayState → Bool
  | .empty => true
  | .checking => true
  | .off _ => true
  | .fault .noPackData => true
  | _ => false

/-- Whether the state holds an accepted pack whose data timer may run (R1, R10). -/
def BayState.accepted : BayState → Bool
  | .stock => true
  | .held => true
  | .ready => true
  | _ => false

/-- Whether the state is FAULT or OFF, where a pending lock is ordered at once (R22). -/
def BayState.outOfUse : BayState → Bool
  | .fault _ => true
  | .off _ => true
  | _ => false

/-- The data timer as a bay goes from `old` to `new`: started in CHECKING, kept among STOCK, HELD and READY, stopped
otherwise (R9, R10, R12, R14). -/
def timerEntering (old new : BayState) (t : Option Nat) : Option Nat :=
  match new with
  | .checking => some dataMillis
  | _ => if old.accepted && new.accepted then t else none

/-- Whether the state is OFF. -/
def BayState.isOff : BayState → Bool
  | .off _ => true
  | _ => false

/-- The lock and lock pending as a bay goes from `old` to `new` (R22). A bay that leaves OPEN or AJAR is LOCKED at once if
its door is CLOSED and waits with lock pending if it is OPEN, in FAULT too (R142, R144, R146), but in OFF it is LOCKED
(R5, R147). A bay that enters FAULT or OFF from any other state is LOCKED at once. OPEN and AJAR hold no pending lock:
DEDUCED, log entry 22. -/
def lockEntering (old new : BayState) (door : Door) (locked lockPending : Bool) : Bool × Bool :=
  if new.atDoor then (false, false)
  else if new.isOff then (true, false)
  else if old.atDoor then
    match door with
    | .closed => (true, false)
    | .opened => (locked, true)
  else if new.outOfUse then (true, false)
  else (locked, lockPending)

/-- The record of a bay that enters a state: each field that is present in some states only is kept or dropped, the
lock follows R22, and the setpoint is forced to 0 when the bay is not chargeable there (R1, R2, R21). -/
def Bay.entering (cfg : Setup) (new : BayState) (b : Bay) : Bay :=
  let lock := lockEntering b.state new b.door b.locked b.lockPending
  let x : Bay :=
    { b with
      state := new
      pendingFault := if new.atDoor then b.pendingFault else none
      pack := if new.dropsPack then none else b.pack
      dataTimer := timerEntering b.state new b.dataTimer
      reservation := if new.reserved then b.reservation else none
      locked := lock.1
      lockPending := lock.2
      handover := if new.atDoor then b.handover else none }
  x.writeSetpoint cfg x.setpoint

/-- A bay enters a state: its record follows, a plan pass is requested, and the Boost Arbiter is told (R7, R106). -/
def State.enterBay (b : BayNo) (new : BayState) (s : State) : State :=
  (s.setBay b ((s.bay b).entering s.cfg new)).request.bayChanged b new

/-- A record of a bay changed by `f`, the setpoint being forced to 0 if the bay is not chargeable then (R21). -/
def State.changeBay (b : BayNo) (f : Bay → Bay) (s : State) : State :=
  let x := f (s.bay b)
  s.setBay b (x.writeSetpoint s.cfg x.setpoint)

/-! ### Requests of R16 that touch one bay -/

/-- The Bay Table's side of a bind: STOCK to HELD with the reservation (R16). -/
def State.bindBay (b : BayNo) (id : Nat) (s : State) : State :=
  (s.setBay b { s.bay b with reservation := some id }).enterBay b .held

/-- A release: HELD or READY to STOCK; in any other state the bay is left as it is (R16). -/
def State.releaseBay (b : BayNo) (s : State) : State :=
  match (s.bay b).state with
  | .held => s.enterBay b .stock
  | .ready => s.enterBay b .stock
  | _ => s

/-! ### Reports: range limits, figures and kinds of fault -/

/-- The report with soc, health and temperature limited to their ranges (R4). -/
def limitReport (r : Report) : Report :=
  { r with soc := min 1000 r.soc, health := min 1000 r.health, temperature := max (-400) (min 850 r.temperature) }

/-- Whether a report carries pack data (1.2). -/
def carriesPack (r : Report) : Bool := r.present && r.serial ≠ 0

/-- Whether a report carries pack data with the serial of this bay's pack record. -/
def Bay.sameSerial (r : Report) (b : Bay) : Bool :=
  carriesPack r && (match b.pack with | some p => p.serial == r.serial | none => false)

/-- Whether a report carries pack data with a serial other than that of this bay's pack record. -/
def Bay.otherSerial (r : Report) (b : Bay) : Bool :=
  carriesPack r && (match b.pack with | some p => p.serial != r.serial | none => false)

/-- The serial of a bay's pack record, 0 when there is none (R12). -/
def Bay.serial (b : Bay) : Nat := (b.pack.map (·.serial)).getD 0

/-- A pack record made from a report, its retired flag computed (R3, R9). -/
def packOfReport (cfg : Setup) (r : Report) : Pack :=
  ⟨r.serial, r.cls, r.soc, r.temperature, r.health, r.health < cfg.retireThreshold⟩

/-- The pack record with a report's figures; serial and class never change (R2, R3). -/
def Pack.copyFigures (cfg : Setup) (r : Report) (p : Pack) : Pack :=
  { p with soc := r.soc, temperature := r.temperature, health := r.health
           retired := r.health < cfg.retireThreshold }

/-- A report's figures are copied into the pack record: PACK_RETIRED is raised when the retired flag becomes yes, and a
plan pass requested when it changes or a STOCK bay's chargeability does (R2, R3, R10, R21). -/
def State.copyFigures (b : BayNo) (r : Report) (s : State) : State :=
  match (s.bay b).pack with
  | none => s
  | some p =>
    let p' := p.copyFigures s.cfg r
    let was := (s.bay b).chargeable s.cfg
    let s := s.changeBay b fun x => { x with pack := some p' }
    let s := if p'.retired && !p.retired then s.raise (.packRetired b p'.serial p'.health) else s
    if p'.retired ≠ p.retired ∨ (s.bay b).chargeable s.cfg ≠ was then s.request else s

/-- The fault kind a report shows for a pack, a pack fault ranking above heat (R9, R10, R12). -/
def packFaultKind (r : Report) : Option FaultKind :=
  if r.packFault then some .packFault else if r.temperature ≥ hotTemperature then some .packHot else none

/-- The rank of a fault kind that may be pending: a stage fault above a pack fault, a pack fault above heat (R12). -/
def FaultKind.rank : FaultKind → Nat
  | .stageFault => 2
  | .packFault => 1
  | _ => 0

/-- A pending fault after a further kind has been reported: a higher-ranked kind takes its place, and it is never
cleared (R14). -/
def joinPending (old new : Option FaultKind) : Option FaultKind :=
  match old, new with
  | none, n => n
  | o, none => o
  | some o, some n => if n.rank > o.rank then some n else some o

/-- The fault kind a report shows in OPEN and AJAR: a stage fault, or a fault of the original pack (R14). -/
def Bay.pendingKind (r : Report) (b : Bay) : Option FaultKind :=
  if r.stageFault then some .stageFault else if b.sameSerial r then packFaultKind r else none

/-! ### The door step (R4, R22) -/

/-- The record of a bay whose door field is set from a report, with a pending lock ordered as the door closes. -/
def Bay.doorStep (r : Report) (b : Bay) : Bay :=
  if b.lockPending && r.door == .closed then { b with door := r.door, locked := true, lockPending := false }
  else { b with door := r.door }

/-- Whether a report shows the door forced: OPEN now and CLOSED before, with the lock LOCKED and none pending (R22).
A door that opened while UNLOCKED and is still OPEN as the lock is forced LOCKED raises nothing: DESIGN CHOICE, log entry 53. -/
def Bay.doorForced (r : Report) (b : Bay) : Bool :=
  b.door == .closed && r.door == .opened && b.locked && !b.lockPending

/-- The second part of R4: the door field is set and the door checks of R22 are made. -/
def State.doorStep (b : BayNo) (r : Report) (s : State) : State :=
  let forced := (s.bay b).doorForced r
  let s := s.setBay b ((s.bay b).doorStep r)
  if forced then s.raise (.doorForced b r.door r.present) else s

end Sys2Proof.Machine
end

