-- ==== Sys2Proof/Machine/Book.lean ====
section
/-! DEFINITION. The Reservation Book (R37 to R60): creation, binding, the changes of state, expiry, release and removal,
with the Ask Handler's side of a removal (R80). -/

namespace Sys2Proof.Machine

/-- The most records the book holds (R38). -/
def bookSize : Nat := 32

/-- The most tokens the expired-token list holds (R54). -/
def expiredSize : Nat := 8

/-! ### Creation (R38, R39, R41) -/

/-- The id after this one, going from 65535 to 1 (R39). -/
def nextAfter (id : Nat) : Nat := if id ≥ 65535 then 1 else id + 1

/-- The first id from `id` on that no record holds, tried at most `fuel` times (R39). -/
def Book.freeId (k : Book) : Nat → Nat → Nat
  | 0, id => id
  | fuel + 1, id => if (k.byId id).isSome then k.freeId fuel (nextAfter id) else id

/-- Whether record `a` stands before `b` in book order: by window open, then by id (R38). -/
def inBookOrder (a b : Reservation) : Bool :=
  a.windowOpen < b.windowOpen || (a.windowOpen == b.windowOpen && a.id ≤ b.id)

/-- A record inserted in book order (R38). -/
def insertRecord (r : Reservation) : List Reservation → List Reservation
  | [] => [r]
  | x :: xs => if inBookOrder r x then r :: x :: xs else x :: insertRecord r xs

/-- Why a creation is refused (R41). -/
inductive CreateRefusal | noRider | tokenHeld | bookFull | limit
  deriving DecidableEq, Repr

/-- The outcome of a creation request (R41). -/
inductive Created
  | ok (id : Nat)
  | refused (why : CreateRefusal)
  deriving DecidableEq, Repr

/-- A creation request (R41). -/
structure Request where
  token : Nat
  cls : PackClass
  target : Nat
  windowOpen : Nat
  window : Nat
  origin : Origin
  deriving DecidableEq, Repr

/-- The first of the four checks of R41 that fails. -/
def Book.check (cfg : Setup) (q : Request) (k : Book) : Option CreateRefusal :=
  if q.token = 0 then some .noRider
  else if (k.byToken q.token).isSome then some .tokenHeld
  else if k.records.length ≥ bookSize then some .bookFull
  else if k.commit[q.cls] ≥ cfg.commitLimit[q.cls] then some .limit
  else none

/-- The record a granted request makes (R41). -/
def Request.record (id : Nat) (q : Request) : Reservation :=
  let length := limitTo 120 3600 q.window
  { id, token := q.token, cls := q.cls, target := limitTo 500 1000 q.target
    windowOpen := q.windowOpen, windowClose := q.windowOpen + length
    state := .pending, origin := q.origin, late := false, atDoor := false }

/-- The book with a record for a granted request (R39, R40, R41, R54). -/
def Book.insert (id : Nat) (q : Request) (k : Book) : Book :=
  { k with records := insertRecord (q.record id) k.records
           commit := k.commit.set q.cls (k.commit[q.cls] + 1) q.cls.isLt
           nextId := nextAfter id
           expired := k.expired.filter (· ≠ q.token) }

/-- A creation request taken whole (R41). -/
def State.createRecord (q : Request) (s : State) : Created × State :=
  match s.book.check s.cfg q with
  | some why => (.refused why, s)
  | none =>
    let id := s.book.freeId (s.book.records.length + 1) s.book.nextId
    (.ok id, { s with book := s.book.insert id q }.request)

/-! ### Removal and expiry (R52 to R54, R57) -/

/-- The Ask Handler turns a WON slot that names a removed id into NONE(GONE), its discard timer running on (R80). -/
def Slot.forget (id : Nat) (x : Slot) : Slot :=
  match x.state with
  | .won n _ _ d => if n = id then { x with state := .none d, reason := some .gone } else x
  | _ => x

/-- The table with every WON slot that names a removed id turned (R80). -/
def State.tellRemoved (id : Nat) (s : State) : State :=
  { s with asks.slots := Vector.ofFn fun i => (s.asks.slots[i]).map (Slot.forget id) }

/-- The book without a record, its class's commitment one lower (R40, R57). -/
def Book.remove (r : Reservation) (k : Book) : Book :=
  { k with records := k.records.filter (·.id ≠ r.id)
           commit := k.commit.set r.cls (k.commit[r.cls] - 1) r.cls.isLt }

/-- The bay of a BOUND or READY record is released to STOCK (R57). -/
def State.releaseOf (r : Reservation) (s : State) : State :=
  match r.state with
  | .bound b => s.releaseBay b
  | .ready b => s.releaseBay b
  | _ => s

/-- A removal but for its notice (R57): the bay released, the record out of the book, the commitment freed, the Ask
Handler told, and a plan pass requested. -/
def State.removeRecord (r : Reservation) (s : State) : State :=
  let s := s.releaseOf r
  ({ s with book := s.book.remove r }.tellRemoved r.id).request

/-- A token put at the newest end of the expired-token list, the oldest being dropped beyond eight (R54). -/
def pushExpired (token : Nat) (l : List Nat) : List Nat :=
  let l := l.filter (· ≠ token) ++ [token]
  l.drop (l.length - expiredSize)

/-- The expiry instant of a record (R52). -/
def Reservation.expiry (cfg : Setup) (r : Reservation) : Nat := r.windowClose + cfg.expiryGrace

/-- Whether a record's expiry is due: its instant reached and at door no (R52). -/
def Reservation.expiryDue (cfg : Setup) (now : Nat) (r : Reservation) : Bool := r.expiry cfg ≤ now && !r.atDoor

/-- A record expires (R53). -/
def State.expire (r : Reservation) (s : State) : State :=
  ({ s with book.expired := pushExpired r.token s.book.expired }.removeRecord r).raise (.resExpired r.id r.token r.cls)

/-- The expiry check of one record (R52). -/
def State.expiryCheck (id : Nat) (s : State) : State :=
  match s.book.byId id with
  | none => s
  | some r => if r.expiryDue s.cfg s.clock.seconds then s.expire r else s

/-! ### Changes of state -/

/-- An unbind (R46): a BOUND or READY record that names the bay goes back to PENDING, and if at door was yes the expiry
check is made. -/
def State.unbind (id : Nat) (b : BayNo) (s : State) : State :=
  match s.book.byId id with
  | none => s
  | some r =>
    if r.state = .bound b ∨ r.state = .ready b then
      let s := (s.updateRecord id fun r => { r with state := .pending, late := false, atDoor := false }).request
      if r.atDoor then s.expiryCheck id else s
    else s

/-- A bay leaves its state for a cause of its own, and the reservation it named is unbound (R17). -/
def State.leaveBay (b : BayNo) (new : BayState) (s : State) : State :=
  let id := (s.bay b).reservation
  let s := s.enterBay b new
  match id with
  | some id => s.unbind id b
  | none => s

/-- A bay enters FAULT (R12): BAY_FAULT is raised with the serial of the pack record, 0 when there is none, and the
reservation the bay named is unbound. -/
def State.faultBay (b : BayNo) (k : FaultKind) (s : State) : State :=
  let id := (s.bay b).reservation
  let s := s.enterBay b (.fault k)
  let s := s.raise (.bayFault b k (s.bay b).serial)
  match id with
  | some id => s.unbind id b
  | none => s

/-- The Bay Table passes on the soc of a HELD or READY bay (R47, R48). -/
def State.passSoc (b : BayNo) (soc : Nat) (s : State) : State :=
  match (s.bay b).reservation.bind s.book.byId with
  | none => s
  | some r =>
    match (s.bay b).state with
    | .held =>
      if r.state = .bound b ∧ soc ≥ r.target then
        (s.enterBay b .ready).updateRecord r.id fun r => { r with state := .ready b, late := false }
      else s
    | .ready =>
      if r.state = .ready b ∧ soc + 30 < r.target then
        (s.enterBay b .held).updateRecord r.id fun r => { r with state := .bound b, late := false }
      else s
    | _ => s

/-- A bind request (R44): applied only to a PENDING record and a STOCK bay. -/
def State.bindRecord (id : Nat) (b : BayNo) (s : State) : State :=
  match s.book.byId id with
  | none => s
  | some r =>
    if r.state = .pending ∧ (s.bay b).state = .stock then
      (s.bindBay b id).updateRecord id fun r => { r with state := .bound b, late := false }
    else s

/-- A rebind request (R45): applied only to a BOUND record at door no that names the old bay, with the old bay HELD for
it and the new bay STOCK. -/
def State.rebindRecord (id : Nat) (old new : BayNo) (s : State) : State :=
  match s.book.byId id with
  | none => s
  | some r =>
    if r.state = .bound old ∧ r.atDoor = false ∧ (s.bay old).state = .held ∧ (s.bay old).reservation = some id
        ∧ (s.bay new).state = .stock then
      ((s.enterBay old .stock).bindBay new id).updateRecord id fun r => { r with state := .bound new }
    else s

/-- A late flag written by a pass (R49): applied only to a BOUND record that names the bay; RES_LATE is raised when the
flag becomes yes. -/
def State.writeLate (id : Nat) (b : BayNo) (late : Bool) (s : State) : State :=
  match s.book.byId id with
  | none => s
  | some r =>
    if r.state = .bound b then
      let s := s.updateRecord id fun r => { r with late }
      if late && !r.late then s.raise (.resLate id b) else s
    else s

/-! ### The door (R50, R51, R59) -/

/-- The prior state a record keeps as its handover begins, and its bay (R50). -/
def Reservation.mayGo (r : Reservation) : Option (BayNo × Prior) :=
  if r.atDoor then none
  else match r.state with
    | .bound b => some (b, .bound)
    | .ready b => some (b, .ready)
    | _ => none

/-- The state a record goes back to from HANDOVER. -/
def Prior.state (b : BayNo) : Prior → RecordState
  | .bound => .bound b
  | .ready => .ready b

/-- A return request (R51): a record in HANDOVER goes back to its prior state with at door still yes. -/
def State.returnRecord (id : Nat) (s : State) : State :=
  match s.book.byId id with
  | none => s
  | some r =>
    match r.state with
    | .handover b p => (s.updateRecord id fun r => { r with state := p.state b, late := false }).request
    | _ => s

/-- A door clear (R51): at door goes to no and the expiry check is made at once. -/
def State.doorClear (id : Nat) (s : State) : State :=
  match s.book.byId id with
  | none => s
  | some r =>
    if r.atDoor then (s.updateRecord id fun r => { r with atDoor := false }).expiryCheck id else s

/-- A done request (R59): a record in HANDOVER is removed with cause DONE. -/
def State.doneRecord (id : Nat) (s : State) : State :=
  match s.book.byId id with
  | none => s
  | some r =>
    match r.state with
    | .handover _ _ => s.removeRecord r
    | _ => s

/-! ### Discard and release (R55, R56, R58) -/

/-- A discard request (R58): whether the record was removed, and the state after. -/
def State.discardRecord (id : Nat) (s : State) : Bool × State :=
  match s.book.byId id with
  | none => (false, s)
  | some r => if r.atDoor then (false, s) else (true, s.removeRecord r)

/-- A RELEASE from a station names a reservation id (R55, R56). -/
def State.releaseRecord (source : Station) (id : Nat) (s : State) : State :=
  match s.book.byId id with
  | some r =>
    if r.atDoor then s.post (.answer source (.busy id))
    else (s.removeRecord r).raise (.resReleased r.id r.cls)
  | none =>
    let n := addTo255 s.book.unknownReleases 1
    { s with book.unknownReleases := n }.raise (.unknownRelease id n)

end Sys2Proof.Machine
end

