-- ==== Sys2Proof/Machine/Asks.lean ====
section
/-! DEFINITION. The Ask Handler (Asks, Offers and Held Answers, R61 to R81). -/

namespace Sys2Proof.Machine

/-- The bid window's 400 ms (R64). -/
def bidMillis : Nat := 400

/-- The four slots in the order they are looked through. -/
def allSlots : List SlotNo := List.finRange 4

/-- The table with another content for a slot. -/
def State.setSlot (i : SlotNo) (x : Option Slot) (s : State) : State :=
  { s with asks.slots := s.asks.slots.set i x i.isLt }

/-- The fields of an ask after limiting (R62). -/
structure Ask where
  terminal : Station
  ask : Nat
  token : Nat
  cls : Nat
  target : Nat
  arrivalEstimate : Nat
  window : Nat
  deriving DecidableEq, Repr

/-- The fields of a SWAP ASK, each limited to its range; class and token are kept as received (R62). -/
def limitAsk (terminal : Station) (ask token cls target arrivalEstimate window : Nat) : Ask :=
  ⟨terminal, ask, token, cls, limitTo 500 1000 target, min 14400 arrivalEstimate, limitTo 120 3600 window⟩

/-! ### The part's own offer (R65 to R67) -/

/-- A class number, if it is a class. -/
def classNo? (n : Nat) : Option PackClass := if h : n < 4 then some ⟨n, h⟩ else none

/-- Whether a bay holds a candidate pack of a class: STOCK and not retired (R67). -/
def Bay.offers (c : PackClass) (b : Bay) : Bool :=
  b.state == .stock && (match b.pack with | some p => !p.retired && p.cls == c | none => false)

/-- The smallest normal estimate of the candidates of a class, the lower bay number first among equals (R67). -/
def State.bestOffset (c : PackClass) (target : Nat) (s : State) : Option Nat :=
  ((baysWhere fun b => (s.bay b).offers c).map fun b => normalEstimate s.cfg target (s.bay b)).min?

/-- The part's own decision on a new ask: an offer, or the reason for making none (R65 to R67). -/
def State.ownOffer (a : Ask) (s : State) : Offer ⊕ NoneReason :=
  if (s.book.byToken a.token).isSome then .inl ⟨0, true⟩
  else if a.token = 0 then .inr .noPack
  else match classNo? a.cls with
    | none => .inr .noPack
    | some c =>
      if !(allBays.any fun b => (s.bay b).mask.getLsbD c) then .inr .noPack
      else if s.book.records.length ≥ bookSize then .inr .full
      else if s.book.commit[c] ≥ s.cfg.commitLimit[c] then .inr .full
      else match s.bestOffset c a.target with
        | none => .inr .noPack
        | some off => if off > a.arrivalEstimate + a.window then .inr .noPack else .inl ⟨off, false⟩

/-! ### Taking an ask (R62 to R64) -/

/-- Whether a slot holds the ask of a terminal with an ask number (R61). -/
def Slot.isFor (terminal : Station) (ask : Nat) (x : Slot) : Bool := x.terminal == terminal && x.ask == ask

/-- The slot that holds an ask, if one does. -/
def State.slotOf (terminal : Station) (ask : Nat) (s : State) : Option (SlotNo × Slot) :=
  allSlots.findSome? fun i =>
    match s.asks.slots[i] with
    | some x => if x.isFor terminal ask then some (i, x) else none
    | none => none

/-- The lowest free slot. DESIGN CHOICE, log entry 29: the manual does not number the slots. -/
def State.freeSlot (s : State) : Option SlotNo := allSlots.find? fun i => s.asks.slots[i].isNone

/-- Whether a repeat matches its slot; the arrival estimate is not compared (R62). -/
def Slot.matches (a : Ask) (x : Slot) : Bool :=
  x.token == a.token && x.cls == a.cls && x.target == a.target && x.window == a.window

/-- A repeat of the ask in a slot (R75 to R77). -/
def State.answerRepeat (i : SlotNo) (x : Slot) (a : Ask) (s : State) : State :=
  let hold := s.post (.answer x.terminal (.hold x.ask))
  match x.state with
  | .bidding _ => hold
  | .won id off _ _ =>
    if x.matches a then (s.post (.answer x.terminal (.granted x.ask id off))).setSlot i none else hold
  | .none _ =>
    if x.matches a then
      (s.post (.answer x.terminal (.none x.ask (x.reason.getD .noPack)))).setSlot i none
    else hold
  | .lost _ => s

/-- A new ask opens a slot in BIDDING, with the part's own offer or its reason (R64, R68). -/
def State.openSlot (i : SlotNo) (a : Ask) (s : State) : State :=
  let x : Slot :=
    { terminal := a.terminal, ask := a.ask, token := a.token, cls := a.cls, target := a.target, window := a.window
      arrivalEstimate := a.arrivalEstimate, arrival := s.clock.seconds
      state := .bidding bidMillis, own := none, reason := none, heard := none }
  match s.ownOffer a with
  | .inl o => (s.setSlot i (some { x with own := some o })).post (.offer a.terminal a.ask o.offset o.existing)
  | .inr r => s.setSlot i (some { x with reason := some r })

/-- A new ask that finds no free slot is dropped (R63). -/
def State.dropAsk (a : Ask) (s : State) : State :=
  let n := addTo255 s.asks.dropped 1
  { s with asks.dropped := n }.raise (.askDropped a.terminal a.ask n)

/-- A SWAP ASK taken in RUN (R62). -/
def State.takeAsk (a : Ask) (s : State) : State :=
  match s.slotOf a.terminal a.ask with
  | some (i, x) => s.answerRepeat i x a
  | none =>
    match s.freeSlot with
    | some i => s.openSlot i a
    | none => s.dropAsk a

/-! ### Offers and the end of the bid window (R69 to R74) -/

/-- Whether an offer ranks before another: lower offset, then existing before new, then lower station (R70). -/
def ranksBefore (a b : Heard) : Bool :=
  a.offset < b.offset ||
    (a.offset == b.offset &&
      ((a.existing && !b.existing) || (a.existing == b.existing && a.station < b.station)))

/-- A BIDDING slot after a peer offer has been heard (R69). -/
def Slot.hear (o : Heard) (x : Slot) : Slot :=
  match x.heard with
  | none => { x with heard := some o }
  | some h => if ranksBefore o h then { x with heard := some o } else x

/-- Whether a slot is in BIDDING. -/
def Slot.isBidding (x : Slot) : Bool :=
  match x.state with
  | .bidding _ => true
  | _ => false

/-- A peer OFFER taken in RUN (R69). -/
def State.takeOffer (source : Station) (terminal ask offset : Nat) (existing : Bool) (s : State) : State :=
  if source = s.cfg.station then s
  else match allSlots.find? fun i =>
      match s.asks.slots[i] with
      | some x => x.isBidding && x.terminal.val == terminal && x.ask == ask
      | none => false with
    | some i => s.setSlot i (s.asks.slots[i].map (Slot.hear ⟨offset, existing, source⟩))
    | none => s

/-- Whether the part's own offer wins against the best heard one (R70, R71). -/
def ownWins (station : Station) (o : Offer) : Option Heard → Bool
  | none => true
  | some h => ranksBefore ⟨o.offset, o.existing, station⟩ h

/-- The discard time of the setup store, in milliseconds (R74). -/
def State.discardMillis (s : State) : Nat := s.cfg.discardTime * 1000

/-- A slot gone to NONE with a reason, its discard timer started (R71 to R74). -/
def Slot.toNone (discard : Nat) (r : NoneReason) (x : Slot) : Slot := { x with state := .none discard, reason := some r }

/-- The slot won with the rider's existing reservation, or NONE(GONE) if it has left the book (R73). -/
def State.winExisting (i : SlotNo) (x : Slot) (s : State) : State :=
  match s.book.byToken x.token with
  | some r => s.setSlot i (some { x with state := .won r.id 0 .existing s.discardMillis })
  | none => s.setSlot i (some (x.toNone s.discardMillis .gone))

/-- The slot won with a new offer: a creation request, and the slot follows its answer (R72). -/
def State.winNew (i : SlotNo) (x : Slot) (offset : Nat) (s : State) : State :=
  match classNo? x.cls with
  | none => s.setSlot i (some (x.toNone s.discardMillis .noPack))
  | some c =>
    let (answer, s) := s.createRecord ⟨x.token, c, x.target, x.arrival + x.arrivalEstimate, x.window, .ask⟩
    match answer with
    | .ok id => s.setSlot i (some { x with state := .won id offset .new s.discardMillis })
    | .refused .tokenHeld => s.winExisting i x
    | .refused .noRider => s.setSlot i (some (x.toNone s.discardMillis .noPack))
    | .refused .bookFull => s.setSlot i (some (x.toNone s.discardMillis .full))
    | .refused .limit => s.setSlot i (some (x.toNone s.discardMillis .full))

/-- The bid of a slot resolved (R71). -/
def State.resolveBid (i : SlotNo) (x : Slot) (s : State) : State :=
  match x.own, x.heard with
  | some o, h =>
    if ownWins s.cfg.station o h then
      if o.existing then s.winExisting i x else s.winNew i x o.offset
    else s.setSlot i (some { x with state := .lost s.discardMillis })
  | none, some _ => s.setSlot i (some { x with state := .lost s.discardMillis })
  | none, none => s.setSlot i (some { x with state := .none s.discardMillis })

/-- Whether a slot's bid timer has run out (R71). -/
def Slot.bidDue (x : Slot) : Bool := x.state == .bidding 0

/-- The bid timer of a slot has run out (R71). -/
def State.bidEnds (i : SlotNo) (s : State) : State :=
  match s.asks.slots[i] with
  | some x => if x.bidDue then s.resolveBid i x else s
  | none => s

/-! ### Discard (R79) -/

/-- Whether a slot's discard timer has run out (R79). -/
def Slot.discardDue (x : Slot) : Bool :=
  match x.state with
  | .won _ _ _ d => d == 0
  | .lost d => d == 0
  | .none d => d == 0
  | .bidding _ => false

/-- A slot freed at the end of its discard timer, with a discard request for a NEW won reservation (R79). -/
def State.discardSlot (i : SlotNo) (x : Slot) (s : State) : State :=
  match x.state with
  | .won id _ .new _ =>
    let (removed, s) := s.discardRecord id
    let s := s.setSlot i none
    if removed then s.raise (.answerDiscarded x.terminal x.ask id) else s
  | _ => s.setSlot i none

/-- The discard timer of a slot has run out (R79). -/
def State.discardEnds (i : SlotNo) (s : State) : State :=
  match s.asks.slots[i] with
  | some x => if x.discardDue then s.discardSlot i x else s
  | none => s

end Sys2Proof.Machine
end

