-- ==== Sys2Proof/Machine/Handover.lean ====
section
/-! DEFINITION. The Handover Unit (Handover at the Door, R135 to R149): the end of a handover, the door sequence, the
handover and door-ajar timers, and a link lost during a handover. -/

namespace Sys2Proof.Machine

/-- The state a handover end names (R16, R14). -/
inductive HandoverEnd | held | ready | checking | empty
  deriving DecidableEq, Repr

/-- The bay state that a handover end names. -/
def HandoverEnd.state : HandoverEnd → BayState
  | .held => .held
  | .ready => .ready
  | .checking => .checking
  | .empty => .empty

/-- The handover end that returns a record to its prior state (R143). -/
def Prior.ending : Prior → HandoverEnd
  | .bound => .held
  | .ready => .ready

/-- The prior state of the record with this id while it is in HANDOVER (R37). -/
def Book.priorOf (k : Book) (id : Nat) : Option Prior :=
  match k.byId id with
  | none => none
  | some r =>
    match r.state with
    | .handover _ p => some p
    | _ => none

/-- The state a bay goes to at a handover end, its pending fault applied by the table of R14. -/
def endState (pending : Option FaultKind) (e : HandoverEnd) : BayState :=
  match pending, e with
  | some k, .held => .fault k
  | some k, .ready => .fault k
  | some .stageFault, _ => .fault .stageFault
  | _, _ => e.state

/-- A handover end (R16, R14): the bay enters the state named, or FAULT with its pending fault. -/
def State.endHandover (b : BayNo) (e : HandoverEnd) (s : State) : State :=
  match endState (s.bay b).pendingFault e with
  | .fault k => s.faultBay b k
  | st => s.enterBay b st

/-- Steps 1 to 3 of a return to the prior state (R143): the record returns, the bay follows it, and at door is cleared if
the bay came back to HELD or READY. -/
def State.returnHandover (b : BayNo) (id : Nat) (s : State) : State :=
  match s.book.priorOf id with
  | some p =>
    let s := (s.returnRecord id).endHandover b p.ending
    if (s.bay b).state = .held ∨ (s.bay b).state = .ready then s.doorClear id else s
  | none => s

/-- A swap completes but for step 4 (R141, steps 1 to 3). -/
def State.completeSwap (b : BayNo) (h : Handover) (inSerial : Nat) (s : State) : State :=
  ((s.endHandover b .checking).doneRecord h.reservation).raise (.swapDone (h.outSerial.getD 0) inSerial)

/-- A handover ends with no return (R144). -/
def State.noReturn (b : BayNo) (h : Handover) (s : State) : State :=
  ((s.endHandover b .empty).doneRecord h.reservation).raise
    (.noReturn h.reservation b (h.outSerial.getD 0))

/-- A return with the bay left AJAR (R145). -/
def State.leaveAjar (b : BayNo) (h : Handover) (s : State) : State :=
  match s.book.priorOf h.reservation with
  | some p =>
    let s := s.returnRecord h.reservation
    match (s.bay b).pendingFault with
    | some _ => s.endHandover b p.ending
    | none =>
      let s := s.setBay b { s.bay b with handover := some { h with timer := s.cfg.handoverTime * 1000 } }
      (s.enterBay b .ajar).raise (.doorAjar h.reservation b)
  | none => s

/-! ### Timers -/

/-- Whether the handover timer of an OPEN bay has run out (R142). -/
def Bay.handoverDue (b : Bay) : Bool :=
  b.state == .opened && (match b.handover with | some h => h.timer == 0 | none => false)

/-- Whether the door-ajar timer of an AJAR bay has run out (R145). -/
def Bay.ajarDue (b : Bay) : Bool :=
  b.state == .ajar && (match b.handover with | some h => h.timer == 0 | none => false)

/-- The handover of a bay is ended by the table of R142. -/
def State.handoverEnds (b : BayNo) (h : Handover) (s : State) : State :=
  match h.packRemoved, (s.bay b).lastPresent, (s.bay b).door with
  | true, some true, _ => s.completeSwap b h 0
  | true, _, _ => s.noReturn b h
  | false, some true, .closed =>
    (s.returnHandover b h.reservation).raise (.handoverTimeout h.reservation b)
  | false, some true, .opened => s.leaveAjar b h
  | false, _, _ => s

/-- The handover timer of a bay has run out (R142). -/
def State.handoverTimerEnds (b : BayNo) (s : State) : State :=
  match (s.bay b).handover with
  | some h => if (s.bay b).handoverDue then s.handoverEnds b h else s
  | none => s

/-- The door-ajar timer of a bay has run out (R145): DOOR_AJAR again, and the timer restarted. -/
def State.ajarTimerEnds (b : BayNo) (s : State) : State :=
  match (s.bay b).handover with
  | some h =>
    if (s.bay b).ajarDue then
      (s.setBay b { s.bay b with handover := some { h with timer := s.cfg.handoverTime * 1000 } }).raise
        (.doorAjar h.reservation b)
    else s
  | none => s

/-! ### Reports in OPEN and AJAR -/

/-- What BT does with a report in OPEN and AJAR before handing it on (R14): figures of the original pack, and the pending
fault. -/
def State.reportAtDoor (b : BayNo) (r : Report) (s : State) : State :=
  let kind := (s.bay b).pendingKind r
  let s := if (s.bay b).sameSerial r then s.copyFigures b r else s
  s.setBay b { s.bay b with pendingFault := joinPending (s.bay b).pendingFault kind }

/-- The context and record after a report in OPEN: the removal of the original pack is noted once (R140, R14). -/
def Bay.noteRemoval (r : Report) (b : Bay) : Bay :=
  match b.handover with
  | some h =>
    if !h.packRemoved && (!r.present || b.otherSerial r) then
      { b with handover := some { h with packRemoved := true, outSerial := some b.serial }, pack := none }
    else b
  | none => b

/-- Whether a report completes the swap: the door goes from OPEN to CLOSED with a pack present and the original one
removed (R141). The context is read as this same report left it. DEDUCED, log entry 24. -/
def completesSwap (doorBefore : Door) (r : Report) (h : Handover) : Bool :=
  doorBefore == .opened && r.door == .closed && r.present && h.packRemoved

/-- The in-serial of a completing report: 0 when it carries no pack data (R141). -/
def inSerialOf (r : Report) : Nat := if carriesPack r then r.serial else 0

/-- The state a bound record returns its AJAR bay to (R146). -/
def Reservation.ajarEnding (r : Reservation) : HandoverEnd :=
  match r.state with
  | .ready _ => .ready
  | _ => .held

/-- An AJAR bay whose original pack is gone: the handover ends, the record is unbound and PACK_MISSING raised (R146). -/
def State.ajarMissing (b : BayNo) (h : Handover) (e : HandoverEnd) (s : State) : State :=
  let serial := (s.bay b).serial
  ((s.endHandover b e).unbind h.reservation b).raise (.packMissing b serial h.reservation)

/-- An AJAR bay whose door has closed on its original pack (R146). -/
def State.ajarCloses (b : BayNo) (h : Handover) (s : State) : State :=
  match s.book.byId h.reservation with
  | some rec => (s.endHandover b rec.ajarEnding).doorClear h.reservation
  | none => s

/-! ### A link lost during a handover (R147) -/

/-- An OPEN bay loses its link: the handover ends by a return or a no-return, without a notice of the return's own. -/
def State.linkLostOpen (b : BayNo) (s : State) : State :=
  match (s.bay b).handover with
  | some h => if h.packRemoved then s.noReturn b h else s.returnHandover b h.reservation
  | none => s

/-! ### Claims (R136 to R139) -/

/-- The least soc at which a BOUND record's pack is handed over early (R137). -/
def earlyBound (target : Nat) : Nat := max 500 (target - 100)

/-- A go request with the open request it brings (R50, R16): the record enters HANDOVER and its bay OPEN. -/
def State.goRecord (r : Reservation) (b : BayNo) (p : Prior) (s : State) : State :=
  let s := (s.enterBay b .opened).updateRecord r.id fun r =>
    { r with state := .handover b p, late := false, atDoor := true }
  s.request

/-- A GO carried out whole (R138). -/
def State.go (source : Station) (r : Reservation) (b : BayNo) (p : Prior) (early : Option Nat) (s : State) : State :=
  let s := s.goRecord r b p
  let s := s.setBay b { s.bay b with handover := some ⟨s.cfg.handoverTime * 1000, false, none, r.id⟩ }
  let s := s.post (.claimReply source r.token (.go r.id b))
  match early with
  | some soc => s.raise (.earlyShort r.id b soc r.target)
  | none => s

/-- The answer to a claim for a record of the book (R137). -/
def State.answerClaim (source : Station) (r : Reservation) (s : State) : State :=
  let reply := fun (p : Reply) => s.post (.claimReply source r.token p)
  match r.state with
  | .handover b _ => reply (.busy r.id b)
  | .pending => reply (.notReady r.id)
  | .ready b => if r.atDoor then reply (.busy r.id b) else s.go source r b .ready none
  | .bound b =>
    if r.atDoor then reply (.busy r.id b)
    else match (s.bay b).pack with
      | some p =>
        if p.soc ≥ earlyBound r.target then s.go source r b .bound (some p.soc)
        else reply (.wait r.id (normalEstimate s.cfg r.target (s.bay b)))
      | none => reply (.wait r.id (normalEstimate s.cfg r.target (s.bay b)))

/-- A claim taken in RUN (R136). -/
def State.takeClaim (source : Station) (token : Nat) (s : State) : State :=
  if token = 0 then s
  else match s.book.byToken token with
    | some r => s.answerClaim source r
    | none => if token ∈ s.book.expired then s.post (.claimReply source token .tooLate) else s

end Sys2Proof.Machine
end

