-- ==== Sys2Proof/Machine/BayReports.lean ====
section
/-! DEFINITION. Bay reports, link loss, the data timer and service (R4 to R14, R18, R19). -/

namespace Sys2Proof.Machine

/-! ### The rule of each state -/

/-- The CHECKING rule (R9). -/
def State.reportChecking (b : BayNo) (r : Report) (s : State) : State :=
  let withPack := fun (s : State) => s.setBay b { s.bay b with pack := some (packOfReport s.cfg r) }
  if r.stageFault then s.faultBay b .stageFault
  else if !r.present then s.enterBay b .empty
  else if r.serial = 0 then s
  else if !(s.bay b).mask.getLsbD r.cls then (withPack s).faultBay b .wrongClass
  else match packFaultKind r with
    | some k => (withPack s).faultBay b k
    | none => (withPack s).enterBay b .stock

/-- A bay enters CHECKING and the same report is taken by the CHECKING rule. -/
def State.checkPack (b : BayNo) (r : Report) (s : State) : State :=
  (s.enterBay b .checking).reportChecking b r

/-- The EMPTY rule (R8). -/
def State.reportEmpty (b : BayNo) (r : Report) (s : State) : State :=
  if r.stageFault then s.faultBay b .stageFault
  else if !r.present then s
  else s.checkPack b r

/-- A pack gone from STOCK, HELD or READY without a handover (R11). -/
def State.packMissing (b : BayNo) (s : State) : State :=
  let x := s.bay b
  let s := (s.leaveBay b .empty).raise (.packMissing b x.serial (x.reservation.getD 0))
  if x.door == .closed && x.locked then s.raise (.doorForced b .closed false) else s

/-- The data timer of an accepted pack that reports its figures is stopped (R10, case 6). -/
def State.stopDataTimer (b : BayNo) (s : State) : State := s.setBay b { s.bay b with dataTimer := none }

/-- The data timer of an accepted pack that reports no data is started if none runs (R10, case 7). -/
def State.startDataTimer (b : BayNo) (s : State) : State :=
  s.setBay b { s.bay b with dataTimer := some ((s.bay b).dataTimer.getD dataMillis) }

/-- The STOCK, HELD and READY rule (R10). Figures of the accepted pack are copied from every report with its serial
(R2), before the cases. DEDUCED, log entry 19. -/
def State.reportAccepted (b : BayNo) (r : Report) (s : State) : State :=
  let other := (s.bay b).otherSerial r
  let s := if (s.bay b).sameSerial r then s.copyFigures b r else s
  if r.stageFault then s.faultBay b .stageFault
  else if !r.present then s.packMissing b
  else if other then (s.packMissing b).checkPack b r
  else if r.serial = 0 then s.startDataTimer b
  else match packFaultKind r with
    | some k => s.faultBay b k
    | none => (s.stopDataTimer b).passSoc b r.soc

/-- The FAULT rule for the pack kinds (R13). -/
def State.reportPackFault (b : BayNo) (r : Report) (s : State) : State :=
  if !r.present then
    if r.stageFault then (s.setBay b { s.bay b with pack := none }).faultBay b .stageFault
    else s.enterBay b .empty
  else if (s.bay b).otherSerial r then s.checkPack b r
  else if (s.bay b).sameSerial r then s.copyFigures b r
  else s

/-- The FAULT(STAGE_FAULT) rule (R13). -/
def State.reportStageFault (b : BayNo) (r : Report) (s : State) : State :=
  if r.stageFault then
    if r.present then s else s.setBay b { s.bay b with pack := none }
  else if r.present then s.checkPack b r
  else s.enterBay b .empty

/-- The OFF rule (R6): with cause LINK the link returns, with any other cause the bay stays OFF. -/
def State.reportOff (b : BayNo) (r : Report) (cause : OffCause) (s : State) : State :=
  match cause with
  | .link =>
    if r.present then ((s.enterBay b .checking).raise (.linkBack b)).reportChecking b r
    else ((s.enterBay b .empty).raise (.linkBack b)).reportEmpty b r
  | .service => s
  | .unused => s

/-- The OPEN rule (R14, R140, R141). -/
def State.reportOpen (b : BayNo) (doorBefore : Door) (r : Report) (s : State) : State :=
  let s := s.reportAtDoor b r
  let s := s.setBay b ((s.bay b).noteRemoval r)
  match (s.bay b).handover with
  | none => s
  | some h =>
    if completesSwap doorBefore r h then
      let s := s.completeSwap b h (inSerialOf r)
      if (s.bay b).state = .checking then s.reportChecking b r else s
    else s

/-- The AJAR rule (R14, R146). The original pack is present when the report carries its serial. DEDUCED, log
entry 25. -/
def State.reportAjar (b : BayNo) (r : Report) (s : State) : State :=
  let s := s.reportAtDoor b r
  match (s.bay b).handover with
  | none => s
  | some h =>
    if !r.present then s.ajarMissing b h .empty
    else if (s.bay b).otherSerial r then
      let s := s.ajarMissing b h .checking
      if (s.bay b).state = .checking then s.reportChecking b r else s
    else if r.door == .closed && (s.bay b).sameSerial r then s.ajarCloses b h
    else s

/-- The third part of R4: the rule of the bay's state. -/
def State.reportByState (b : BayNo) (doorBefore : Door) (r : Report) (s : State) : State :=
  match (s.bay b).state with
  | .empty => s.reportEmpty b r
  | .checking => s.reportChecking b r
  | .stock => s.reportAccepted b r
  | .held => s.reportAccepted b r
  | .ready => s.reportAccepted b r
  | .opened => s.reportOpen b doorBefore r
  | .ajar => s.reportAjar b r
  | .fault .stageFault => s.reportStageFault b r
  | .fault _ => s.reportPackFault b r
  | .off c => s.reportOff b r c

/-- A valid report's age and presence are noted (R4, R19). -/
def State.noteReport (b : BayNo) (r : Report) (s : State) : State :=
  s.setBay b { s.bay b with reportAge := 0, lastPresent := some r.present }

/-- A valid report, its figures already limited (R4): boost fault, door, rule of the state; in UNSET only the door. -/
def State.takeReport (b : BayNo) (r : Report) (s : State) : State :=
  let s := s.noteReport b r
  let s := if s.part == .run && r.boostFault then s.takeBoostFault b else s
  let doorBefore := (s.bay b).door
  let s := s.doorStep b r
  match s.part with
  | .unset => s
  | .run => s.reportByState b doorBefore r

/-! ### Link loss and the data timer -/

/-- Whether a bay's link is lost and the loss not yet taken (R5). -/
def Bay.linkDue (b : Bay) : Bool :=
  b.reportAge ≥ linkLossMillis && (match b.state with | .off _ => false | _ => true)

/-- A bay's link is lost (R5, R147). LINK_LOST is raised once the bay stands in OFF, after the RES_EXPIRED that the unbind of
an AJAR bay's record may bring. DESIGN CHOICE, log entry 51. -/
def State.loseLink (b : BayNo) (s : State) : State :=
  if (s.bay b).linkDue then
    let s := if (s.bay b).state = .opened then s.linkLostOpen b else s
    (s.leaveBay b (.off .link)).raise (.linkLost b)
  else s

/-- Whether a bay's data timer has run out in a state where one runs (R9, R10). -/
def Bay.dataDue (b : Bay) : Bool := b.dataTimer == some 0 && (b.state == .checking || b.state.accepted)

/-- A bay's data timer has run out (R9, R10). -/
def State.dataTimerEnds (b : BayNo) (s : State) : State :=
  if (s.bay b).dataDue then s.faultBay b .noPackData else s

/-! ### Service (R18, R19) -/

/-- The bay a SERVICE names, if its number is not above 11. -/
def bayNo? (n : Nat) : Option BayNo := if h : n < 12 then some ⟨n, h⟩ else none

/-- A SERVICE is refused (R15): bay, action, and the bay's state or none. -/
def State.refuseService (bay action : Nat) (s : State) : State :=
  s.raise (.serviceRefused bay action ((bayNo? bay).map fun b => (s.bay b).state))

/-- SERVICE with action OFF (R18). -/
def State.serviceOff (bay : Nat) (s : State) : State :=
  match bayNo? bay with
  | none => s.refuseService bay 0
  | some b =>
    match (s.bay b).state with
    | .opened => s.refuseService bay 0
    | .ajar => s.refuseService bay 0
    | .off .unused => s.refuseService bay 0
    | .off .link => s.setBay b { s.bay b with state := .off .service }
    | .off .service => s
    | _ => s.leaveBay b (.off .service)

/-- SERVICE with action ON (R19). -/
def State.serviceOn (bay : Nat) (s : State) : State :=
  match bayNo? bay with
  | none => s.refuseService bay 1
  | some b =>
    match (s.bay b).state with
    | .off .unused => s.refuseService bay 1
    | .off .service =>
      match (s.bay b).lastPresent with
      | some present =>
        if (s.bay b).reportAge < linkLossMillis then
          s.enterBay b (if present then .checking else .empty)
        else s.setBay b { s.bay b with state := .off .link }
      | none => s.setBay b { s.bay b with state := .off .link }
    | _ => s

end Sys2Proof.Machine
end

