-- ==== Sys2Proof/Machine/Feed.lean ====
section
/-! DEFINITION. The Feed Share Unit (Sharing the Site Feed, R119 to R134) and the share-drop clamp that a fall of the
share brings (R100, R101). -/

namespace Sys2Proof.Machine

/-! ### The share-drop clamp -/

/-- The site-side draw of the twelve setpoints together. -/
def totalDraw (bays : Vector Bay 12) : Nat := (allBays.map fun b => siteDraw bays[b].setpoint).sum

/-- A setpoint of 0 for anything below 100 W (R90, R100, R101). -/
def noTrickle (p : Nat) : Nat := if p < 100 then 0 else p

/-- A setpoint scaled by new / old (R100). -/
def scaleSetpoint (old new p : Nat) : Nat := noTrickle (roundTen (p * new / old))

/-- The bay whose setpoint is lowered next (R101): one above 0 outside the last urgency order, the highest number first,
or else the latest of that order. -/
def clampVictim (order : List BayNo) (bays : Vector Bay 12) : Option BayNo :=
  match (baysWhere fun b => bays[b].setpoint > 0 && b ∉ order).getLast? with
  | some b => some b
  | none => (order.filter fun b => bays[b].setpoint > 0).getLast?

/-- Setpoints lowered 10 W at a time until their site-side sum is within the share (R101), at most `fuel` times. -/
def lowerToShare (cfg : Setup) (share : Nat) (order : List BayNo) : Nat → Vector Bay 12 → Vector Bay 12
  | 0, bays => bays
  | fuel + 1, bays =>
    if totalDraw bays ≤ share then bays
    else match clampVictim order bays with
      | none => bays
      | some b =>
        lowerToShare cfg share order fuel
          (bays.set b (bays[b].writeSetpoint cfg (noTrickle (bays[b].setpoint - 10))) b.isLt)

/-- The share-drop clamp: every setpoint scaled, then the remainder taken from the least urgent (R100, R101). Each
lowering takes at least 1 W off some setpoint, so the sum of the setpoints bounds their number. -/
def State.clampShare (old new : Nat) (s : State) : State :=
  let scaled := Vector.ofFn fun i => (s.bays[i]).writeSetpoint s.cfg (scaleSetpoint old new s.bays[i].setpoint)
  let fuel := (allBays.map fun b => scaled[b].setpoint).sum
  { s with bays := lowerToShare s.cfg new s.plan.lastOrder fuel scaled }.request

/-! ### The share (R130 to R132) -/

/-- The limit in force for a meter state and site limit (R122). -/
def limitInForce (cfg : Setup) (meter : MeterState) (siteLimit : Option Nat) : Nat :=
  match meter with
  | .present => siteLimit.getD 0 - cfg.reserveMargin
  | .waiting => cfg.meterLostLimit
  | .lost => cfg.meterLostLimit

/-- The kiosk's demand D (R130). -/
def Feed.totalDemand (f : Feed) : Nat := f.ownDemand + (f.peers.map (·.demand)).sum

/-- The kiosk's priority demand Dp (R130). -/
def Feed.totalPriority (f : Feed) : Nat := f.ownPriority + (f.peers.map (·.priority)).sum

/-- The raw share, by the first case of R130 that holds. -/
def Feed.rawShare (f : Feed) : Nat :=
  let d := f.totalDemand
  let dp := f.totalPriority
  if d ≤ f.limit then f.ownDemand
  else if dp ≥ f.limit then (if dp = 0 then 0 else f.limit * f.ownPriority / dp)
  else f.ownPriority + (f.limit - dp) * (f.ownDemand - f.ownPriority) / (d - dp)

/-- The share by R130 and R131. While DETACHED it may be an isolated share that is no multiple of 10, although R119 gives the
share as one: R131 takes the smaller of the two figures and rounds no further. DEDUCED, log entry 49. -/
def Feed.shareNow (cfg : Setup) (f : Feed) : Nat :=
  let share := roundTen (f.rawShare * f.trim / 1000)
  if f.detached then min share cfg.isolatedShare else share

/-- The share is recomputed; a rise requests a pass, and a fall brings the clamp and requests a pass (R132). -/
def State.recomputeShare (s : State) : State :=
  let old := s.feed.share
  let new := s.feed.shareNow s.cfg
  if new = old then s
  else
    let s := { s with feed.share := new }
    if new < old then s.clampShare old new else s.request

/-! ### The meter (R121 to R123) -/

/-- The trim after a step with measured draw `m` and site limit `l` (R123). -/
def trimStep (m l trim : Nat) : Nat :=
  if m > l then max 500 (trim - 50)
  else if m * 100 ≤ l * 95 then min 1000 (trim + 10)
  else trim

/-- A SITE FEED taken in RUN (R121). -/
def State.takeSiteFeed (limit draw : Nat) (s : State) : State :=
  let l := min 250000 limit
  let m := min 500000 draw
  let was := s.feed.meter
  let s := { s with feed := { s.feed with
    siteLimit := some l, measuredDraw := some m, meterAge := 0, meter := .present
    trim := trimStep m l s.feed.trim, limit := limitInForce s.cfg .present (some l) } }
  let s := if was = .lost then s.raise (.meterBack l) else s
  s.recomputeShare

/-- The meter age beyond which the meter is LOST (R122). -/
def meterMillis : Nat := 10000

/-- Whether the meter age has passed its bound in PRESENT or WAITING (R122). -/
def Feed.meterDue (f : Feed) : Bool := f.meterAge > meterMillis && f.meter != .lost

/-- The meter falls silent (R122). -/
def State.loseMeter (s : State) : State :=
  if s.part == .run && s.feed.meterDue then
    let s := { s with feed := { s.feed with meter := .lost, limit := limitInForce s.cfg .lost s.feed.siteLimit } }
    (s.raise (.meterLost (s.feed.siteLimit.getD 0) s.cfg.meterLostLimit)).recomputeShare
  else s

/-! ### The Peer Claim Table (R124 to R127) -/

/-- The most entries of the Peer Claim Table (R119). -/
def peerTableSize : Nat := 7

/-- A new entry with a claim's figures (R125). -/
def newPeer (station : Station) (demand priority : Nat) : Peer := ⟨station, demand, min priority demand, 0, false⟩

/-- Whether STALE entry `a` gives up its place before `b`: the greater age, then the lower station (R125). -/
def givesUpBefore (a b : Peer) : Bool := a.age > b.age || (a.age == b.age && a.station ≤ b.station)

/-- The STALE entry that gives up its place (R125). -/
def displaced : List Peer → Option Peer
  | [] => none
  | p :: ps =>
    match displaced ps with
    | none => if p.stale then some p else none
    | some q => if p.stale && givesUpBefore p q then some p else some q

/-- A claim's figures written into the entry of its station (R124). -/
def refreshPeer (station : Station) (demand priority : Nat) (ps : List Peer) : List Peer :=
  ps.map fun p => if p.station = station then newPeer station demand priority else p

/-- The entries but for that of a station. -/
def dropPeer (station : Station) (ps : List Peer) : List Peer := ps.filter (·.station ≠ station)

/-- A DRAW CLAIM from a new station (R125). -/
def State.addPeer (station : Station) (demand priority : Nat) (s : State) : State :=
  let entry := newPeer station demand priority
  if s.feed.peers.length < peerTableSize then
    { s with feed.peers := s.feed.peers ++ [entry] }.recomputeShare
  else match displaced s.feed.peers with
    | some q =>
      let s := { s with feed.peers := dropPeer q.station s.feed.peers }.raise (.peerLost q.station)
      { s with feed.peers := s.feed.peers ++ [entry] }.recomputeShare
    | none => s.raise (.peerTableFull station)

/-- A DRAW CLAIM taken in RUN (R124 to R126). -/
def State.takeDrawClaim (station : Station) (demand priority : Nat) (s : State) : State :=
  if station = s.cfg.station then s.raise (.stationClash demand priority)
  else if s.feed.peers.any (·.station = station) then
    { s with feed.peers := refreshPeer station demand priority s.feed.peers }.recomputeShare
  else s.addPeer station demand priority

/-- Whether an entry is due to become STALE (R127). -/
def Peer.staleDue (p : Peer) : Bool := p.age > 6000 && !p.stale

/-- Whether an entry is due to be removed (R127). -/
def Peer.lostDue (p : Peer) : Bool := p.age ≥ 30000

/-- The entry of a station marked STALE, its figures kept (R127). -/
def markStale (station : Station) (ps : List Peer) : List Peer :=
  ps.map fun p => if p.station = station then { p with stale := true } else p

/-- The entry of a station becomes STALE (R127). -/
def State.stalePeer (station : Station) (s : State) : State :=
  if s.feed.peers.any fun p => p.station == station && p.staleDue then
    { s with feed.peers := markStale station s.feed.peers }.recomputeShare
  else s

/-- The entry of a station is removed (R127). -/
def State.losePeer (station : Station) (s : State) : State :=
  if s.feed.peers.any fun p => p.station == station && p.lostDue then
    ({ s with feed.peers := dropPeer station s.feed.peers }.raise (.peerLost station)).recomputeShare
  else s

/-! ### The own claim and the line (R128, R129, R131) -/

/-- The own figures from an applied completion (R128). -/
def State.takeOwnFigures (demand priority : Nat) (s : State) : State :=
  { s with feed.ownDemand := demand, feed.ownPriority := priority }.recomputeShare

/-- The claim timer's 2000 ms (R129). -/
def claimMillis : Nat := 2000

/-- The claim timer has run out (R129). -/
def State.claimTimerEnds (s : State) : State :=
  if s.feed.claimTimer = some 0 then
    { s.post (.drawClaim s.feed.ownDemand s.feed.ownPriority) with feed.claimTimer := some claimMillis }
  else s

/-- The Line Controller tells the Feed Share Unit its line state (R131); in UNSET the flag keeps its restart value
(R119). -/
def State.tellLineState (l : LineState) (s : State) : State :=
  match s.part with
  | .unset => s
  | .run =>
    let d := l == .detached
    if s.feed.detached = d then s else { s with feed.detached := d }.recomputeShare

end Sys2Proof.Machine
end

