-- ==== Sys2Proof/Machine/Line.lean ====
section
/-! DEFINITION. The Line Controller: receiving, sending, the error counts, the line states and the receive queues
(The Kiosk Line, R159 to R170). -/

namespace Sys2Proof.Machine

/-- The count at which the line state becomes GUARDED (R163). -/
def guardedCount : Nat := 120

/-- The count at which caution becomes yes (R165). -/
def cautionCount : Nat := 80

/-- The idle bit times that let a send start: 12, and 8 more in GUARDED (R161). -/
def idleGap : LineState → Nat
  | .guarded => 20
  | _ => 12

/-- The idle gaps that let a DETACHED part rejoin (R164). -/
def rejoinGaps : Nat := 100

/-- The most frames the Ask queue holds (R166). -/
def askQueueSize : Nat := 8

/-- The most frames the Peer queue holds (R167). -/
def peerQueueSize : Nat := 16

/-! ### Counts, line state, caution and the error log -/

/-- The line state the two counts give while not DETACHED (R163). -/
def stateOfCounts (send recv : Nat) : LineState :=
  if send ≥ guardedCount ∨ recv ≥ guardedCount then .guarded else .full

/-- Both counts set together with the line state; a change of state is told to the Feed Share Unit and raised (R163). -/
def State.setLine (send recv : Nat) (state : LineState) (gaps : Option Nat) (s : State) : State :=
  let old := s.line.state
  let s := { s with line := { s.line with sendCount := send, recvCount := recv, state := state, gaps := gaps } }
  if old = state then s
  else (s.tellLineState state).raise (.lineState old state send recv)

/-- Caution follows the counts: CAUTION is raised when it becomes yes (R165). -/
def State.setCaution (s : State) : State :=
  let now := s.line.sendCount ≥ cautionCount || s.line.recvCount ≥ cautionCount
  let was := s.line.caution
  let s := { s with line.caution := now }
  if now && !was then s.raise (.caution s.line.sendCount s.line.recvCount) else s

/-- The counts changed while not DETACHED (R162, R163, R165). -/
def State.setCounts (send recv : Nat) (s : State) : State :=
  (s.setLine send recv (stateOfCounts send recv) none).setCaution

/-- The part leaves the line: DETACHED, the send count held at 255 (R163). -/
def State.detach (s : State) : State :=
  (s.setLine 255 s.line.recvCount .detached (some 0)).setCaution

/-- An error is logged, whatever the line state (R165). -/
def State.logError (e : LineError) (s : State) : State :=
  let s := { s with line.lastError := e }
  if s.line.errorLog < 255 then { s with line.errorLog := s.line.errorLog + 1 }
  else if s.line.overflowReported then s
  else { s with line.overflowReported := true }.raise .logOverflow

/-! ### Receiving (R160, R162, R166, R167) -/

/-- The last line error a bad reception sets (R162, R165). -/
def lineErrorOf : BadFrame → LineError
  | .stuff => .stuff
  | .shape => .shape
  | .check => .check

/-- A bad frame (R162): an error flag while in FULL, the receive count one higher unless DETACHED, the error logged. -/
def State.receiveBad (e : BadFrame) (s : State) : State :=
  let s := if s.line.state = .full then { s with out.flagged := true } else s
  let s := if s.line.state = .detached then s
    else s.setCounts s.line.sendCount (min 127 (s.line.recvCount + 1))
  s.logError (lineErrorOf e)

/-- A good frame of an Ask kind: stored when the queue holds fewer than 8, and counted as lost otherwise (R166). -/
def LineController.storeAsk (f : AskFrame) (l : LineController) : LineController :=
  if l.askQueue.length < askQueueSize then { l with askQueue := l.askQueue ++ [f] }
  else { l with asksLost := addTo255 l.asksLost 1 }

/-- A good frame of a Peer kind: stored, the oldest one dropped and counted when 16 stand there (R167). -/
def LineController.storePeer (f : PeerFrame) (l : LineController) : LineController :=
  if l.peerQueue.length < peerQueueSize then { l with peerQueue := l.peerQueue ++ [f] }
  else { l with peerQueue := l.peerQueue.drop 1 ++ [f], peerLost := addTo255 l.peerLost 1 }

/-- A good frame sorted by kind (R160, R166, R167). -/
def State.sortGood (f : RawFrame) (s : State) : State :=
  let kept := sortFrame s.part s.cfg.station s.free f
  let s := s.useFree (missingBytes f)
  match kept with
  | .ask a => { s with line := s.line.storeAsk a }
  | .peer p => { s with line := s.line.storePeer p }
  | .notStored => s

/-- A good frame (R162): acknowledged and the receive count one lower unless DETACHED, then sorted by kind. -/
def State.receiveGood (f : RawFrame) (s : State) : State :=
  let s := if s.line.state = .detached then s
    else { s with out.acknowledged := true }.setCounts s.line.sendCount (s.line.recvCount - 1)
  s.sortGood f

/-- A frame received and tested (R162); a length above 12 is a wrong form. -/
def State.receive (r : Reception) (s : State) : State :=
  match r with
  | .bad e => s.receiveBad e
  | .whole f => if f.payload.length > 12 then s.receiveBad .shape else s.receiveGood f

/-! ### Sending (R161) -/

/-- The first frame in the queue's order: the lowest precedence, the oldest among equals (R168). -/
def firstToSend : List OutEntry → Option OutEntry
  | [] => none
  | e :: es =>
    match firstToSend es with
    | none => some e
    | some f => if e.frame.precedence ≤ f.frame.precedence then some e else some f

/-- The queue with the frame to be sent marked as in transmission: the oldest of its precedence. -/
def markSending (p : Nat) : List OutEntry → List OutEntry :=
  changeFirst (fun e => e.frame.precedence == p) fun e => { e with sending := true }

/-- Whether a send may start (R161). -/
def State.maySend (idleBits : Nat) (s : State) : Bool :=
  s.part == .run && s.line.state != .detached && s.line.sending.isNone && idleBits ≥ idleGap s.line.state

/-- A send begins with the first frame in the queue's order (R161). -/
def State.startSend (idleBits : Nat) (s : State) : State :=
  if s.maySend idleBits then
    match firstToSend s.line.outQueue with
    | none => s
    | some e =>
      { s with
        line := { s.line with outQueue := markSending e.frame.precedence s.line.outQueue, sending := some e.frame }
        out.wire := some (e.frame.wire s.cfg.station s.free) }.useFree 2
  else s

/-- The transmission over, its frame still queued (R161). -/
def State.keepSent (s : State) : State :=
  { s with line := { s.line with
      sending := none, outQueue := s.line.outQueue.map fun e => { e with sending := false } } }

/-- The transmission over, its frame out of the queue (R161). A DRAW CLAIM replaced meanwhile stays (R168). -/
def State.dropSent (s : State) : State :=
  { s with line := { s.line with sending := none, outQueue := s.line.outQueue.filter fun e => !e.sending } }

/-- A failed send (R161 to R163): +8, or DETACHED when that would pass 255, and the error logged. -/
def State.sendFails (e : LineError) (s : State) : State :=
  let s := s.keepSent
  let s := if s.line.sendCount > 247 then s.detach else s.setCounts (s.line.sendCount + 8) s.line.recvCount
  s.logError e

/-- The send in progress ends (R161). -/
def State.endSend (r : SendResult) (s : State) : State :=
  match s.line.sending with
  | none => s
  | some _ =>
    match r with
    | .lostContention => s.keepSent
    | .good => s.dropSent.setCounts (s.line.sendCount - 1) s.line.recvCount
    | .noAcknowledge => s.sendFails .ack
    | .bitError => s.sendFails .bit
    | .flagHeard => s.sendFails .bit

/-! ### Rejoining (R164) -/

/-- The bit times of one idle gap (R164). -/
def gapBits : Nat := 12

/-- The idle gaps in a run of idle bit times: one for each 12 of the run (R164). -/
def gapsIn (idleBits : Nat) : Nat := idleBits / gapBits

/-- A run of idle bit times heard in DETACHED: its gaps are counted, and at 100 the part rejoins in FULL with both counts
at 0 (R164). -/
def State.countGaps (idleBits : Nat) (s : State) : State :=
  match s.line.gaps with
  | none => s
  | some g =>
    if g + gapsIn idleBits ≥ rejoinGaps then (s.setLine 0 0 .full none).setCaution
    else { s with line.gaps := some (g + gapsIn idleBits) }

end Sys2Proof.Machine
end

