-- ==== Sys2Proof/Machine/Plan.lean ====
section
/-! DEFINITION. The Charge Planner (The Charge Plan, R82 to R103): what a pass works out from its snapshot, how its
results are applied at completion, and how a pass starts and ends. -/

namespace Sys2Proof.Machine

/-- The period timer's 10 s, in milliseconds (R83). -/
def periodMillis : Nat := 10000

/-- The most a pass takes, in milliseconds (R84). -/
def passMillis : Nat := 50

/-! ### The working view (R85 to R87) -/

/-- A binding or rebinding a pass makes (R86, R87). -/
inductive Move
  | bind (id : Nat) (bay : BayNo)
  | rebind (id : Nat) (old new : BayNo)
  deriving DecidableEq, Repr

/-- The working view of a pass: the snapshot's bays and book with the pass's own moves entered, the bays already chosen,
and the moves in the order made (R85, R86). -/
structure View where
  bays : Vector Bay 12
  records : List Reservation
  chosen : List BayNo
  moves : List Move
  deriving DecidableEq, Repr

/-- The working view as a pass starts (R85). -/
def Snapshot.view (n : Snapshot) : View := ⟨n.bays, n.records, [], []⟩

/-- Whether a bay is a candidate for a record (R86). -/
def View.candidate (r : Reservation) (v : View) (b : BayNo) : Bool :=
  v.bays[b].state == .stock && !(b ∈ v.chosen) &&
    (match v.bays[b].pack with | some p => !p.retired && p.cls == r.cls | none => false)

/-- The first bay of a list with the least figure. -/
def leastBy (f : BayNo → Nat) : List BayNo → Option BayNo
  | [] => none
  | b :: bs =>
    match leastBy f bs with
    | none => some b
    | some c => if f b ≤ f c then some b else some c

/-- The normal estimate of a bay of the view to a target (R31). -/
def View.estimate (cfg : Setup) (target : Nat) (v : View) (b : BayNo) : Nat := normalEstimate cfg target v.bays[b]

/-- The view with a bay HELD for a record (R86). -/
def View.hold (id : Nat) (b : BayNo) (v : View) : View :=
  { v with
    bays := v.bays.set b { v.bays[b] with state := .held, reservation := some id } b.isLt
    records := v.records.map fun r => if r.id == id then { r with state := .bound b } else r }

/-- The view with a bay freed to STOCK (R87). -/
def View.free (b : BayNo) (v : View) : View :=
  { v with bays := v.bays.set b { v.bays[b] with state := .stock, reservation := none } b.isLt }

/-- The binding stage for one record of the snapshot (R86). -/
def View.bindOne (cfg : Setup) (v : View) (r : Reservation) : View :=
  if r.state = .pending then
    match leastBy (v.estimate cfg r.target) (baysWhere (v.candidate r)) with
    | some b => { v.hold r.id b with chosen := b :: v.chosen, moves := v.moves ++ [.bind r.id b] }
    | none => v
  else v

/-- The rebinding stage for one record of the snapshot (R87). -/
def View.rebindOne (cfg : Setup) (n : Snapshot) (v : View) (r : Reservation) : View :=
  match r.state with
  | .bound old =>
    let spare := slack r.windowOpen n.now (normalEstimate cfg r.target n.bays[old])
    if n.bays[old].state = .held ∧ spare < 0 then
      let inTime := fun b => v.candidate r b && ((v.estimate cfg r.target b : Nat) : Int) ≤ (r.windowOpen : Int) - n.now
      match leastBy (v.estimate cfg r.target) (baysWhere inTime) with
      | some b =>
        { (v.free old).hold r.id b with
          chosen := b :: old :: v.chosen, moves := v.moves ++ [.rebind r.id old b] }
      | none => v
    else v
  | _ => v

/-- The working view after the binding and rebinding stages (R86, R87). -/
def Snapshot.finalView (cfg : Setup) (n : Snapshot) : View :=
  n.records.foldl (View.rebindOne cfg n) (n.records.foldl (View.bindOne cfg) n.view)

/-! ### The urgency order (R88) -/

/-- A list sorted by a test of which member comes first, earlier members first among equals. -/
def sortBy {α : Type} (before : α → α → Bool) (l : List α) : List α :=
  l.foldr insertBy []
where
  insertBy (x : α) : List α → List α
    | [] => [x]
    | y :: ys => if before x y then x :: y :: ys else y :: insertBy x ys

/-- The record a bay of the view names. -/
def View.recordOf (v : View) (b : BayNo) : Option Reservation :=
  v.bays[b].reservation.bind fun id => v.records.find? (·.id == id)

/-- The slack of a HELD bay of the view, from an estimate of its pack (R34). -/
def View.slackWith (est : Nat → Bay → Nat) (now : Nat) (v : View) (b : BayNo) : Int :=
  match v.recordOf b with
  | some r => slack r.windowOpen now (est r.target v.bays[b])
  | none => 0

/-- The slack of a HELD bay (R34). -/
def View.slackOf (cfg : Setup) (now : Nat) (v : View) (b : BayNo) : Int := v.slackWith (bayEstimate cfg) now b

/-- The normal slack of a HELD bay (R34). -/
def View.normalSlackOf (cfg : Setup) (now : Nat) (v : View) (b : BayNo) : Int :=
  v.slackWith (normalEstimate cfg) now b

/-- Whether a bay of the view is HELD. -/
def View.isHeld (v : View) (b : BayNo) : Bool := v.bays[b].state == .held

/-- Whether a bay of the view is STOCK and chargeable (R88). -/
def View.isStock (cfg : Setup) (v : View) (b : BayNo) : Bool :=
  v.bays[b].state == .stock && v.bays[b].chargeable cfg

/-- The soc of a bay's pack. -/
def Bay.soc (b : Bay) : Nat := (b.pack.map (·.soc)).getD 0

/-- The urgency order: HELD bays by slack, then chargeable STOCK bays by soc descending, lower numbers first (R88). -/
def View.urgency (cfg : Setup) (now : Nat) (v : View) : List BayNo :=
  sortBy (fun a b => v.slackOf cfg now a ≤ v.slackOf cfg now b) (baysWhere v.isHeld) ++
  sortBy (fun a b => v.bays[a].soc ≥ v.bays[b].soc) (baysWhere (v.isStock cfg))

/-! ### Allocation (R89, R90) -/

/-- The power cap of a bay of the view (R89). -/
def View.cap (cfg : Setup) (v : View) (b : BayNo) : Nat :=
  powerCap cfg (targetOf cfg v.records v.bays[b]) v.bays[b]

/-- What one bay takes of a budget (R90, steps 1 to 3). -/
def takeFrom (cap budget : Nat) : Nat := noTrickle (min cap (roundTen (budget * 940 / 1000)))

/-- The walk down the urgency order (R90). -/
def allocate (cap : BayNo → Nat) : Nat → List BayNo → List (BayNo × Nat)
  | _, [] => []
  | budget, b :: bs =>
    (b, takeFrom (cap b) budget) :: allocate cap (budget - siteDraw (takeFrom (cap b) budget)) bs

/-- The allocation of a bay: 0 for a bay not in the urgency order (R90). -/
def allocationOf (l : List (BayNo × Nat)) (b : BayNo) : Nat := ((l.find? (·.1 == b)).map (·.2)).getD 0

/-! ### Boost requests, late flags and own figures (R91 to R95) -/

/-- The HIGH set (R91). -/
def View.high (cfg : Setup) (now : Nat) (v : View) : List BayNo :=
  baysWhere fun b => v.isHeld b && v.normalSlackOf cfg now b < 0 &&
    (match v.bays[b].pack with | some p => tempFactor p.temperature > 0 | none => false)

/-- Whether a bay holds a charged pack of a class waiting (R92). -/
def Bay.waiting (cfg : Setup) (c : PackClass) (b : Bay) : Bool :=
  match b.pack with
  | none => false
  | some p => p.cls == c &&
      ((b.state == .stock && !p.retired && p.soc ≥ cfg.stockTarget) || b.state == .ready)

/-- The LOW set (R92). -/
def View.low (cfg : Setup) (v : View) : List BayNo :=
  baysWhere fun b => v.isStock cfg b &&
    (match v.bays[b].pack with | some p => !(allBays.any fun d => v.bays[d].waiting cfg p.cls) | none => false)

/-- A late flag of a pass, naming the record and the bay the pass worked from (R94). -/
structure LateFlag where
  id : Nat
  bay : BayNo
  late : Bool
  deriving DecidableEq, Repr

/-- The late flag of a record of the view, for a BOUND record with its bay HELD (R94). -/
def View.lateFlag (cfg : Setup) (now : Nat) (v : View) (r : Reservation) : Option LateFlag :=
  match r.state with
  | .bound b =>
    if v.isHeld b then
      some ⟨r.id, b, slack r.windowOpen now (normalEstimate cfg r.target v.bays[b]) < 0⟩
    else none
  | _ => none

/-- The site-side draw of the caps of some bays together (R95). -/
def View.demandOf (cfg : Setup) (v : View) (bs : List BayNo) : Nat := (bs.map fun b => siteDraw (v.cap cfg b)).sum

/-- Everything a pass works out (R86 to R95). -/
structure Plan where
  moves : List Move
  order : List BayNo
  allocation : List (BayNo × Nat)
  high : List BayNo
  low : List BayNo
  lates : List LateFlag
  demand : Nat
  priority : Nat
  deriving DecidableEq, Repr

/-- The results of a pass from its snapshot (R85). The late flags stand in book order, in which a completion writes them and
raises RES_LATE: R94, R98 and R49 fix no order. DESIGN CHOICE, log entry 48. -/
def Snapshot.plan (cfg : Setup) (n : Snapshot) : Plan :=
  let v := n.finalView cfg
  let order := v.urgency cfg n.now
  { moves := v.moves
    order := order
    allocation := allocate (v.cap cfg) (roundTen n.share) order
    high := v.high cfg n.now
    low := v.low cfg
    lates := v.records.filterMap (v.lateFlag cfg n.now)
    demand := v.demandOf cfg order
    priority := v.demandOf cfg (baysWhere v.isHeld) }

/-! ### The start and end of a pass (R84, R85) -/

/-- The snapshot of the part as it stands (R85). -/
def State.snapshot (s : State) : Snapshot := ⟨s.clock.seconds, s.bays, s.book.records, s.feed.share⟩

/-- A pass starts: RUNNING with its snapshot, the period timer restarted (R84). -/
def State.startPass (s : State) : State :=
  { s with plan := { s.plan with
      pass := some ⟨s.snapshot, 0⟩, again := false, period := some periodMillis, requested := false } }

/-- The requests of an event are met at its end: a pass starts in IDLE, and in RUNNING the again flag is set (R84). In
UNSET the planner takes none (R82). -/
def State.settlePass (s : State) : State :=
  if s.plan.requested then
    match s.part, s.plan.pass with
    | .unset, _ => { s with plan.requested := false }
    | .run, none => s.startPass
    | .run, some _ => { s with plan.again := true, plan.requested := false }
  else s

/-! ### Completion (R96 to R99) -/

/-- One move handed to the Reservation Book (R97). -/
def State.applyMove (s : State) : Move → State
  | .bind id b => s.bindRecord id b
  | .rebind id old new => s.rebindRecord id old new

/-- One late flag handed to the Reservation Book (R98). -/
def State.applyLate (s : State) (f : LateFlag) : State := s.writeLate f.id f.bay f.late

/-- The setpoints of all twelve bays written in one step (R98). -/
def State.writeSetpoints (alloc : List (BayNo × Nat)) (s : State) : State :=
  { s with bays := Vector.ofFn fun i => (s.bays[i]).writeSetpoint s.cfg (min (allocationOf alloc i) (s.capOf i)) }

/-- The results of a pass applied in the order of R97 to R99. -/
def State.applyPlan (p : Plan) (s : State) : State :=
  let s := p.moves.foldl State.applyMove s
  let s := p.lates.foldl State.applyLate s
  let s := s.writeSetpoints p.allocation
  let s := (s.takeSets p.high p.low).takeOwnFigures p.demand p.priority
  { s with plan.lastOrder := p.order }

/-- A pass ends: a new one starts if the again flag is yes, and the planner is IDLE otherwise (R84). -/
def State.endPass (s : State) : State :=
  if s.plan.again || s.plan.requested then s.startPass
  else { s with plan.pass := none }

/-- The pass in progress completes (R96): its results are discarded if the share fell, and applied otherwise. -/
def State.completePass (s : State) : State :=
  match s.plan.pass with
  | none => s
  | some p =>
    if s.feed.share < p.snapshot.share then s.startPass
    else (s.applyPlan (p.snapshot.plan s.cfg)).endPass

/-- The period timer has run out (R83). -/
def State.periodEnds (s : State) : State :=
  if s.plan.period = some 0 then s.request else s

end Sys2Proof.Machine
end

