-- ==== Sys2Proof/Machine/SetupStore.lean ====
section
/-! DEFINITION. Restart, the setup store, setup assembly and entry to RUN (R172 to R177). -/

namespace Sys2Proof.Machine

/-! ### The store (R173, R174) -/

/-- The check over the record bytes (R173). -/
def checkOf (record : List Byte) : BitVec 16 := BitVec.ofNat 16 (4660 + (record.map (·.toNat)).sum)

/-- Whether the store is valid: its latest write ran to its end, and the check matches (R174). -/
def SetupStore.valid (st : SetupStore) : Bool := st.ended && checkOf st.record == st.check

/-- A two-byte item with a default: 65,535 loads the default, any other value the nearer end of its range (R174). -/
def loadItem (lo hi default v : Nat) : Nat := if v = 65535 then default else limitTo lo hi v

/-- The values loaded from the 42 record bytes, in the order of the pieces of R173 and within the ranges of R174. -/
def loadSetup (r : List Byte) : Setup where
  station := Fin.ofNat 16 (limitTo 0 15 (field r 0 1))
  capacity := Vector.ofFn fun i => limitTo 500 8000 (field r (7 + 2 * i) 2)
  discardTime := if field r 15 1 = 0 then 20 else 120
  commitLimit := Vector.ofFn fun i => limitTo 0 32 (field r (16 + i) 1)
  reserveMargin := limitTo 0 250000 (field r 20 3)
  meterLostLimit := limitTo 0 250000 (field r 23 3)
  isolatedShare := limitTo 0 250000 (field r 26 3)
  retireThreshold := loadItem 500 900 700 (field r 29 2)
  stockTarget := loadItem 500 1000 900 (field r 31 2)
  handoverTime := loadItem 60 300 120 (field r 33 2)
  expiryGrace := loadItem 0 900 300 (field r 35 2)
  boostSlice := loadItem 120 900 300 (field r 37 2)
  templateLead := loadItem 300 7200 1800 (field r 39 2)
  disableMask := r.getD 41 0

/-- The class mask of a bay: bay 2k in the upper four bits of byte k, bay 2k+1 in the lower four (R173). -/
def loadMask (r : List Byte) (b : BayNo) : BitVec 4 :=
  let byte := r.getD (1 + b.val / 2) 0
  if b.val % 2 = 0 then (byte >>> 4).setWidth 4 else byte.setWidth 4

/-! ### Entry to RUN (R176) -/

/-- A bay as the part enters RUN: its class mask loaded, and off cause UNUSED where the mask is empty (R23). -/
def Bay.enterRun (mask : BitVec 4) (b : Bay) : Bay :=
  { b with mask := mask, state := if mask = 0 then .off .unused else b.state }

/-- The Feed Share Unit as the part enters RUN (R120). -/
def Feed.enterRun (cfg : Setup) (line : LineState) : Feed :=
  let f : Feed :=
    { Feed.restart with
      limit := limitInForce cfg .waiting none, detached := line == .detached, claimTimer := some claimMillis }
  { f with share := f.shareNow cfg }

/-- The part loads a record and enters RUN (R174, R176): the period timer starts and a pass is requested (R82). -/
def State.enterRun (record : List Byte) (s : State) : State :=
  let cfg := loadSetup record
  { s with
    part := .run
    cfg := cfg
    assembly := none
    bays := Vector.ofFn fun i => (s.bays[i]).enterRun (loadMask record i)
    feed := Feed.enterRun cfg s.line.state
    plan := { s.plan with period := some periodMillis } }.request

/-! ### Restart (R172) -/

/-- Every block at its restart values; the nonvolatile store, the levels of the pins, and the model's own queue and
counter of free values stay (R172). -/
def State.restarted (s : State) : State :=
  { State.reset with store := s.store, pins := s.pins, free := s.free, pending := s.pending }

/-- The part starts, with ERASE as sampled (R172, the table). -/
def State.start (erase : Bool) (s : State) : State :=
  let s := { s.restarted with pins := { s.pins with restart := false, erase := erase } }
  if !erase && s.store.valid then s.enterRun s.store.record
  else { s with store := .empty }

/-! ### Assembly (R175 to R177) -/

/-- The content bytes of a piece (R173). -/
def pieceLength (n : Nat) : Nat :=
  match n with
  | 0 => 7
  | 1 => 9
  | 2 => 10
  | 3 => 11
  | _ => 7

/-- The record and check of a completed assembly: its last two bytes are the check (R173). -/
def storeOf (bytes : List Byte) : SetupStore :=
  ⟨bytes.take 42, BitVec.ofNat 16 (field bytes 42 2), true⟩

/-- Piece 4 taken as expected: with a matching check the record is written and loaded and the part enters RUN, and
SETUP_LOADED is raised; otherwise the assembly is discarded (R176). -/
def State.finishAssembly (bytes : List Byte) (s : State) : State :=
  let st := storeOf bytes
  if st.valid then
    let s := { s with store := st }.enterRun st.record
    s.raise (.setupLoaded s.cfg.station)
  else { s with assembly := none }

/-- The piece number the assembly expects next, with the bytes taken so far; piece 0 starts afresh, and a number
above 4 is never expected (R175). -/
def State.expected (piece : Nat) (s : State) : Option (List Byte) :=
  if piece = 0 then some []
  else if piece > 4 then none
  else match s.assembly with
    | some a => if a.next = piece then some a.bytes else none
    | none => none

/-- A SETUP piece taken in UNSET under SELECT (R175). A piece 0 of the wrong length is a piece with the wrong number of
bytes. DEDUCED, log entry 30. -/
def State.takePiece (piece : Nat) (content : List Byte) (s : State) : State :=
  match s.expected piece with
  | some bytes =>
    if content.length = pieceLength piece then
      if piece = 4 then s.finishAssembly (bytes ++ content)
      else { s with assembly := some ⟨piece + 1, bytes ++ content⟩ }
    else { s with assembly := none }
  | none => { s with assembly := none }

/-- Whether the oldest frame of the Ask queue, taken with SELECT at this level, brings the write of the store (R176). -/
def State.bringsWrite (select : Bool) (s : State) : Bool :=
  match s.line.askQueue with
  | ⟨_, .setup 4 content⟩ :: _ =>
    !s.pins.restart && s.part == .unset && select && content.length == pieceLength 4 &&
      ((s.expected 4).map fun bytes => (storeOf (bytes ++ content)).valid).getD false
  | _ => false

/-- The store as a write cut short by a restart leaves it: not valid (R174), each of its 42 record bytes and two check bytes
a free value. DESIGN CHOICE, log entry 8. -/
def cutStore (free : Nat) : SetupStore where
  record := (List.range 42).map fun i => Config.cutByte (free + i)
  check := Config.cutByte (free + 42) ++ Config.cutByte (free + 43)
  ended := false

/-- A restart cuts the write of the store short: the part stands at its restart values with RESTART asserted (R172) and
its store is not valid (R174). -/
def State.cutWrite (s : State) : State :=
  ({ s.restarted with store := cutStore s.free, pins := { s.pins with restart := true, select := true } }).useFree 44

/-- The SELECT pin goes to a level; a release discards the assembly (R175). -/
def State.setSelect (level : Bool) (s : State) : State :=
  let released := s.pins.select && !level
  let s := { s with pins := { s.pins with select := level } }
  if released then { s with assembly := none } else s

/-- A SETUP frame taken (R175, R177). -/
def State.takeSetup (piece : Nat) (content : List Byte) (s : State) : State :=
  match s.part with
  | .run => s.raise (.setupIgnored piece)
  | .unset => if s.pins.select then s.takePiece piece content else s

end Sys2Proof.Machine
end

