-- ==== Sys2Proof/Machine/Templates.lean ====
section
/-! DEFINITION. The Template Store and the day clock (Standing Bookings, R150 to R158). -/

namespace Sys2Proof.Machine

/-- Seconds of a day (R150). -/
def daySeconds : Nat := 86400

/-- The 2000 ms of an open-template context (R150). -/
def contextMillis : Nat := 2000

/-- The eight slots in order of template id. -/
def allTemplates : List TemplateNo := List.finRange 8

/-- The slot of a template id of a frame, if it lies in 1..8 (R151). -/
def templateNo? (id : Nat) : Option TemplateNo := if h : 1 ≤ id ∧ id ≤ 8 then some ⟨id - 1, by omega⟩ else none

/-- The store with another content for a slot. -/
def State.setTemplate (t : TemplateNo) (x : Option Template) (s : State) : State :=
  { s with ts.slots := s.ts.slots.set t x t.isLt }

/-- The store with another context for a terminal. -/
def State.setContext (st : Station) (x : Option Context) (s : State) : State :=
  { s with ts.contexts := s.ts.contexts.set st x st.isLt }

/-! ### Contexts (R151, R152) -/

/-- The open-template context of a terminal, if it holds one, is cancelled (R152). -/
def State.cancelContext (st : Station) (cause : CancelCause) (s : State) : State :=
  match s.ts.contexts[st] with
  | none => s
  | some c => (s.setContext st none).raise (.templateCancelled st c.template cause)

/-- Whether the timer of a context has run out (R152). -/
def Context.due (c : Context) : Bool := c.timer == 0

/-- The timer of a terminal's context has run out (R152). -/
def State.contextTimesOut (st : Station) (s : State) : State :=
  match s.ts.contexts[st] with
  | none => s
  | some c => if c.due then s.cancelContext st .timeout else s

/-- A TEMPLATE OPEN (R151); an earlier context of the terminal has been cancelled before. -/
def State.openTemplate (st : Station) (id : Nat) (s : State) : State :=
  match templateNo? id with
  | none => s.raise (.templateRefused st .badId)
  | some t => s.setContext st (some ⟨t, contextMillis⟩)

/-- A TEMPLATE BODY (R153). -/
def State.templateBody (st : Station) (token cls : Nat) (kept : Bool) (todOpen target window : Nat) (s : State) : State :=
  match s.ts.contexts[st] with
  | none => s.raise (.templateRefused st .noOpen)
  | some c =>
    let s := s.setContext st none
    if token = 0 ∨ todOpen ≥ daySeconds then s.raise (.templateRefused st .badField)
    else if h : cls < 4 then
      (s.setTemplate c.template (some
        { token, cls := ⟨cls, h⟩, target := limitTo 500 1000 target, todOpen
          window := limitTo 120 3600 window, kept, lastDay := none, passed := none })).raise
        (.templateSet c.template token kept)
    else s.raise (.templateRefused st .badField)

/-! ### Drops (R154) -/

/-- The store with every slot that meets a test emptied. -/
def State.emptySlots (p : Template → Bool) (s : State) : State :=
  { s with ts.slots := Vector.ofFn fun i => s.ts.slots[i].filter fun x => !p x }

/-- A drop mode that names a template id: refused outside 1..8, and otherwise done on the slot (R154). -/
def State.withTemplate (st : Station) (id : Nat) (f : Option Template → Option Template) (s : State) : State :=
  match templateNo? id with
  | none => s.raise (.templateRefused st .badId)
  | some t => s.setTemplate t (f s.ts.slots[t])

/-- The five modes of TEMPLATE DROP, in the order of R154's table. -/
inductive DropMode | one | allTemporary | all | makeTemporary | makeKept
  deriving DecidableEq, Repr

/-- The number a mode is sent as (R171). -/
def DropMode.code : DropMode → Nat
  | .one => 0
  | .allTemporary => 1
  | .all => 2
  | .makeTemporary => 3
  | .makeKept => 4

/-- The effect of a mode (R154). -/
def State.dropTemplates (st : Station) (mode : DropMode) (id : Nat) (s : State) : State :=
  match mode with
  | .one => s.withTemplate st id fun _ => none
  | .allTemporary => s.emptySlots fun x => !x.kept
  | .all => s.emptySlots fun _ => true
  | .makeTemporary => s.withTemplate st id (Option.map fun x => { x with kept := false })
  | .makeKept => s.withTemplate st id (Option.map fun x => { x with kept := true })

/-! ### The day clock (R150) -/

/-- The local day second, while the day clock is known (R150). -/
def State.localSecond (s : State) : Option Int := s.ts.dayOffset.map fun o => (s.clock.seconds : Int) + o

/-- The time of day of a local day second (R150). -/
def timeOfDay (l : Int) : Nat := (l % daySeconds).toNat

/-- The day number of a local day second, rounded toward minus infinity (R150). -/
def dayNumber (l : Int) : Int := l / daySeconds

/-- The instant of a template: its time-of-day open less the lead, modulo a day (R156). -/
def Template.instant (cfg : Setup) (x : Template) : Nat :=
  (((x.todOpen : Int) - cfg.templateLead) % daySeconds).toNat

/-! ### Instantiation (R157) and the day roll (R156) -/

/-- The reason and holding record of a TEMPLATE_MISS (R157). -/
def State.missOf (t : TemplateNo) (token : Nat) (why : CreateRefusal) (s : State) : MissReason × Nat :=
  match why with
  | .bookFull => (.bookFull, 0)
  | .limit => (.limit, 0)
  | _ =>
    match s.book.byToken token with
    | some r => (if r.origin = .standing t then .previousHeld else .tokenHeld, r.id)
    | none => (.tokenHeld, 0)

/-- A template comes due for a day: once a day it requests a creation, and a refusal raises TEMPLATE_MISS (R157). -/
def State.instantiate (t : TemplateNo) (day : Int) (s : State) : State :=
  match s.ts.slots[t] with
  | none => s
  | some x =>
    if x.lastDay = some day then s
    else
      let s := s.setTemplate t (some { x with lastDay := some day })
      let (answer, s) := s.createRecord
        ⟨x.token, x.cls, x.target, s.clock.seconds + s.cfg.templateLead, x.window, .standing t⟩
      let s := match answer with
        | .ok _ => s
        | .refused why =>
          let m := s.missOf t x.token why
          s.raise (.templateMiss t x.token m.1 m.2)
      s.request

/-- The day roll: every slot that holds a TEMPORARY template is emptied (R156). -/
def State.rollDay (s : State) : State := s.emptySlots fun x => !x.kept

/-- The clock has counted past a midnight (R156). -/
def State.dayRolls (s : State) : State :=
  if s.ts.rollDue then { s with ts.rollDue := false }.rollDay else s

/-- The clock has counted past a template's instant (R157). -/
def State.instantPassed (t : TemplateNo) (s : State) : State :=
  match s.ts.slots[t] with
  | none => s
  | some x =>
    match x.passed with
    | none => s
    | some day => (s.setTemplate t (some { x with passed := none })).instantiate t day

/-! ### DAY TIME (R155, R156) -/

/-- A point a forward jump passes: the instant of a template or a midnight, at a local day second (R156). -/
inductive Point
  | instant (at_ : Int) (t : TemplateNo)
  | midnight (at_ : Int)
  deriving DecidableEq, Repr

/-- The second a point lies on. -/
def Point.second : Point → Int
  | .instant x _ => x
  | .midnight x => x

/-- The first local day second above `l` whose time of day is `tod`. -/
def nextAt (l : Int) (tod : Nat) : Int := l + 1 + ((tod : Int) - (l + 1)) % daySeconds

/-- The order of two points of a jump: by the second they lie on, instants of one second by template id, and a midnight
and an instant of one second as the free value says (R156). DESIGN CHOICE, log entry 34. -/
def pointBefore (rollFirst : Bool) (a b : Point) : Bool :=
  a.second < b.second ||
    (a.second == b.second &&
      (match a, b with
       | .instant _ t, .instant _ u => decide (t ≤ u)
       | .midnight _, _ => rollFirst
       | .instant _ _, .midnight _ => !rollFirst))

/-- A point put in its place among points in order. -/
def insertPoint (rollFirst : Bool) (x : Point) : List Point → List Point
  | [] => [x]
  | y :: ys => if pointBefore rollFirst x y then x :: y :: ys else y :: insertPoint rollFirst x ys

/-- The points a jump from `l` forward by `d` passes, in order (R156). -/
def State.jumpPoints (l d : Int) (s : State) : List Point :=
  let instants := allTemplates.filterMap fun t =>
    (s.ts.slots[t]).bind fun x =>
      let at_ := nextAt l (x.instant s.cfg)
      if at_ ≤ l + d then some (Point.instant at_ t) else none
  let midnights := if nextAt l 0 ≤ l + d then [Point.midnight (nextAt l 0)] else []
  (instants ++ midnights).foldr (insertPoint (Config.rollFirst s.free)) []

/-- One point of a jump taken whole (R156). -/
def State.passPoint (s : State) : Point → State
  | .instant x t => s.instantiate t (dayNumber x)
  | .midnight _ => s.rollDay

/-- The difference of a DAY TIME to the clock, brought into −43,200..43,199 (R155). -/
def dayDifference (v tod : Nat) : Int := ((v : Int) - tod + 43200) % daySeconds - 43200

/-- A DAY TIME taken in RUN (R155). The points of a forward jump are taken before DAY_CLOCK_SET is raised. DEDUCED, log
entry 35. -/
def State.takeDayTime (v : Nat) (s : State) : State :=
  if v ≥ daySeconds then s
  else match s.ts.dayOffset with
    | none =>
      { s with ts.dayOffset := some ((v : Int) - s.clock.seconds) }.raise (.dayClockSet none v 0)
    | some o =>
      let l := (s.clock.seconds : Int) + o
      let d := dayDifference v (timeOfDay l)
      if -2 ≤ d ∧ d ≤ 2 then s
      else
        let points := if d > 0 then s.jumpPoints l d else []
        let s := ({ s with ts.dayOffset := some (o + d) }.useFree 1)
        (points.foldl State.passPoint s).raise (.dayClockSet (some (timeOfDay l)) v (dayNumber (l + d)))

end Sys2Proof.Machine
end

