-- ==== Sys2Proof/Machine/Status.lean ====
section
/-! DEFINITION. STATUS ASK and STATUS CLEAR (R180, R181). -/

namespace Sys2Proof.Machine

/-- How many templates are held (R158). -/
def State.templatesHeld (s : State) : Nat := (allTemplates.filter fun t => s.ts.slots[t].isSome).length

/-- The figures of a page, in the order of R180; none for a page above 4. The day number while the day clock is unknown
is a free value. DESIGN CHOICE, log entry 37. -/
def State.pageFigures (page : Nat) (s : State) : List Byte :=
  match page with
  | 0 =>
    bytesOf 1 s.part.code ++ bytesOf 1 s.line.state.code ++ bytesOf 1 s.line.sendCount ++ bytesOf 1 s.line.recvCount
      ++ bytesOf 1 s.line.errorLog ++ bytesOf 1 s.line.lastError.code ++ bytesOf 1 s.book.records.length
      ++ bytesOf 1 s.boost.converter.name.code ++ bytesOf 1 (holderByte s.boost.converter.holder)
      ++ bytesOf 1 s.feed.peers.length
  | 1 =>
    bytesOf 3 s.feed.share ++ bytesOf 3 s.feed.limit ++ bytesOf 2 s.feed.trim ++ bytesOf 1 s.feed.meter.code
      ++ bytesOf 1 s.templatesHeld
  | 2 =>
    bytesOf 1 s.line.asksLost ++ bytesOf 1 s.line.peerLost ++ bytesOf 1 s.line.noticesLost
      ++ bytesOf 1 s.line.sendsDropped ++ bytesOf 1 s.asks.dropped ++ bytesOf 1 s.book.unknownReleases
      ++ bytesOf 1 s.book.commit[0] ++ bytesOf 1 s.book.commit[1] ++ bytesOf 1 s.book.commit[2]
      ++ bytesOf 1 s.book.commit[3]
  | 3 =>
    bytesOf 1 (boolByte s.ts.dayOffset.isSome) ++ timeOfDayBytes (s.localSecond.map timeOfDay)
      ++ (match s.localSecond with
          | some l => dayBytes (dayNumber l)
          | none => bytesOf 2 (Config.unknownDay s.free))
      ++ bytesOf 4 s.clock.seconds
  | 4 => flagBytes s.flags
  | _ => []

/-- A STATUS ASK taken in RUN: the reply is posted with the figures as they stand, and the last line error set to
NO_CHANGE (R180). -/
def State.answerStatus (source : Station) (page : Nat) (s : State) : State :=
  { (s.post (.statusReply source page (s.pageFigures page))).useFree 1 with line.lastError := .noChange }

/-- A STATUS CLEAR taken in RUN (R181). A mask that names LOG_OVERFLOW sets the error log to 0, and with it overflow
reported to no (R165). DEDUCED, log entry 32: whether or not the flag was set. -/
def State.clearFlags (mask : List Byte) (s : State) : State :=
  let m := maskOfBytes mask
  let s := { s with flags := s.flags &&& ~~~ m }
  if flagOf (Notice.code .logOverflow) m then
    { s with line := { s.line with errorLog := 0, overflowReported := false } }
  else s

end Sys2Proof.Machine
end

