-- ==== Sys2Proof/Machine/Events.lean ====
section
/-! DEFINITION. An event taken whole: how it begins, how the bay orders and the plan pass it brings are settled at its
end, and how a block takes a frame from a receive queue. -/

namespace Sys2Proof.Machine

/-- Whether a commanded value of a bay changed from one state to another (R20). -/
def commandChanged (s t : State) (b : BayNo) : Bool :=
  (s.bay b).setpoint != (t.bay b).setpoint || (s.bay b).boost != (t.bay b).boost || (s.bay b).locked != (t.bay b).locked

/-- The order a bay is sent, with the values the record holds (R20). -/
def State.orderFor (s : State) (b : BayNo) : BayOrder := ⟨b, (s.bay b).setpoint, (s.bay b).boost, (s.bay b).locked⟩

/-- The bay orders of an event from `s` to `t`: one for each bay with a changed commanded value, and one in reply to a
valid report (R20). -/
def ordersOf (reply : Option BayNo) (s t : State) : List BayOrder :=
  (baysWhere fun b => commandChanged s t b || reply == some b).map t.orderFor

/-- The end of an event that began in `s`: the plan pass requests are met and the bay orders go out (R84, R20). -/
def State.finish (reply : Option BayNo) (s t : State) : State :=
  let u := t.settlePass
  { u with out.orders := ordersOf reply s u }

/-- An event taken whole. While RESTART is held asserted the part does nothing (R172). -/
def State.take (reply : Option BayNo) (body : State → State) (s : State) : State :=
  if s.pins.restart then s.quiet else State.finish reply s (body s.quiet)

/-- The outcome of an event: always a next state. -/
def event (body : State → State) (s : State) : Host.Outcome State Fault Refusal := .next (s.take none body)

/-! ### Frames taken from the receive queues (R166, R167) -/

/-- The block that the oldest frame of the Ask queue belongs to takes it: `f` says what it does with the frame, none
meaning that the frame is not the command's. -/
def State.fromAsk (f : AskFrame → Option (State → State)) (s : State) : State :=
  match s.line.askQueue with
  | [] => s
  | x :: rest =>
    match f x with
    | some body => body { s with line.askQueue := rest }
    | none => s

/-- The block that the oldest frame of the Peer queue belongs to takes it. -/
def State.fromPeer (f : PeerFrame → Option (State → State)) (s : State) : State :=
  match s.line.peerQueue with
  | [] => s
  | x :: rest =>
    match f x with
    | some body => body { s with line.peerQueue := rest }
    | none => s

/-- A block takes a frame in RUN and discards it in UNSET (R61, R120, R135, R150, R180, R181). -/
def inRun (body : State → State) (s : State) : State :=
  match s.part with
  | .unset => s
  | .run => body s

/-- A frame addressed to the part, other than a TEMPLATE BODY, first cancels an open context of its source (R152). -/
def addressed (source : Station) (body : State → State) (s : State) : State :=
  inRun (fun s => body (s.cancelContext source .otherFrame)) s

end Sys2Proof.Machine
end

