-- ==== Sys2Proof/Machine/ExecBays.lean ====
section
/-! DEFINITION. The commands of the Bay Table and the Handover Unit. -/

namespace Sys2Proof.Machine

/-- BAY_REPORT (R4): a report whose check fails changes nothing; a valid one is taken with its figures limited, and is
answered with a bay order. -/
def execBayReport (bay : BayNo) (r : Report) (s : State) : Host.Outcome State Fault Refusal :=
  if r.checkOk then .next (s.take (some bay) fun s => s.takeReport bay (limitReport r))
  else event id s

/-- LINK_LOSS (R5). -/
def execLinkLoss (bay : BayNo) (s : State) : Host.Outcome State Fault Refusal := event (State.loseLink bay) s

/-- DATA_TIMER_EXPIRY (R9, R10). -/
def execDataTimerExpiry (bay : BayNo) (s : State) : Host.Outcome State Fault Refusal := event (State.dataTimerEnds bay) s

/-- SERVICE_OFF (R18): the oldest frame of the Ask queue is a SERVICE with action 0. -/
def execServiceOff (s : State) : Host.Outcome State Fault Refusal :=
  event (State.fromAsk fun f =>
    match f.body with
    | .service bay 0 => some (addressed f.source (State.serviceOff bay))
    | _ => none) s

/-- SERVICE_ON (R19): the oldest frame of the Ask queue is a SERVICE with action 1. -/
def execServiceOn (s : State) : Host.Outcome State Fault Refusal :=
  event (State.fromAsk fun f =>
    match f.body with
    | .service bay 1 => some (addressed f.source (State.serviceOn bay))
    | _ => none) s

/-- SERVICE_BAD_ACTION (R19): the oldest frame of the Ask queue is a SERVICE with any other action. -/
def execServiceBadAction (s : State) : Host.Outcome State Fault Refusal :=
  event (State.fromAsk fun f =>
    match f.body with
    | .service bay action => if action ≥ 2 then some (addressed f.source (State.refuseService bay action)) else none
    | _ => none) s

/-- CLAIM (R136). -/
def execClaim (s : State) : Host.Outcome State Fault Refusal :=
  event (State.fromAsk fun f =>
    match f.body with
    | .claim token => some (inRun (State.takeClaim f.source token))
    | _ => none) s

/-- HANDOVER_TIMER_EXPIRY (R142). -/
def execHandoverTimerExpiry (bay : BayNo) (s : State) : Host.Outcome State Fault Refusal :=
  event (State.handoverTimerEnds bay) s

/-- DOOR_AJAR_TIMER_EXPIRY (R145). -/
def execDoorAjarTimerExpiry (bay : BayNo) (s : State) : Host.Outcome State Fault Refusal :=
  event (State.ajarTimerEnds bay) s

end Sys2Proof.Machine
end

