-- ==== Sys2Proof/Machine/ExecLine.lean ====
section
/-! DEFINITION. The commands of the Line Controller, the Notice Unit and the Setup Store, and restart. -/

namespace Sys2Proof.Machine

/-- FRAME_RECEIVE (R162). -/
def execFrameReceive (r : Reception) (s : State) : Host.Outcome State Fault Refusal := event (State.receive r) s

/-- SEND_START (R161). -/
def execSendStart (idleBits : Nat) (s : State) : Host.Outcome State Fault Refusal := event (State.startSend idleBits) s

/-- SEND_END (R161). -/
def execSendEnd (r : SendResult) (s : State) : Host.Outcome State Fault Refusal := event (State.endSend r) s

/-- REJOIN (R164). -/
def execRejoin (idleBits : Nat) (s : State) : Host.Outcome State Fault Refusal := event (State.countGaps idleBits) s

/-- STATUS_ASK (R180). -/
def execStatusAsk (s : State) : Host.Outcome State Fault Refusal :=
  event (State.fromAsk fun f =>
    match f.body with
    | .statusAsk page => some (addressed f.source (State.answerStatus f.source page))
    | _ => none) s

/-- STATUS_CLEAR (R181). -/
def execStatusClear (s : State) : Host.Outcome State Fault Refusal :=
  event (State.fromAsk fun f =>
    match f.body with
    | .statusClear mask => some (addressed f.source (State.clearFlags mask))
    | _ => none) s

/-- SETUP (R175 to R177), with the level of the SELECT pin as the frame is taken. Where the frame brings the write of the
store and a restart cuts that write short, the part is left in restart with a store that is not valid (R174). -/
def execSetup (setting : Setting) (s : State) : Host.Outcome State Fault Refusal :=
  if setting.cut && s.bringsWrite setting.select then .next s.cutWrite
  else event (State.fromAsk fun f =>
    match f.body with
    | .setup piece content => some fun s => (s.setSelect setting.select).takeSetup piece content
    | _ => none) s

/-- SELECT_RELEASE (R175). -/
def execSelectRelease (s : State) : Host.Outcome State Fault Refusal :=
  .next (if s.pins.restart then { s.quiet with pins.select := false } else State.finish none s (s.quiet.setSelect false))

/-- RESTART_ASSERTED (R172): every block goes to its restart values and is held there. -/
def execRestartAsserted (s : State) : Host.Outcome State Fault Refusal :=
  .next { s.restarted with pins.restart := true }

/-- RESTART (R172): the part starts. No bay order goes out before the first report is answered (R135). -/
def execRestart (erase : Bool) (s : State) : Host.Outcome State Fault Refusal := .next (s.start erase).settlePass

end Sys2Proof.Machine
end

