-- ==== Sys2Proof/Machine/ExecPower.lean ====
section
/-! DEFINITION. The commands of the Charge Planner, the Boost Arbiter and the Feed Share Unit. -/

namespace Sys2Proof.Machine

/-- PERIOD_TIMER_EXPIRY (R83). -/
def execPeriodTimerExpiry (s : State) : Host.Outcome State Fault Refusal := event State.periodEnds s

/-- PASS_COMPLETION (R96). -/
def execPassCompletion (s : State) : Host.Outcome State Fault Refusal := event State.completePass s

/-- SLICE_TIMER_EXPIRY (R113). -/
def execSliceTimerExpiry (s : State) : Host.Outcome State Fault Refusal := event State.sliceEnds s

/-- SWITCH_TIMER_EXPIRY (R116). -/
def execSwitchTimerExpiry (s : State) : Host.Outcome State Fault Refusal := event State.switchEnds s

/-- SITE_FEED (R121). -/
def execSiteFeed (s : State) : Host.Outcome State Fault Refusal :=
  event (State.fromPeer fun f =>
    match f.body with
    | .siteFeed limit draw => some (inRun (State.takeSiteFeed limit draw))
    | _ => none) s

/-- METER_LOST (R122). -/
def execMeterLost (s : State) : Host.Outcome State Fault Refusal := event State.loseMeter s

/-- DRAW_CLAIM (R124 to R126). -/
def execDrawClaim (s : State) : Host.Outcome State Fault Refusal :=
  event (State.fromPeer fun f =>
    match f.body with
    | .drawClaim demand priority => some (inRun (State.takeDrawClaim f.source demand priority))
    | _ => none) s

/-- PEER_STALE (R127). -/
def execPeerStale (station : Station) (s : State) : Host.Outcome State Fault Refusal := event (State.stalePeer station) s

/-- PEER_LOST (R127). -/
def execPeerLost (station : Station) (s : State) : Host.Outcome State Fault Refusal := event (State.losePeer station) s

/-- CLAIM_TIMER_EXPIRY (R129). -/
def execClaimTimerExpiry (s : State) : Host.Outcome State Fault Refusal := event State.claimTimerEnds s

end Sys2Proof.Machine
end

