-- ==== Sys2Proof/Machine/ExecRiders.lean ====
section
/-! DEFINITION. The commands of the Ask Handler and the Reservation Book. -/

namespace Sys2Proof.Machine

/-- SWAP_ASK (R62). -/
def execSwapAsk (s : State) : Host.Outcome State Fault Refusal :=
  event (State.fromAsk fun f =>
    match f.body with
    | .swapAsk ask token cls target arrival window =>
      some (inRun (State.takeAsk (limitAsk f.source ask token cls target arrival window)))
    | _ => none) s

/-- OFFER (R69). -/
def execOffer (s : State) : Host.Outcome State Fault Refusal :=
  event (State.fromPeer fun f =>
    match f.body with
    | .offer terminal ask offset existing => some (inRun (State.takeOffer f.source terminal ask offset existing))
    | _ => none) s

/-- BID_WINDOW_END (R71). -/
def execBidWindowEnd (slot : SlotNo) (s : State) : Host.Outcome State Fault Refusal := event (State.bidEnds slot) s

/-- DISCARD_TIMER_EXPIRY (R79). -/
def execDiscardTimerExpiry (slot : SlotNo) (s : State) : Host.Outcome State Fault Refusal :=
  event (State.discardEnds slot) s

/-- RECORD_EXPIRY (R52). -/
def execRecordExpiry (id : Nat) (s : State) : Host.Outcome State Fault Refusal := event (State.expiryCheck id) s

/-- RELEASE (R55, R56). -/
def execRelease (s : State) : Host.Outcome State Fault Refusal :=
  event (State.fromAsk fun f =>
    match f.body with
    | .release id => some (addressed f.source (State.releaseRecord f.source id))
    | _ => none) s

end Sys2Proof.Machine
end

