-- ==== Sys2Proof/Machine/ExecTemplates.lean ====
section
/-! DEFINITION. The commands of the Template Store. -/

namespace Sys2Proof.Machine

/-- TEMPLATE_OPEN (R151). -/
def execTemplateOpen (s : State) : Host.Outcome State Fault Refusal :=
  event (State.fromAsk fun f =>
    match f.body with
    | .templateOpen id => some (addressed f.source (State.openTemplate f.source id))
    | _ => none) s

/-- TEMPLATE_BODY (R153): the one addressed frame that cancels no context. -/
def execTemplateBody (s : State) : Host.Outcome State Fault Refusal :=
  event (State.fromAsk fun f =>
    match f.body with
    | .templateBody token cls kept tod target window =>
      some (inRun (State.templateBody f.source token cls kept tod target window))
    | _ => none) s

/-- TEMPLATE_CONTEXT_TIMEOUT (R152). -/
def execTemplateContextTimeout (station : Station) (s : State) : Host.Outcome State Fault Refusal :=
  event (State.contextTimesOut station) s

/-- What a TEMPLATE DROP of one mode does, when it is the oldest frame of the Ask queue (R154). -/
def takeDrop (mode : DropMode) (f : AskFrame) : Option (State → State) :=
  match f.body with
  | .templateDrop m id =>
    if m = mode.code then some (addressed f.source (State.dropTemplates f.source mode id)) else none
  | _ => none

/-- TEMPLATE_DROP_ONE (R154). -/
def execTemplateDropOne (s : State) : Host.Outcome State Fault Refusal := event (State.fromAsk (takeDrop .one)) s

/-- TEMPLATE_DROP_ALL_TEMPORARY (R154). -/
def execTemplateDropAllTemporary (s : State) : Host.Outcome State Fault Refusal :=
  event (State.fromAsk (takeDrop .allTemporary)) s

/-- TEMPLATE_DROP_ALL (R154). -/
def execTemplateDropAll (s : State) : Host.Outcome State Fault Refusal := event (State.fromAsk (takeDrop .all)) s

/-- TEMPLATE_DROP_MAKE_TEMPORARY (R154). -/
def execTemplateDropMakeTemporary (s : State) : Host.Outcome State Fault Refusal :=
  event (State.fromAsk (takeDrop .makeTemporary)) s

/-- TEMPLATE_DROP_MAKE_KEPT (R154). -/
def execTemplateDropMakeKept (s : State) : Host.Outcome State Fault Refusal :=
  event (State.fromAsk (takeDrop .makeKept)) s

/-- TEMPLATE_DROP_BAD_MODE (R154): a mode beyond the list of R154. -/
def execTemplateDropBadMode (s : State) : Host.Outcome State Fault Refusal :=
  event (State.fromAsk fun f =>
    match f.body with
    | .templateDrop m _ =>
      if m ≥ 5 then some (addressed f.source (State.raise (.templateRefused f.source .badMode))) else none
    | _ => none) s

/-- DAY_TIME (R155). -/
def execDayTime (s : State) : Host.Outcome State Fault Refusal :=
  event (State.fromPeer fun f =>
    match f.body with
    | .dayTime v => some (inRun (State.takeDayTime v))
    | _ => none) s

/-- TEMPLATE_INSTANT (R157). -/
def execTemplateInstant (slot : TemplateNo) (s : State) : Host.Outcome State Fault Refusal :=
  event (State.instantPassed slot) s

/-- DAY_ROLL (R156). -/
def execDayRoll (s : State) : Host.Outcome State Fault Refusal := event State.dayRolls s

end Sys2Proof.Machine
end

