-- ==== Sys2Proof/Machine/Dispatch.lean ====
section
/-! DEFINITION. The effect of each command on everything but the queue of waiting commands. -/

namespace Sys2Proof.Machine

/-- The effect of a command, by one direct call of its meaning. -/
def exec (i : Instr) (s : State) : Host.Outcome State Fault Refusal :=
  match i with
  | .restart erase => Sys2Proof.Machine.execRestart erase s
  | .selectRelease => Sys2Proof.Machine.execSelectRelease s
  | .bayReport bay r => Sys2Proof.Machine.execBayReport bay r s
  | .linkLoss bay => Sys2Proof.Machine.execLinkLoss bay s
  | .dataTimerExpiry bay => Sys2Proof.Machine.execDataTimerExpiry bay s
  | .serviceOff => Sys2Proof.Machine.execServiceOff s
  | .serviceOn => Sys2Proof.Machine.execServiceOn s
  | .swapAsk => Sys2Proof.Machine.execSwapAsk s
  | .offer => Sys2Proof.Machine.execOffer s
  | .bidWindowEnd slot => Sys2Proof.Machine.execBidWindowEnd slot s
  | .discardTimerExpiry slot => Sys2Proof.Machine.execDiscardTimerExpiry slot s
  | .recordExpiry id => Sys2Proof.Machine.execRecordExpiry id s
  | .release => Sys2Proof.Machine.execRelease s
  | .claim => Sys2Proof.Machine.execClaim s
  | .handoverTimerExpiry bay => Sys2Proof.Machine.execHandoverTimerExpiry bay s
  | .doorAjarTimerExpiry bay => Sys2Proof.Machine.execDoorAjarTimerExpiry bay s
  | .periodTimerExpiry => Sys2Proof.Machine.execPeriodTimerExpiry s
  | .passCompletion => Sys2Proof.Machine.execPassCompletion s
  | .sliceTimerExpiry => Sys2Proof.Machine.execSliceTimerExpiry s
  | .switchTimerExpiry => Sys2Proof.Machine.execSwitchTimerExpiry s
  | .siteFeed => Sys2Proof.Machine.execSiteFeed s
  | .meterLost => Sys2Proof.Machine.execMeterLost s
  | .drawClaim => Sys2Proof.Machine.execDrawClaim s
  | .peerStale station => Sys2Proof.Machine.execPeerStale station s
  | .peerLost station => Sys2Proof.Machine.execPeerLost station s
  | .claimTimerExpiry => Sys2Proof.Machine.execClaimTimerExpiry s
  | .templateOpen => Sys2Proof.Machine.execTemplateOpen s
  | .templateBody => Sys2Proof.Machine.execTemplateBody s
  | .templateContextTimeout station => Sys2Proof.Machine.execTemplateContextTimeout station s
  | .templateDropOne => Sys2Proof.Machine.execTemplateDropOne s
  | .templateDropAllTemporary => Sys2Proof.Machine.execTemplateDropAllTemporary s
  | .templateDropAll => Sys2Proof.Machine.execTemplateDropAll s
  | .templateDropMakeTemporary => Sys2Proof.Machine.execTemplateDropMakeTemporary s
  | .templateDropMakeKept => Sys2Proof.Machine.execTemplateDropMakeKept s
  | .dayTime => Sys2Proof.Machine.execDayTime s
  | .templateInstant slot => Sys2Proof.Machine.execTemplateInstant slot s
  | .dayRoll => Sys2Proof.Machine.execDayRoll s
  | .frameReceive r => Sys2Proof.Machine.execFrameReceive r s
  | .sendStart idleBits => Sys2Proof.Machine.execSendStart idleBits s
  | .sendEnd r => Sys2Proof.Machine.execSendEnd r s
  | .rejoin idleBits => Sys2Proof.Machine.execRejoin idleBits s
  | .statusAsk => Sys2Proof.Machine.execStatusAsk s
  | .statusClear => Sys2Proof.Machine.execStatusClear s
  | .setup setting => Sys2Proof.Machine.execSetup setting s
  | .restartAsserted => Sys2Proof.Machine.execRestartAsserted s
  | .templateDropBadMode => Sys2Proof.Machine.execTemplateDropBadMode s
  | .serviceBadAction => Sys2Proof.Machine.execServiceBadAction s

end Sys2Proof.Machine
end

