-- ==== Sys2Proof/Machine/Tick.lean ====
section
/-! DEFINITION. What a millisecond of the schedule clock does while no command waits: timers count down, ages count up,
and the commands that fall due are put in the queue. -/

namespace Sys2Proof.Machine

/-! ### One millisecond -/

/-- A timer one millisecond on; it stays at 0 until its expiry is taken. -/
def countDown (t : Option Nat) : Option Nat := t.map (· - 1)

/-- The clock one millisecond on: the 32-bit seconds count goes up each 1000 ms (Introduction, Conventions). -/
def Clock.tick (c : Clock) : Clock :=
  if c.millis + 1 ≥ 1000 then ⟨(c.seconds + 1) % 2 ^ 32, 0⟩ else ⟨c.seconds, c.millis + 1⟩

/-- An age that holds at 65,535 (R5, R122). -/
def countAge (a : Nat) : Nat := min 65535 (a + 1)

/-- A bay one millisecond on (R5, R1, R135). -/
def Bay.tick (b : Bay) : Bay :=
  { b with reportAge := countAge b.reportAge, dataTimer := countDown b.dataTimer
           handover := b.handover.map fun h => { h with timer := h.timer - 1 } }

/-- A slot state one millisecond on (R61). -/
def SlotState.tick : SlotState → SlotState
  | .bidding t => .bidding (t - 1)
  | .won id off k d => .won id off k (d - 1)
  | .lost d => .lost (d - 1)
  | .none d => .none (d - 1)

/-- The Held Answer Table one millisecond on. -/
def AskTable.tick (a : AskTable) : AskTable :=
  { a with slots := Vector.ofFn fun i => a.slots[i].map fun x => { x with state := x.state.tick } }

/-- The planner one millisecond on (R82, R84). -/
def Planner.tick (p : Planner) : Planner :=
  { p with period := countDown p.period, pass := p.pass.map fun x => { x with age := x.age + 1 } }

/-- The converter one millisecond on (R104). -/
def Converter.tick : Converter → Converter
  | .granted h t => .granted h (t - 1)
  | .switching t => .switching (t - 1)
  | c => c

/-- The Feed Share Unit one millisecond on, in RUN (R120, R122, R127, R129). -/
def Feed.tick (f : Feed) : Feed :=
  { f with meterAge := countAge f.meterAge, peers := f.peers.map fun p => { p with age := p.age + 1 }
           claimTimer := countDown f.claimTimer }

/-- A template as the clock counts to a local day second: its instant is noted as passed when it lies there (R156). -/
def Template.reach (cfg : Setup) (l : Int) (x : Template) : Template :=
  if timeOfDay l = x.instant cfg then { x with passed := some (dayNumber l) } else x

/-- The store as the clock counts to a local day second (R156). -/
def TemplateStore.reach (cfg : Setup) (l : Int) (t : TemplateStore) : TemplateStore :=
  { t with slots := Vector.ofFn fun i => t.slots[i].map (Template.reach cfg l)
           rollDue := t.rollDue || timeOfDay l == 0 }

/-- The open-template contexts one millisecond on (R150). -/
def TemplateStore.tick (t : TemplateStore) : TemplateStore :=
  { t with contexts := Vector.ofFn fun i => t.contexts[i].map fun c => { c with timer := c.timer - 1 } }

/-- Points of the day clock passed as the seconds count goes up by one (R156). -/
def State.reachSecond (s : State) : State :=
  match s.localSecond with
  | some l => { s with ts := s.ts.reach s.cfg l }
  | none => s

/-- Every timer and age one millisecond on. In UNSET only the clock and the bay link timers run (R23, R176). -/
def State.advance (s : State) : State :=
  let s' := { s with clock := s.clock.tick, bays := Vector.ofFn fun i => (s.bays[i]).tick }
  match s.part with
  | .unset => s'
  | .run =>
    let t := { s' with
      asks := s'.asks.tick, plan := s'.plan.tick, boost.converter := s'.boost.converter.tick
      feed := s'.feed.tick, ts := s'.ts.tick }
    if t.clock.millis = 0 then t.reachSecond else t

/-! ### Commands that fall due -/

/-- A command if its moment has come. -/
def whenDue (due : Bool) (i : Instr) : List Instr := if due then [i] else []

/-- The commands due for one bay. -/
def State.bayDue (s : State) (b : BayNo) : List (List Instr) :=
  [whenDue (s.bay b).linkDue (.linkLoss b), whenDue (s.bay b).dataDue (.dataTimerExpiry b),
   whenDue (s.bay b).handoverDue (.handoverTimerExpiry b), whenDue (s.bay b).ajarDue (.doorAjarTimerExpiry b)]

/-- The commands due for one slot of the Held Answer Table. -/
def State.slotDue (s : State) (i : SlotNo) : List (List Instr) :=
  match s.asks.slots[i] with
  | some x => [whenDue x.bidDue (.bidWindowEnd i), whenDue x.discardDue (.discardTimerExpiry i)]
  | none => []

/-- The record expiries due, in book order (R52). -/
def State.expiriesDue (s : State) : List Instr :=
  (s.book.records.filter fun r => r.expiryDue s.cfg s.clock.seconds).map fun r => .recordExpiry r.id

/-- The template instants passed and not yet taken, in order of template id (R156). -/
def State.instantsDue (s : State) : List Instr :=
  (allTemplates.filter fun t => ((s.ts.slots[t]).bind (·.passed)).isSome).map .templateInstant

/-- The commands due for one entry of the Peer Claim Table. -/
def Peer.due (p : Peer) : List (List Instr) :=
  [whenDue p.staleDue (.peerStale p.station), whenDue p.lostDue (.peerLost p.station)]

/-- Whether the pass in progress has run its 50 ms (R84). -/
def Planner.passDue (p : Planner) : Bool :=
  match p.pass with
  | some x => x.age ≥ passMillis
  | none => false

/-- Whether the context of a terminal is due to time out. -/
def State.contextDue (s : State) (st : Station) : Bool :=
  match s.ts.contexts[st] with
  | some c => c.due
  | none => false

/-- The commands that have fallen due, in groups whose own order the manual fixes (R52, R156); between groups it fixes
none. -/
def State.dueGroups (s : State) : List (List Instr) :=
  let groups :=
    allBays.flatMap s.bayDue ++ allSlots.flatMap s.slotDue ++ s.feed.peers.flatMap Peer.due
      ++ (List.finRange 16).map (fun st => whenDue (s.contextDue st) (.templateContextTimeout st))
      ++ [s.expiriesDue, s.instantsDue, whenDue s.ts.rollDue .dayRoll,
          whenDue (s.plan.period == some 0) .periodTimerExpiry, whenDue s.plan.passDue .passCompletion,
          whenDue (match s.boost.converter with | .granted _ 0 => true | _ => false) .sliceTimerExpiry,
          whenDue (match s.boost.converter with | .switching 0 => true | _ => false) .switchTimerExpiry,
          whenDue (s.part == .run && s.feed.meterDue) .meterLost,
          whenDue (s.feed.claimTimer == some 0) .claimTimerExpiry]
  groups.filter (!·.isEmpty)

/-- The first member of the `k`-th group and the groups that are left. -/
def takeGroup : Nat → List (List Instr) → Option (Instr × List (List Instr))
  | _, [] => none
  | _, [] :: gs => takeGroup 0 gs
  | 0, (c :: g) :: gs => some (c, if g.isEmpty then gs else g :: gs)
  | k + 1, g :: gs => (takeGroup k gs).map fun x => (x.1, g :: x.2)

/-- The members of the groups one after another, the group that goes next being a free value's choice, at most `fuel`
of them. A group keeps its own order. DESIGN CHOICE, log entry 3. -/
def mergeFree (free : Nat) : Nat → List (List Instr) → List Instr
  | 0, _ => []
  | fuel + 1, gs =>
    let k := if gs.length ≤ 1 then 0 else Config.orderChoice (free + fuel) % gs.length
    match takeGroup k gs with
    | some (c, rest) => c :: mergeFree free fuel rest
    | none => []

/-- One millisecond with no command waiting: the clock, timers and ages go on, and the commands that fall due are put in
the queue. While RESTART is held asserted nothing runs (R172). DESIGN CHOICE, log entry 2. -/
def State.tick (s : State) : State :=
  if s.pins.restart then s.quiet
  else
    let t := s.quiet.advance
    let groups := t.dueGroups
    let n := (groups.map List.length).sum
    { t with pending := mergeFree t.free n groups, free := t.free + n }

end Sys2Proof.Machine
end

