-- ==== Sys2Proof/Safety.lean ====
section
/-! DEFINITION. What the manual says holds of the whole part between events, in the words claims use: one predicate over
State for each block, and the frames that statements about one command share. -/

namespace Sys2Proof.Machine.Safety

open Sys2Proof Sys2Proof.Machine

/-! ### Restart and UNSET (R1, R37, R61, R82, R104, R119, R150, R172, R176) -/

/-- A bay as UNSET keeps it: at its restart values but for the door field, the report age and what the last valid report
showed of the pack (R23, R176). -/
def BayUnset (b : Bay) : Prop :=
  b = { Bay.restart with door := b.door, reportAge := b.reportAge, lastPresent := b.lastPresent }

/-- While the part is UNSET every block but the Line Controller, the Notice Unit and the Setup Store is at its restart
values, nothing is loaded, and nothing is queued to be sent (R168, R176). -/
def UnsetHeld (s : State) : Prop :=
  s.part = .unset →
    s.book = .restart ∧ s.asks = .restart ∧ s.plan = .restart ∧ s.boost = .restart ∧ s.feed = .restart ∧
    s.ts = .restart ∧ s.cfg = .unloaded ∧ s.line.outQueue = [] ∧ s.line.sending = none ∧
    ∀ b : BayNo, BayUnset (s.bay b)

/-- While RESTART is held asserted the whole part is at its restart values (R172). -/
def RestartHeld (s : State) : Prop :=
  s.pins.restart = true →
    s.part = .unset ∧ s.clock = ⟨0, 0⟩ ∧ s.assembly = none ∧ s.line = .restart ∧ s.flags = 0 ∧
    ∀ b : BayNo, s.bay b = .restart

/-- What holds of a part as it restarts and before it enters RUN. -/
def StartSound (s : State) : Prop := UnsetHeld s ∧ RestartHeld s

/-! ### The Bay Table (R1, R2, R3, R21, R22) -/

/-- The figures of a pack record lie in their ranges, its serial is not 0, and its retired flag is the one its health
gives (R2, R3). -/
def PackSound (cfg : Setup) (p : Pack) : Prop :=
  p.serial ≠ 0 ∧ p.soc ≤ 1000 ∧ p.health ≤ 1000 ∧ -400 ≤ p.temperature ∧ p.temperature ≤ 850 ∧
  p.retired = decide (p.health < cfg.retireThreshold)

/-- Whether the pack record is present, absent or either in a state, by the table of 1.3 and R2: in OPEN it is present
until the handover context says it was removed. -/
def PackPresence (b : Bay) : Prop :=
  match b.state with
  | .empty => b.pack = none
  | .checking => b.pack = none
  | .stock => b.pack.isSome = true
  | .held => b.pack.isSome = true
  | .ready => b.pack.isSome = true
  | .opened => ∃ h, b.handover = some h ∧ h.packRemoved = b.pack.isNone ∧ h.outSerial.isSome = h.packRemoved
  | .ajar => b.pack.isSome = true ∧ ∃ h, b.handover = some h ∧ h.packRemoved = false
  | .fault .stageFault => True
  | .fault .noPackData => b.pack = none
  | .fault _ => b.pack.isSome = true
  | .off _ => b.pack = none

/-- The fields of a bay record that are present in some states only are present in those alone (R1, R14, R135), and a
pending fault is of a kind R14 notes. -/
def BayFields (b : Bay) : Prop :=
  (∀ k, b.pendingFault = some k → b.state.atDoor = true ∧ (k = .stageFault ∨ k = .packFault ∨ k = .packHot)) ∧
  (b.state = .checking → b.dataTimer ≠ none) ∧
  (b.dataTimer ≠ none → b.state = .checking ∨ b.state.accepted = true) ∧
  (b.reservation.isSome = b.state.reserved) ∧
  (b.handover.isSome = b.state.atDoor) ∧
  (∀ h, b.handover = some h → b.reservation = some h.reservation)

/-- The setpoint is a multiple of 10 W up to 4000 W, and 0 on a bay that is not chargeable (R1, R21). -/
def SetpointSound (cfg : Setup) (b : Bay) : Prop :=
  b.setpoint % 10 = 0 ∧ b.setpoint ≤ 4000 ∧ (b.chargeable cfg = false → b.setpoint = 0)

/-- The lock (R22): UNLOCKED in OPEN and AJAR, with no lock pending there (log entry 22); elsewhere LOCKED, or UNLOCKED with
lock pending while the door is open; LOCKED in OFF. -/
def LockSound (b : Bay) : Prop :=
  (b.state.atDoor = true → b.locked = false ∧ b.lockPending = false) ∧
  (b.lockPending = true → b.locked = false ∧ b.door = .opened) ∧
  (b.state.atDoor = false → b.locked = !b.lockPending) ∧
  (∀ c, b.state = .off c → b.locked = true)

/-- Every bay record keeps to R1, R2, R3, R14, R21 and R22, and in RUN a bay is OFF with cause UNUSED exactly when its
class mask is empty (R1). -/
def BaysSound (s : State) : Prop :=
  ∀ b : BayNo,
    BayFields (s.bay b) ∧ PackPresence (s.bay b) ∧ SetpointSound s.cfg (s.bay b) ∧ LockSound (s.bay b) ∧
    (∀ p, (s.bay b).pack = some p → PackSound s.cfg p) ∧
    (s.part = .run → ((s.bay b).mask = 0 ↔ (s.bay b).state = .off .unused))

/-! ### The Reservation Book (R37 to R41, R54) -/

/-- Whether record `a` stands strictly before `b` in book order (R38). -/
def Before (a b : Reservation) : Prop := a.windowOpen < b.windowOpen ∨ (a.windowOpen = b.windowOpen ∧ a.id < b.id)

/-- The ranges of a record's fields (R37), and late only in BOUND (R49). -/
def RecordSound (r : Reservation) : Prop :=
  1 ≤ r.id ∧ r.id ≤ 65535 ∧ r.token ≠ 0 ∧ 500 ≤ r.target ∧ r.target ≤ 1000 ∧
  r.windowOpen + 120 ≤ r.windowClose ∧ r.windowClose ≤ r.windowOpen + 3600 ∧
  (r.late = true → ∃ b, r.state = .bound b)

/-- The number of records of a class (R40). -/
def Book.countOf (k : Book) (c : PackClass) : Nat := (k.records.filter (·.cls == c)).length

/-- The book keeps to R37 to R41 and R54: at most 32 records in book order with distinct ids and tokens, a commit count
that is the number of records of its class and never above the commit limit, and an expired-token list of at most eight
distinct tokens, none of them a record's. -/
def BookSound (s : State) : Prop :=
  s.book.records.length ≤ 32 ∧
  s.book.records.Pairwise Before ∧
  (s.book.records.map (·.id)).Nodup ∧
  (s.book.records.map (·.token)).Nodup ∧
  (∀ r ∈ s.book.records, RecordSound r) ∧
  (∀ c : PackClass, s.book.commit[c] = Book.countOf s.book c ∧ s.book.commit[c] ≤ s.cfg.commitLimit[c]) ∧
  (1 ≤ s.book.nextId ∧ s.book.nextId ≤ 65535) ∧
  s.book.expired.length ≤ 8 ∧ s.book.expired.Nodup ∧
  (∀ r ∈ s.book.records, r.token ∉ s.book.expired) ∧
  s.book.unknownReleases ≤ 255

/-- A record and the bay it names agree by the table of 3.3. -/
def RecordAgrees (s : State) (r : Reservation) : Prop :=
  match r.state with
  | .pending => r.atDoor = false
  | .bound b => (s.bay b).reservation = some r.id ∧ (s.bay b).state = if r.atDoor then .ajar else .held
  | .ready b => (s.bay b).reservation = some r.id ∧ (s.bay b).state = if r.atDoor then .ajar else .ready
  | .handover b _ => (s.bay b).reservation = some r.id ∧ (s.bay b).state = .opened ∧ r.atDoor = true

/-- R43: each record agrees with the bay it names, and the reservation field of every bay names a record of the book
that names the bay. -/
def BindingsAgree (s : State) : Prop :=
  (∀ r ∈ s.book.records, RecordAgrees s r) ∧
  (∀ (b : BayNo) (id : Nat), (s.bay b).reservation = some id →
    ∃ r ∈ s.book.records, r.id = id ∧ r.bay = some b)

/-! ### The Ask Handler (R61) -/

/-- At most one slot for an ask, every WON slot names a record of the book, a slot without an own offer and a slot in
NONE have a reason, and the asks-dropped count is at most 255 (R61). -/
def SlotsSound (s : State) : Prop :=
  (∀ (i j : SlotNo) (x y : Slot), s.asks.slots[i] = some x → s.asks.slots[j] = some y →
    x.terminal = y.terminal → x.ask = y.ask → i = j) ∧
  (∀ (i : SlotNo) (x : Slot), s.asks.slots[i] = some x →
    (∀ id off k d, x.state = .won id off k d → (s.book.byId id).isSome = true) ∧
    (x.own = none → x.reason.isSome = true) ∧
    (∀ d, x.state = .none d → x.reason.isSome = true)) ∧
  s.asks.dropped ≤ 255

/-! ### The Charge Planner (R82) -/

/-- No request stands open, the again flag is yes only in RUNNING, the period timer runs in RUN, and the last urgency
order names no bay twice (R82, R84). -/
def PlanSound (s : State) : Prop :=
  s.plan.requested = false ∧ (s.plan.again = true → s.plan.pass.isSome = true) ∧
  (s.part = .run → s.plan.period.isSome = true) ∧ s.plan.lastOrder.Nodup

/-- R98: the site-side draws of the twelve setpoints add up to no more than the share. -/
def DrawWithinShare (s : State) : Prop := totalDraw s.bays ≤ s.feed.share

/-! ### The Boost Arbiter (R104, R105) -/

/-- R105: the boost field is yes for the holder alone, the holder is HELD or STOCK, the eligible flags are those of the
bays' states (R106), and no bay is in both request sets (R104). -/
def BoostSound (s : State) : Prop :=
  (∀ b : BayNo, (s.bay b).boost = decide (s.boost.converter.holder = some b)) ∧
  (∀ b : BayNo, s.boost.eligible[b] = (s.bay b).state.eligible) ∧
  (∀ h, s.boost.converter.holder = some h → (s.bay h).state.eligible = true) ∧
  (∀ b ∈ s.boost.high, b ∉ s.boost.low)

/-! ### The Feed Share Unit (R119, R122, R130 to R132) -/

/-- The Feed Share Unit keeps to R119 and R130 to R132: the limit is the one R122 gives, the share is the one R130 and
R131 give from the figures held, it is at most the limit and, while detached, at most the isolated share; no priority
demand is above its demand; the trim lies in 500..1000 in steps of 10; and the table holds at most seven entries of
distinct stations, none of them the part's own. -/
def FeedSound (s : State) : Prop :=
  (s.part = .run → s.feed.limit = limitInForce s.cfg s.feed.meter s.feed.siteLimit) ∧
  s.feed.share = s.feed.shareNow s.cfg ∧
  s.feed.share ≤ s.feed.limit ∧
  (s.feed.detached = true → s.feed.share ≤ s.cfg.isolatedShare) ∧
  (s.part = .run → s.feed.detached = decide (s.line.state = .detached)) ∧
  s.feed.ownPriority ≤ s.feed.ownDemand ∧
  (∀ p ∈ s.feed.peers, p.priority ≤ p.demand ∧ p.station ≠ s.cfg.station) ∧
  (500 ≤ s.feed.trim ∧ s.feed.trim ≤ 1000 ∧ s.feed.trim % 10 = 0) ∧
  s.feed.peers.length ≤ 7 ∧ (s.feed.peers.map (·.station)).Nodup

/-! ### The Line Controller (R163 to R169) -/

/-- The Line Controller keeps to R162 to R169: counts in range, the line state and caution those the counts give, gaps
counted in DETACHED alone, queues within their sizes, and at most one DRAW CLAIM queued. -/
def LineSound (s : State) : Prop :=
  (s.line.sendCount ≤ 255 ∧ s.line.recvCount ≤ 127 ∧ s.line.errorLog ≤ 255) ∧
  (s.line.state ≠ .detached → s.line.state = stateOfCounts s.line.sendCount s.line.recvCount) ∧
  (s.line.state = .detached → s.line.sendCount = 255 ∧ s.line.sending = none) ∧
  (s.line.gaps.isSome = decide (s.line.state = .detached)) ∧ (∀ g, s.line.gaps = some g → g < 100) ∧
  (s.line.caution = decide (s.line.sendCount ≥ 80 ∨ s.line.recvCount ≥ 80)) ∧
  (s.line.overflowReported = true → s.line.errorLog = 255) ∧
  (s.line.askQueue.length ≤ 8 ∧ s.line.peerQueue.length ≤ 16 ∧ s.line.outQueue.length ≤ 8) ∧
  (s.line.outQueue.filter (·.frame.isDrawClaim)).length ≤ 1 ∧
  (s.line.asksLost ≤ 255 ∧ s.line.peerLost ≤ 255 ∧ s.line.noticesLost ≤ 255 ∧ s.line.sendsDropped ≤ 255)

/-! ### The Template Store (R150) -/

/-- Templates within the ranges of R150. -/
def TemplatesSound (s : State) : Prop :=
  ∀ (t : TemplateNo) (x : Template), s.ts.slots[t] = some x →
    x.token ≠ 0 ∧ 500 ≤ x.target ∧ x.target ≤ 1000 ∧ x.todOpen < 86400 ∧ 120 ≤ x.window ∧ x.window ≤ 3600

/-! ### Soundness as a whole -/

/-- Everything above together: what the manual says holds of the part between events. -/
structure Sound (s : State) : Prop where
  start : StartSound s
  bays : BaysSound s
  book : BookSound s
  bindings : BindingsAgree s
  slots : SlotsSound s
  plan : PlanSound s
  draw : DrawWithinShare s
  boost : BoostSound s
  feed : FeedSound s
  line : LineSound s
  templates : TemplatesSound s

/-- The part is in RUN with RESTART released, and no event is in progress. -/
structure Running (s : State) : Prop where
  run : s.part = .run
  released : s.pins.restart = false
  settled : s.plan.requested = false

/-- The part is UNSET with RESTART released, and no event is in progress. -/
structure Waiting (s : State) : Prop where
  unset : s.part = .unset
  released : s.pins.restart = false
  settled : s.plan.requested = false

/-! ### What one event leaves behind -/

/-- An event from `s` to `t` in RUN has requested a plan pass (R83, R84): in IDLE a pass has started, its snapshot taken of
the part as `t` holds it at the end of the event (log entry 11), with the period timer at 10 s; in RUNNING the again flag is
yes and the pass goes on. -/
def PassAsked (s t : State) : Prop :=
  t.plan =
    match s.plan.pass with
    | none =>
      { s.plan with
        pass := some ⟨⟨t.clock.seconds, t.bays, t.book.records, t.feed.share⟩, 0⟩, again := false, period := some 10000 }
    | some _ => { s.plan with again := true }

/-- The notices of an event, in order: each sets its condition flag, and is posted unless its group is disabled or the
part is UNSET (R168, R179), which by log entry 52 counts none as lost. -/
def Raised (ns : List Notice) (s t : State) : Prop :=
  t.flags = ns.foldl (fun f n => setFlag n.code f) s.flags ∧
  t.line = ns.foldl (fun l n => if s.part = .unset ∨ s.silenced n = true then l else l.post (.notice n)) s.line

/-- The state with the oldest frame of the Ask queue taken (R166). -/
def popAsk (s : State) : State := { s with line := { s.line with askQueue := s.line.askQueue.tail } }

/-- The state with the oldest frame of the Peer queue taken (R167). -/
def popPeer (s : State) : State := { s with line := { s.line with peerQueue := s.line.peerQueue.tail } }

/-- Nothing put out: no bay order, no acknowledgement, no error flag and no frame begun. -/
def quietOut : Outputs := ⟨[], false, false, none⟩

/-! ### A bay report, step by step as the rules put it -/

/-- The record of a bay after the first two parts of R4: the age and presence noted, the door field set, and a pending
lock ordered as the door closes (R22). -/
def reported (r : Report) (x : Bay) : Bay :=
  let shut := x.lockPending && r.door == .closed
  { x with
    reportAge := 0, lastPresent := some r.present, door := r.door
    locked := x.locked || shut, lockPending := x.lockPending && !shut }

/-- DOOR_FORCED of the door step (R22): the door field goes from CLOSED to OPEN while the lock is LOCKED, none pending; not for
a door that stood OPEN already as the lock was forced LOCKED (log entry 53). -/
def forcedNotices (b : BayNo) (r : Report) (x : Bay) : List Notice :=
  if x.door = .closed ∧ r.door = .opened ∧ x.locked = true ∧ x.lockPending = false then
    [.doorForced b .opened r.present]
  else []

/-- The state to which the CHECKING rule takes a bay, by the first case of R9 that applies. -/
def checkedState (mask : BitVec 4) (r : Report) : BayState :=
  if r.stageFault = true then .fault .stageFault
  else if r.present = false then .empty
  else if r.serial = 0 then .checking
  else if mask.getLsbD r.cls = false then .fault .wrongClass
  else if r.packFault = true then .fault .packFault
  else if 600 ≤ r.temperature then .fault .packHot
  else .stock

/-- The pack record the CHECKING rule leaves in the state it took the bay to (R9). -/
def checkedPack (cfg : Setup) (new : BayState) (r : Report) : Option Pack :=
  if new = .stock ∨ new = .fault .wrongClass ∨ new = .fault .packFault ∨ new = .fault .packHot then
    some ⟨r.serial, r.cls, r.soc, r.temperature, r.health, decide (r.health < cfg.retireThreshold)⟩
  else none

/-- BAY_FAULT for a bay that has entered FAULT, with the serial of its pack record or 0 (R12). -/
def faultNotices (b : BayNo) (new : BayState) (pack : Option Pack) : List Notice :=
  match new with
  | .fault k => [.bayFault b k ((pack.map (·.serial)).getD 0)]
  | _ => []

/-- The record of a bay outside OPEN that has gone to a state without a reservation: EMPTY, CHECKING, STOCK,
FAULT or OFF (R1, R2, R9, R12, R21, R22). -/
def movedTo (new : BayState) (pack : Option Pack) (x : Bay) : Bay :=
  { x with
    state := new, pendingFault := none, pack := pack, setpoint := 0, boost := false, reservation := none, handover := none
    dataTimer := if new = .checking then some 10000 else none
    locked := x.locked || new.outOfUse, lockPending := x.lockPending && !new.outOfUse }

/-- The records with the one of this id, if an id is given, unbound to PENDING (R17, R46). -/
def unboundIn (id : Option Nat) (l : List Reservation) : List Reservation :=
  l.map fun r => if id = some r.id then { r with state := .pending, late := false, atDoor := false } else r

/-- The arbiter after a bay has left its state and come to another: its eligible flag follows (R106), and if it held the
converter the grant has ended and the switchover has begun (R112, R115). -/
def arbiterLeft (b : BayNo) (new : BayState) (a : Arbiter) : Arbiter :=
  { a with
    eligible := a.eligible.set b new.eligible b.isLt
    converter := if a.converter.holder = some b then .switching 2000 else a.converter }

/-- The pack record with a report's figures copied into it (R2, R3). -/
def copied (cfg : Setup) (r : Report) (p : Pack) : Pack :=
  { p with
    soc := r.soc, temperature := r.temperature, health := r.health
    retired := decide (r.health < cfg.retireThreshold) }

/-- Whether a report carries pack data with the serial of this pack record (1.2). -/
def sameAs (r : Report) (p : Pack) : Prop := r.present = true ∧ r.serial ≠ 0 ∧ r.serial = p.serial

/-- PACK_RETIRED, when a copy turns the retired flag from no to yes (R3). -/
def retiredNotices (cfg : Setup) (b : BayNo) (r : Report) (p : Pack) : List Notice :=
  if p.retired = false ∧ r.health < cfg.retireThreshold then [.packRetired b p.serial r.health] else []

/-- The state to which a report takes a STOCK, HELD or READY bay away from its pack, by the first case of R10 that
applies; none when the bay keeps its pack (cases 6 and 7). -/
def takenAway (mask : BitVec 4) (r : Report) (p : Pack) : Option BayState :=
  if r.stageFault = true then some (.fault .stageFault)
  else if r.present = false then some .empty
  else if r.serial = 0 then none
  else if r.serial ≠ p.serial then some (checkedState mask r)
  else if r.packFault = true then some (.fault .packFault)
  else if 600 ≤ r.temperature then some (.fault .packHot)
  else none

/-- PACK_MISSING, and DOOR_FORCED when the pack left with the door CLOSED and the lock LOCKED (R11). -/
def missingNotices (b : BayNo) (x : Bay) (p : Pack) : List Notice :=
  .packMissing b p.serial (x.reservation.getD 0) ::
    (if x.door = .closed ∧ x.locked = true then [.doorForced b .closed false] else [])

/-- An event whose only bay order is the one it replies to a report of bay `b` with (R20). -/
def Replied (b : BayNo) (t : State) : Prop :=
  t.out = ⟨[⟨b, (t.bay b).setpoint, (t.bay b).boost, (t.bay b).locked⟩], false, false, none⟩

/-- The part after its arbiter has taken a boost fault from a report of bay `b` (R117, R112, R102): the converter FAULTED,
a former holder's boost no and its setpoint cut to its normal cap, BOOST_FAULT raised, and a pass requested if a grant
ended. -/
def afterBoostFault (b : BayNo) (s : State) : State :=
  let ended : State → State := fun u => u.raise (.boostFault b s.boost.converter.name s.boost.converter.holder)
  match s.boost.converter with
  | .faulted => s
  | .granted h _ =>
    let x := s.bay h
    let cut := min x.setpoint (normalCap s.cfg (targetOf s.cfg s.book.records x) x)
    ended { s with
      boost := { s.boost with converter := .faulted }, plan := { s.plan with requested := true }
      bays := s.bays.set h { x with boost := false, setpoint := if x.chargeable s.cfg then cut else 0 } h.isLt }
  | _ => ended { s with boost := { s.boost with converter := .faulted } }

/-! ### Removal, expiry and the door, as the rules put them -/

/-- A slot after a reservation has left the book: WON with its id turns to NONE(GONE), the discard timer running on
(R80). -/
def slotWithout (id : Nat) (x : Slot) : Slot :=
  match x.state with
  | .won n _ _ d => if n = id then { x with state := .none d, reason := some .gone } else x
  | _ => x

/-- The Held Answer Table after a reservation has left the book (R80). -/
def asksWithout (id : Nat) (a : AskTable) : AskTable :=
  { a with slots := Vector.ofFn fun i => (a.slots[i]).map (slotWithout id) }

/-- The book after a record has been removed: the others in their order, its class's commitment one lower (R57). -/
def bookWithout (r : Reservation) (k : Book) : Book :=
  { k with
    records := k.records.filter fun z => z.id ≠ r.id
    commit := k.commit.set r.cls (k.commit[r.cls] - 1) r.cls.isLt }

/-- A token put at the newest end of the expired-token list, which keeps its eight newest (R54). -/
def expiredWith (token : Nat) (l : List Nat) : List Nat :=
  if l.length < 8 then l ++ [token] else l.tail ++ [token]

/-- The record of a bay released to STOCK: no reservation, and setpoint 0 if it is not chargeable there (R16, R21). -/
def releasedBay (cfg : Setup) (x : Bay) : Bay :=
  let y : Bay := { x with state := .stock, reservation := none }
  { y with setpoint := if y.chargeable cfg = true then x.setpoint else 0 }

/-- The bays after the removal of a record: the one it was BOUND or READY in, if any, released to STOCK (R57). -/
def baysReleased (cfg : Setup) (r : Reservation) (bays : Vector Bay 12) : Vector Bay 12 :=
  match r.state with
  | .bound b => bays.set b (releasedBay cfg bays[b]) b.isLt
  | .ready b => bays.set b (releasedBay cfg bays[b]) b.isLt
  | _ => bays

/-- The arbiter after the removal of a record: a READY bay released to STOCK is eligible again (R106). -/
def arbiterReleased (r : Reservation) (a : Arbiter) : Arbiter :=
  match r.state with
  | .ready b => { a with eligible := a.eligible.set b true b.isLt }
  | _ => a

/-- The pending fault of a bay at the door after a report (R14): a stage fault ranks above a pack fault of the original
pack, a pack fault above heat; a higher rank replaces, and none is cleared. -/
def pendingAfter (x : Bay) (r : Report) : Option FaultKind :=
  let own := r.present = true ∧ r.serial ≠ 0 ∧ x.pack.map (·.serial) = some r.serial
  let stage := x.pendingFault = some .stageFault ∨ r.stageFault = true
  let fault := x.pendingFault = some .packFault ∨ (own ∧ r.packFault = true)
  let hot := x.pendingFault = some .packHot ∨ (own ∧ 600 ≤ r.temperature)
  if stage then some .stageFault else if fault then some .packFault else if hot then some .packHot else none

/-- The pack record of a bay at the door after a report with its serial (R14). -/
def packAtDoor (cfg : Setup) (r : Report) (x : Bay) : Option Pack :=
  x.pack.map fun p => if r.present = true ∧ r.serial ≠ 0 ∧ r.serial = p.serial then copied cfg r p else p

/-- Whether a report in OPEN first shows the original pack gone (R140). -/
def removesPack (r : Report) (x : Bay) (h : Handover) : Bool :=
  !h.packRemoved && (!r.present || (r.serial != 0 && x.pack.any fun p => r.serial != p.serial))

/-- PACK_RETIRED of a copy made at the door, if one is made (R3, R14). -/
def retiredAtDoor (cfg : Setup) (b : BayNo) (r : Report) (x : Bay) : List Notice :=
  match x.pack with
  | some p => if r.present = true ∧ r.serial ≠ 0 ∧ r.serial = p.serial then retiredNotices cfg b r p else []
  | none => []

/-- The record of a bay that has left OPEN or AJAR for a state in use or for FAULT (R14, R16, R22): LOCKED at once if its
door is CLOSED, and with lock pending if it is OPEN. -/
def leftDoor (new : BayState) (pack : Option Pack) (res : Option Nat) (x : Bay) : Bay :=
  { x with
    state := new, pendingFault := none, pack := pack, reservation := res, handover := none
    dataTimer := if new = .checking then some 10000 else none
    locked := decide (x.door = .closed), lockPending := decide (x.door = .opened) }

/-- The record of a bay that has left OPEN or AJAR for CHECKING and has gone on by the CHECKING rule, LOCKED at once if that
rule took it to FAULT (R22). -/
def leftChecking (new : BayState) (pack : Option Pack) (x : Bay) : Bay :=
  { leftDoor new pack none x with
    locked := decide (x.door = .closed) || new.outOfUse
    lockPending := decide (x.door = .opened) && !new.outOfUse }

/-! ### Asks and offers, as the rules put them -/

/-- Whether offer `a` ranks before offer `b` (R70). -/
def Ranked (a b : Heard) : Prop :=
  a.offset < b.offset ∨
    (a.offset = b.offset ∧
      ((a.existing = true ∧ b.existing = false) ∨ (a.existing = b.existing ∧ a.station < b.station)))

/-- Whether a bay is a candidate for an ask of a class: STOCK, its pack not retired and of that class (R67). -/
def AskCandidate (s : State) (c : PackClass) (b : BayNo) : Prop :=
  (s.bay b).state = .stock ∧ ∃ p, (s.bay b).pack = some p ∧ p.retired = false ∧ p.cls = c

/-- Whether the book has room for one more record of a class (R66, R41). -/
def RoomFor (s : State) (c : PackClass) : Prop :=
  s.book.records.length < 32 ∧ s.book.commit[c] < s.cfg.commitLimit[c]

/-- What R65 to R67 make the part offer for a new ask, or its reason for making no offer; `horizon` is the arrival
estimate plus the window length. -/
def OwnOffer (s : State) (token cls target horizon : Nat) (d : Offer ⊕ NoneReason) : Prop :=
  let held := ∃ r ∈ s.book.records, r.token = token
  let accepted := ∃ b : BayNo, (s.bay b).mask.getLsbD cls = true
  (held → d = .inl ⟨0, true⟩) ∧
  (¬ held → (token = 0 ∨ ¬ accepted) → d = .inr .noPack) ∧
  (¬ held → token ≠ 0 → accepted → ∀ c : PackClass, c.val = cls →
    (¬ RoomFor s c → d = .inr .full) ∧
    (RoomFor s c → (∀ b, AskCandidate s c b → horizon < normalEstimate s.cfg target (s.bay b)) → d = .inr .noPack) ∧
    (RoomFor s c → ∀ b, AskCandidate s c b → normalEstimate s.cfg target (s.bay b) ≤ horizon →
      (∀ a, AskCandidate s c a →
        normalEstimate s.cfg target (s.bay b) ≤ normalEstimate s.cfg target (s.bay a)) →
      d = .inl ⟨normalEstimate s.cfg target (s.bay b), false⟩))

/-- The id a creation gives: the first from next id on, going from 65535 to 1, that no record holds (R39). -/
def IdGiven (k : Book) (id : Nat) : Prop :=
  (∀ r ∈ k.records, r.id ≠ id) ∧ 1 ≤ id ∧ id ≤ 65535 ∧
  ∀ m < (id + 65535 - k.nextId) % 65535, ∃ r ∈ k.records, r.id = (k.nextId + m - 1) % 65535 + 1

/-- The book after a creation: the new record in its place in book order, its class's commitment one higher, the next id
after the one given, and its token out of the expired-token list (R39, R40, R41, R54). -/
def BookGrown (rec : Reservation) (k k' : Book) : Prop :=
  IdGiven k rec.id ∧ k'.records.Perm (rec :: k.records) ∧ k'.records.Pairwise Before ∧
  k' = { k with
    records := k'.records
    commit := k.commit.set rec.cls (k.commit[rec.cls] + 1) rec.cls.isLt
    nextId := if rec.id = 65535 then 1 else rec.id + 1
    expired := k.expired.filter (· ≠ rec.token) }

/-- The state after a record has left the book for any cause but DONE: its bay released if it was BOUND or READY, the Ask
Handler told (R57, R80). -/
def withoutRecord (r : Reservation) (s : State) : State :=
  { s with
    book := bookWithout r s.book, asks := asksWithout r.id s.asks, bays := baysReleased s.cfg r s.bays
    boost := arbiterReleased r s.boost }

/-! ### The boost grant, as the rules put it -/

/-- Whether a position of the high ring requests: a bay of the HIGH set that is eligible, or, at 12, some bay of the LOW
set that is (R109). -/
def Requests (a : Arbiter) (p : Nat) : Prop :=
  (∃ b : BayNo, b.val = p ∧ b ∈ a.high ∧ a.eligible[b] = true) ∨
  (p = 12 ∧ ∃ b : BayNo, b ∈ a.low ∧ a.eligible[b] = true)

/-- How many positions a scan of a ring of `n` passes before it looks at position `p` (R108). -/
def scanned (n ptr p : Nat) : Nat := (p + n - (ptr + 1)) % n

/-- What the decision of R107 to R110 makes of the arbiter and whom it grants: the first position of the high ring found
requesting from the one after its pointer on, and, for the LOW member, the first such bay of the low ring. -/
def Decided (a a' : Arbiter) (winner : Option BayNo) : Prop :=
  ((∀ p < 13, ¬ Requests a p) → winner = none ∧ a' = a) ∧
  (∀ b : BayNo, Requests a b → (∀ q < 13, Requests a q → scanned 13 a.highPtr b ≤ scanned 13 a.highPtr q) →
    winner = some b ∧ a' = { a with highPtr := Fin.ofNat 13 b }) ∧
  (∀ b : BayNo, b ∈ a.low → a.eligible[b] = true →
    (∀ q < 13, Requests a q → scanned 13 a.highPtr 12 ≤ scanned 13 a.highPtr q) →
    (∀ c ∈ a.low, a.eligible[c] = true → scanned 12 a.lowPtr b ≤ scanned 12 a.lowPtr c) →
    winner = some b ∧ a' = { a with highPtr := 12, lowPtr := b })

/-- The record of a bay whose grant has ended: boost no, and its setpoint cut to its normal cap (R23, R102). -/
def cutBay (s : State) (h : BayNo) : Bay :=
  let x := s.bay h
  let cut := min x.setpoint (normalCap s.cfg (targetOf s.cfg s.book.records x) x)
  { x with boost := false, setpoint := if x.chargeable s.cfg = true then cut else 0 }

/-! ### The share, as the rules put it -/

/-- A setpoint scaled as the share falls (R100). -/
def scaled (old new p : Nat) : Nat := if p * new / old / 10 * 10 < 100 then 0 else p * new / old / 10 * 10

/-- Whether bay `c` gives up power before bay `b` (R101): a bay outside the last urgency order before one in it, among
those the higher number first, and in the order the later one first. -/
def GivesFirst (order : List BayNo) (c b : BayNo) : Prop :=
  (c ∉ order ∧ (b ∈ order ∨ b < c)) ∨ (c ∈ order ∧ b ∈ order ∧ order.idxOf b < order.idxOf c)

/-- The setpoints after a fall of the share (R100, R101): each at most its scaled value and nothing else of a bay changed;
their draws within the new share; a bay below its scaled value only where every bay that gives up power first is at 0;
and the last 10 W taken needed. -/
def ClampedTo (old new : Nat) (order : List BayNo) (u v : Vector Bay 12) : Prop :=
  (∀ b : BayNo, v[b] = { u[b] with setpoint := v[b].setpoint } ∧ v[b].setpoint ≤ scaled old new u[b].setpoint) ∧
  totalDraw v ≤ new ∧
  (∀ b : BayNo, v[b].setpoint < scaled old new u[b].setpoint →
    (∀ c : BayNo, GivesFirst order c b → v[c].setpoint = 0) ∧
    ((∀ c : BayNo, GivesFirst order b c → v[c].setpoint = scaled old new u[c].setpoint) →
      new < totalDraw
        (v.set b { v[b] with setpoint := if v[b].setpoint = 0 then 100 else v[b].setpoint + 10 } b.isLt)))

/-- The Feed Share Unit's figures have become `f` and the share follows them (R130 to R132): a rise requests a pass, a
fall clamps the setpoints and requests one, and an unchanged share does neither. -/
def ShareFollows (f : Feed) (s t : State) : Prop :=
  let new := f.shareNow s.cfg
  t.feed = { f with share := new } ∧
  (new = s.feed.share → t.bays = s.bays ∧ t.plan = s.plan) ∧
  (s.feed.share < new → t.bays = s.bays ∧ PassAsked s t) ∧
  (new < s.feed.share → ClampedTo s.feed.share new s.plan.lastOrder s.bays t.bays ∧ PassAsked s t)

/-! ### The line, as the rules put it -/

/-- The Line Controller with both counts set while not DETACHED: the line state and caution they give (R163, R165). -/
def counted (send recv : Nat) (l : LineController) : LineController :=
  { l with
    sendCount := send, recvCount := recv, gaps := none
    state := if 120 ≤ send ∨ 120 ≤ recv then .guarded else .full
    caution := decide (80 ≤ send ∨ 80 ≤ recv) }

/-- LINE_STATE when the line state changed and CAUTION when caution became yes (R163, R165). -/
def countNotices (l l' : LineController) : List Notice :=
  (if l'.state = l.state then [] else [.lineState l.state l'.state l'.sendCount l'.recvCount]) ++
  (if l'.caution = true ∧ l.caution = false then [.caution l'.sendCount l'.recvCount] else [])

/-- The Line Controller after an error has been logged (R165). -/
def logged (e : LineError) (l : LineController) : LineController :=
  { l with
    lastError := e, errorLog := min 255 (l.errorLog + 1)
    overflowReported := l.overflowReported || decide (l.errorLog = 255) }

/-- LOG_OVERFLOW, raised once when an error finds the log at 255 (R165). -/
def logNotices (l : LineController) : List Notice :=
  if l.errorLog = 255 ∧ l.overflowReported = false then [.logOverflow] else []

end Sys2Proof.Machine.Safety
end

