-- ==== Sys2Proof/Certificates/Slice0/Obligations.lean ====
section
/-! DEFINITION. The statements about the model, one Prop each: the block step and reset, what every step keeps, the
rules of the whole part, the arithmetic, and what each command does. -/

open Sys2Proof Sys2Proof.Machine Sys2Proof.Machine.Safety

/-! ### The step, reset and the idle millisecond -/

/-- The block's step: with a command at the front of the queue, a step is that command run on the state with the rest of
the queue. -/
def Obligations.StepTakesFrontCommand : Prop :=
  ∀ (c : Instr) (rest : List Instr) (s : State), s.pending = c :: rest → step s = exec c { s with pending := rest }

/-- The commands that a moment of the schedule clock makes due: every timer that stands at 0, every age at its bound,
every expiry instant reached, and every template instant and midnight passed. -/
def DueNow (s : State) : Instr → Prop
  | .linkLoss b => 3000 ≤ (s.bay b).reportAge ∧ ∀ c, (s.bay b).state ≠ .off c
  | .dataTimerExpiry b => (s.bay b).dataTimer = some 0 ∧ (s.bay b).state ∈ [.checking, .stock, .held, .ready]
  | .handoverTimerExpiry b => (s.bay b).state = .opened ∧ (s.bay b).handover.map (·.timer) = some 0
  | .doorAjarTimerExpiry b => (s.bay b).state = .ajar ∧ (s.bay b).handover.map (·.timer) = some 0
  | .bidWindowEnd i => s.asks.slots[i].map (·.state) = some (.bidding 0)
  | .discardTimerExpiry i =>
    ∃ x, s.asks.slots[i] = some x ∧
      (x.state = .lost 0 ∨ x.state = .none 0 ∨ ∃ id off k, x.state = .won id off k 0)
  | .recordExpiry id => ∃ r ∈ s.book.records, r.id = id ∧ r.expiry s.cfg ≤ s.clock.seconds ∧ r.atDoor = false
  | .periodTimerExpiry => s.plan.period = some 0
  | .passCompletion => ∃ p, s.plan.pass = some p ∧ 50 ≤ p.age
  | .sliceTimerExpiry => ∃ h, s.boost.converter = .granted h 0
  | .switchTimerExpiry => s.boost.converter = .switching 0
  | .meterLost => s.part = .run ∧ 10000 < s.feed.meterAge ∧ s.feed.meter ≠ .lost
  | .peerStale st => ∃ p ∈ s.feed.peers, p.station = st ∧ 6000 < p.age ∧ p.stale = false
  | .peerLost st => ∃ p ∈ s.feed.peers, p.station = st ∧ 30000 ≤ p.age
  | .claimTimerExpiry => s.feed.claimTimer = some 0
  | .templateContextTimeout st => s.ts.contexts[st].map (·.timer) = some 0
  | .templateInstant i => ∃ x, s.ts.slots[i] = some x ∧ x.passed ≠ none
  | .dayRoll => s.ts.rollDue = true
  | _ => False

/-- Whether the schedule clock has just counted to a second at which the time of day is `tod`, taken modulo a day
(R156). -/
def pointPassed (t : State) (tod : Int) : Bool :=
  t.clock.millis == 0 && t.ts.dayOffset.any fun o => ((t.clock.seconds : Int) + o - tod) % 86400 == 0

/-- The model's own idle step (log entries 2 and 3): with no command waiting and RESTART released, a step is one
millisecond of the schedule clock. Report ages and the timers of the bays go on, in RUN every other timer and age too,
nothing else changes but for the points of the day clock passed, and the commands then due wait in the queue. -/
def Obligations.IdleStepIsOneMillisecond : Prop :=
  ∀ s : State, s.pending = [] → s.pins.restart = false →
    ∃ t, step s = .next t ∧
      t = { s with
        clock := t.clock, bays := t.bays, asks := t.asks, plan := t.plan, boost := t.boost, feed := t.feed, ts := t.ts
        free := t.free, pending := t.pending, out := quietOut } ∧
      t.clock = (if s.clock.millis < 999 then ⟨s.clock.seconds, s.clock.millis + 1⟩
        else ⟨(s.clock.seconds + 1) % 4294967296, 0⟩) ∧
      (∀ b : BayNo, t.bay b =
        { s.bay b with
          reportAge := min 65535 ((s.bay b).reportAge + 1), dataTimer := (s.bay b).dataTimer.map (· - 1)
          handover := (s.bay b).handover.map fun h => { h with timer := h.timer - 1 } }) ∧
      (s.part = .unset → t.asks = s.asks ∧ t.plan = s.plan ∧ t.boost = s.boost ∧ t.feed = s.feed ∧ t.ts = s.ts) ∧
      (s.part = .run →
        (∀ i : SlotNo, t.asks.slots[i] = (s.asks.slots[i]).map fun x =>
          { x with
            state := match x.state with
              | .bidding m => .bidding (m - 1)
              | .won id off k m => .won id off k (m - 1)
              | .lost m => .lost (m - 1)
              | .none m => .none (m - 1) }) ∧
        t.asks.dropped = s.asks.dropped ∧
        t.plan = { s.plan with
          period := s.plan.period.map (· - 1), pass := s.plan.pass.map fun p => { p with age := p.age + 1 } } ∧
        t.boost = { s.boost with
          converter := match s.boost.converter with
            | .granted h m => .granted h (m - 1)
            | .switching m => .switching (m - 1)
            | c => c } ∧
        t.feed = { s.feed with
          meterAge := min 65535 (s.feed.meterAge + 1), claimTimer := s.feed.claimTimer.map (· - 1)
          peers := s.feed.peers.map fun p => { p with age := p.age + 1 } } ∧
        (∀ st : Station, t.ts.contexts[st] = (s.ts.contexts[st]).map fun c => { c with timer := c.timer - 1 }) ∧
        t.ts.dayOffset = s.ts.dayOffset ∧
        (∀ i : TemplateNo, t.ts.slots[i] = (s.ts.slots[i]).map fun x =>
          { x with
            passed := if pointPassed t ((x.todOpen : Int) - s.cfg.templateLead) = true then
              t.ts.dayOffset.map fun o => ((t.clock.seconds : Int) + o) / 86400 else x.passed }) ∧
        t.ts.rollDue = (s.ts.rollDue || pointPassed t 0)) ∧
      ∀ c : Instr, c ∈ t.pending ↔ DueNow t c

/-- R1, R37, R61, R82, R104, R119, R150, R163 to R169, R172, R179: the values after reset, and that they are sound. That the
part stands UNSET with an empty store is the model's choice (log entry 6). -/
def Obligations.ResetHoldsRestartValues : Prop :=
  Sound State.reset ∧ State.reset.part = .unset ∧ State.reset.clock = ⟨0, 0⟩ ∧ State.reset.assembly = none ∧
  (∀ b : BayNo, (State.reset.bay b).state = .off .link ∧ (State.reset.bay b).setpoint = 0 ∧
    (State.reset.bay b).boost = false ∧ (State.reset.bay b).locked = true ∧ (State.reset.bay b).door = .closed ∧
    (State.reset.bay b).pack = none ∧ (State.reset.bay b).reportAge = 0) ∧
  State.reset.book.records = [] ∧ State.reset.book.nextId = 1 ∧ State.reset.book.expired = [] ∧
  (∀ i : SlotNo, State.reset.asks.slots[i] = none) ∧ State.reset.asks.dropped = 0 ∧
  State.reset.plan.pass = none ∧ State.reset.plan.lastOrder = [] ∧
  State.reset.boost.converter = .idle ∧ State.reset.boost.high = [] ∧ State.reset.boost.low = [] ∧
  State.reset.feed.trim = 1000 ∧ State.reset.feed.share = 0 ∧ State.reset.feed.peers = [] ∧
  State.reset.ts.dayOffset = none ∧ (∀ i : TemplateNo, State.reset.ts.slots[i] = none) ∧
  State.reset.line.state = .full ∧ State.reset.line.sendCount = 0 ∧ State.reset.line.recvCount = 0 ∧
  State.reset.line.askQueue = [] ∧ State.reset.line.peerQueue = [] ∧ State.reset.line.outQueue = [] ∧
  State.reset.flags = 0 ∧ State.reset.pending = []

/-! ### What every step keeps -/

/-- R168, R172, R176: every step of a sound part keeps the blocks of an UNSET part, and of a part held in restart, at their
restart values. -/
def Obligations.UnsetKeepsRestartValues : Prop :=
  ∀ s t : State, Sound s → step s = .next t → StartSound t

/-- R1, R2, R3, R14, R21, R22: every step of a sound part keeps each bay record to the table of its state, its pack figures in
range, its setpoint 0 while the bay is not chargeable, and its lock as R22 gives. The model's own here: no lock is pending in
OPEN and AJAR (log entry 22), OPEN has no data timer (entry 23), and the retired flag of a pack taken to FAULT is the one its
health gives (entry 20). -/
def Obligations.BayRecordsStaySound : Prop :=
  ∀ s t : State, Sound s → step s = .next t → BaysSound t

/-- R37 to R41, R54: every step of a sound part keeps the book within 32 records in book order with distinct ids and tokens,
each commit count the number of records of its class and within its limit, and the expired-token list sound. -/
def Obligations.BookStaysSound : Prop :=
  ∀ s t : State, Sound s → step s = .next t → BookSound t

/-- R43: after every step of a sound part each record and the bay it names agree by the table of 3.3, and the reservation
field of every bay names a record of the book that names the bay. -/
def Obligations.RecordsAndBaysAgree : Prop :=
  ∀ s t : State, Sound s → step s = .next t → BindingsAgree t

/-- R61, R82, R84, R88, R150: every step of a sound part keeps at most one slot for an ask and every WON slot naming a record
of the book; leaves no request for a pass open, the again flag yes only in RUNNING, and the last urgency order naming no bay
twice; and keeps the templates within their ranges. -/
def Obligations.AsksPlannerAndTemplatesStaySound : Prop :=
  ∀ s t : State, Sound s → step s = .next t → SlotsSound t ∧ PlanSound t ∧ TemplatesSound t

/-- R98: after every step of a sound part the site-side draws of the twelve setpoints add up to no more than the share. -/
def Obligations.DrawStaysWithinShare : Prop :=
  ∀ s t : State, Sound s → step s = .next t → DrawWithinShare t

/-- R105: after every step of a sound part the boost field is yes for the holder of the converter alone, and the holder is
HELD or STOCK. -/
def Obligations.BoostFollowsHolder : Prop :=
  ∀ s t : State, Sound s → step s = .next t → BoostSound t

/-- R119, R122, R130 to R132: every step of a sound part keeps the share the one its figures give, at most the limit and,
while DETACHED, at most the isolated share. -/
def Obligations.FeedFiguresStaySound : Prop :=
  ∀ s t : State, Sound s → step s = .next t → FeedSound t

/-- R162 to R169: every step of a sound part keeps the counts in their ranges, the line state and caution as the counts give
them, and the queues within their sizes. -/
def Obligations.LineControllerStaysSound : Prop :=
  ∀ s t : State, Sound s → step s = .next t → LineSound t

/-! ### Rules of the whole part -/

/-- Whether a command brings a restart to a part: one of the two edges of the RESTART pin (R172), or, in UNSET, a SETUP
whose write of the store a restart cuts short (R174). -/
def isRestart (s : State) : Instr → Bool
  | .restart _ => true
  | .restartAsserted => true
  | .setup setting => setting.cut && s.part == .unset
  | _ => false

/-- R20: the bay orders of an event go to just those bays whose setpoint, boost or lock it changed and to the bay whose
valid report it answers, one order each, with the values after the event. That a value changed and changed back within one
event sends no order is the model's choice (log entry 13). -/
def Obligations.BayOrdersFollowCommandedValues : Prop :=
  ∀ (c : Instr) (s t : State), isRestart s c = false → exec c s = .next t →
    (t.out.orders.map (·.bay)).Nodup ∧
    (∀ o ∈ t.out.orders, o = ⟨o.bay, (t.bay o.bay).setpoint, (t.bay o.bay).boost, (t.bay o.bay).locked⟩) ∧
    ∀ b : BayNo, b ∈ t.out.orders.map (·.bay) ↔
      ((t.bay b).setpoint ≠ (s.bay b).setpoint ∨ (t.bay b).boost ≠ (s.bay b).boost ∨
        (t.bay b).locked ≠ (s.bay b).locked ∨
        (s.pins.restart = false ∧ ∃ r, c = .bayReport b r ∧ r.checkOk = true))

/-- R83, R84: in RUN an event that creates, removes or moves a record, changes a bay's state, moves the share or changes the
holder of the converter requests a plan pass. A completion, which ends a pass of its own, apart (see the statements about
it); a change of off cause alone is no change of state. -/
def Obligations.ChangesRequestPlanPass : Prop :=
  ∀ (c : Instr) (s t : State), Sound s → s.part = .run → s.pins.restart = false → isRestart s c = false →
    c ≠ .passCompletion → exec c s = .next t →
    (t.book.records.map (fun r => (r.id, r.state)) ≠ s.book.records.map (fun r => (r.id, r.state)) ∨
      (∃ b : BayNo, (t.bay b).state.code ≠ (s.bay b).state.code) ∨ t.feed.share ≠ s.feed.share ∨
      t.boost.converter.holder ≠ s.boost.converter.holder) →
    PassAsked s t

/-- R117, R161, R172, R174, R177, R179, R181: no command but a restart changes the setup, the store or a class mask of a part in
RUN, or takes it out of RUN or its converter out of FAULTED; only SEND_START puts a frame onto the line, never in DETACHED or
in UNSET; and no command but STATUS CLEAR and a restart clears a condition flag. -/
def Obligations.RunStandsUntilRestart : Prop :=
  ∀ (c : Instr) (s t : State), isRestart s c = false → exec c s = .next t →
    (s.part = .run →
      t.part = .run ∧ t.cfg = s.cfg ∧ t.store = s.store ∧ (∀ b : BayNo, (t.bay b).mask = (s.bay b).mask) ∧
      (s.boost.converter = .faulted → t.boost.converter = .faulted)) ∧
    (t.out.wire ≠ none → s.part = .run ∧ s.line.state ≠ .detached ∧ ∃ n, c = .sendStart n) ∧
    (c ≠ .statusClear → ∀ n < 34, s.flags.getLsbD n = true → t.flags.getLsbD n = true)

/-! ### Arithmetic of the blocks that keep no state of their own -/

/-- The five soc bands of R27: soc from, soc to (not including), taper. -/
def bandTable : List (Nat × Nat × Nat) :=
  [(0, 800, 1000), (800, 850, 800), (850, 900, 600), (900, 950, 400), (950, 1000, 200)]

/-- R25 to R30, R32, R35: the estimate is 0 exactly when the soc has reached the target, and 65,535 short of it where the
effective capacity or the temperature factor is 0. Within one band it is the seconds of one piece, across a band edge the sum
of the two sides, never above 65,535. It falls or stays as the soc rises, the target falls, the temperature factor rises or the
stage limit rises, and as the health falls while the effective capacity stays above 0. The cap is 0 for a bay that is not
chargeable or HELD with its pack at its target, and otherwise the band power rounded down to 10 W; it falls or stays as the soc
rises, follows the temperature factor and the stage limit, and changes with neither the health nor, short of it, the target. -/
def Obligations.EstimateFollowsItsInputs : Prop :=
  ∀ (soc soc' target target' k health health' : Nat) (temp temp' : Int) (cfg : Setup) (b : Bay) (p : Pack),
    soc ≤ soc' → soc' ≤ 1000 → target ≤ target' → target' ≤ 1000 → health' ≤ health → health ≤ 1000 →
    tempFactor temp ≤ tempFactor temp' → b.pack = some p →
    let whole := k * health / 1000
    let bayAt (soc health : Nat) (temp : Int) : Bay :=
      { b with pack := some { p with soc := soc, health := health, temperature := temp } }
    (∀ l ∈ [1200, 4000],
      estimate soc' target k health temp l ≤ estimate soc target k health temp l ∧
      estimate soc target k health temp l ≤ estimate soc target' k health temp l ∧
      (k * health' / 1000 ≠ 0 → estimate soc target k health' temp l ≤ estimate soc target k health temp l) ∧
      estimate soc target k health temp' l ≤ estimate soc target k health temp l ∧
      (estimate soc target k health temp l = 0 ↔ target ≤ soc) ∧
      (soc < target → whole = 0 ∨ tempFactor temp = 0 → estimate soc target k health temp l = 65535) ∧
      (∀ e ∈ [800, 850, 900, 950], soc < e → e < target →
        estimate soc target k health temp l =
          min 65535 (estimate soc e k health temp l + estimate e target k health temp l)) ∧
      (∀ x ∈ bandTable, x.1 ≤ soc → soc < target → target ≤ x.2.1 → whole ≠ 0 → tempFactor temp ≠ 0 →
        estimate soc target k health temp l =
          min 65535 (ceilDiv (ceilDiv ((target - soc) * whole) 1000 * 3600) (l * tempFactor temp * x.2.2 / 1000000))) ∧
      (b.chargeable cfg = false ∨ (b.state = .held ∧ target ≤ p.soc) → capAt cfg l target b = 0) ∧
      (∀ x ∈ bandTable, x.1 ≤ p.soc → p.soc < x.2.1 → b.chargeable cfg = true →
        ¬ (b.state = .held ∧ target ≤ p.soc) →
        capAt cfg l target b = l * tempFactor p.temperature * x.2.2 / 1000000 / 10 * 10) ∧
      capAt cfg l target (bayAt soc' health temp) ≤ capAt cfg l target (bayAt soc health temp) ∧
      capAt cfg l target (bayAt soc health temp) ≤ capAt cfg l target (bayAt soc health temp') ∧
      capAt cfg l target (bayAt soc health' temp) = capAt cfg l target (bayAt soc health temp) ∧
      (soc < target → capAt cfg l target' (bayAt soc health temp) = capAt cfg l target (bayAt soc health temp))) ∧
    estimate soc target k health temp 4000 ≤ estimate soc target k health temp 1200 ∧
    capAt cfg 1200 target b ≤ capAt cfg 4000 target b ∧
    tempFactor temp =
      (if temp < 0 ∨ 500 ≤ temp then 0 else if temp < 100 then 300 else if temp < 150 then 600
       else if temp < 400 then 1000 else if temp < 450 then 500 else 200)

/-- Whether bay `a` stands before bay `b` in the urgency order of a view (R88). -/
def MoreUrgent (cfg : Setup) (now : Nat) (v : View) (a b : BayNo) : Prop :=
  (v.isHeld a = true ∧ v.isHeld b = false) ∨
  (v.isHeld a = true ∧ v.isHeld b = true ∧
    (v.slackOf cfg now a < v.slackOf cfg now b ∨ (v.slackOf cfg now a = v.slackOf cfg now b ∧ a < b))) ∨
  (v.isHeld a = false ∧ v.isHeld b = false ∧
    (v.bays[b].soc < v.bays[a].soc ∨ (v.bays[a].soc = v.bays[b].soc ∧ a < b)))

/-- Whether a bay of a snapshot is a candidate for a record as a pass begins (R86). -/
def FreshCandidate (n : Snapshot) (r : Reservation) (b : BayNo) : Prop :=
  n.bays[b].state = .stock ∧ ∃ p, n.bays[b].pack = some p ∧ p.retired = false ∧ p.cls = r.cls

/-- Whether a bay of the working view is a candidate for a record (R86). -/
def CandidateIn (v : View) (r : Reservation) (b : BayNo) : Prop :=
  v.bays[b].state = .stock ∧ b ∉ v.chosen ∧ ∃ p, v.bays[b].pack = some p ∧ p.retired = false ∧ p.cls = r.cls

/-- Whether a bay is the one to choose among those that are fit: the smallest normal estimate to the record's target, and
among equal estimates the lower number (R86, R87). -/
def BestFor (cfg : Setup) (v : View) (r : Reservation) (fit : BayNo → Prop) (b : BayNo) : Prop :=
  fit b ∧ ∀ a, fit a →
    normalEstimate cfg r.target v.bays[b] < normalEstimate cfg r.target v.bays[a] ∨
    (normalEstimate cfg r.target v.bays[b] = normalEstimate cfg r.target v.bays[a] ∧ b ≤ a)

/-- The working view with a bay HELD for a record, the record BOUND to it (R85). -/
def heldFor (r : Reservation) (b : BayNo) (v : View) : View :=
  { v with
    bays := v.bays.set b { v.bays[b] with state := .held, reservation := some r.id } b.isLt
    records := v.records.map fun z => if z.id = r.id then { z with state := .bound b } else z }

/-- One record of the binding stage, from working view `v` to `w` (R86). -/
def BindStep (cfg : Setup) (r : Reservation) (v w : View) : Prop :=
  ((r.state ≠ .pending ∨ ∀ b, ¬ CandidateIn v r b) → w = v) ∧
  ∀ b, r.state = .pending → BestFor cfg v r (CandidateIn v r) b →
    w = { heldFor r b v with chosen := b :: v.chosen, moves := v.moves ++ [.bind r.id b] }

/-- Whether a record BOUND in the snapshot to a HELD bay has a normal slack below 0 there (R87, R34). -/
def BehindAt (cfg : Setup) (n : Snapshot) (r : Reservation) (old : BayNo) : Prop :=
  r.state = .bound old ∧ n.bays[old].state = .held ∧
  (r.windowOpen : Int) - n.now - normalEstimate cfg r.target n.bays[old] < 0

/-- Whether a candidate could be ready in time at the normal stage limit (R87). -/
def InTime (cfg : Setup) (n : Snapshot) (v : View) (r : Reservation) (b : BayNo) : Prop :=
  CandidateIn v r b ∧ (normalEstimate cfg r.target v.bays[b] : Int) ≤ (r.windowOpen : Int) - n.now

/-- One record of the rebinding stage, from working view `v` to `w` (R87). -/
def RebindStep (cfg : Setup) (n : Snapshot) (r : Reservation) (v w : View) : Prop :=
  (((∀ old, ¬ BehindAt cfg n r old) ∨ ∀ b, ¬ InTime cfg n v r b) → w = v) ∧
  ∀ old b, BehindAt cfg n r old → BestFor cfg v r (InTime cfg n v r) b →
    w =
      { heldFor r b
          { v with bays := v.bays.set old { v.bays[old] with state := .stock, reservation := none } old.isLt } with
        chosen := b :: old :: v.chosen, moves := v.moves ++ [.rebind r.id old b] }

/-- One stage of a pass taken through the records one after another. -/
def Through (stage : Reservation → View → View → Prop) : List Reservation → View → View → Prop
  | [], v, w => w = v
  | r :: rs, v, w => ∃ u, stage r v u ∧ Through stage rs u w

/-- Whether a class has a charged pack waiting in the working view (R92). -/
def PackWaiting (cfg : Setup) (v : View) (c : PackClass) : Prop :=
  ∃ (d : BayNo) (p : Pack), v.bays[d].pack = some p ∧ p.cls = c ∧
    ((v.bays[d].state = .stock ∧ p.retired = false ∧ cfg.stockTarget ≤ p.soc) ∨ v.bays[d].state = .ready)

/-- R86 to R92, R94, R95: what a pass works out from any snapshot. It goes through the PENDING records and then the BOUND ones
in book order, each bound or moved to the fit candidate of smallest estimate and lowest number. The urgency order holds just
the HELD and chargeable STOCK bays, in its order; each bay of it takes the smaller of its cap and what is left of the share, 0
below 100 W, and the draws add up to no more than the share. HIGH holds the HELD bays behind at normal power that can charge,
LOW the chargeable STOCK bays of a class with no charged pack waiting. A late flag is written for each record BOUND to a HELD
bay, in book order (the model's choice, log entry 48), and the own figures are the draws of the caps. -/
def Obligations.PlanKeepsUrgencyAndShare : Prop :=
  ∀ (cfg : Setup) (n : Snapshot),
    let v := n.finalView cfg
    let p := n.plan cfg
    (∀ (pre post : List Reservation) (r : Reservation) (b : BayNo), n.records = pre ++ r :: post →
      (∀ z ∈ pre, z.state ≠ .pending) → r.state = .pending → FreshCandidate n r b →
      (∀ a, FreshCandidate n r a → normalEstimate cfg r.target n.bays[b] < normalEstimate cfg r.target n.bays[a] ∨
        (normalEstimate cfg r.target n.bays[b] = normalEstimate cfg r.target n.bays[a] ∧ b ≤ a)) →
      p.moves.head? = some (.bind r.id b)) ∧
    (∃ u : View, Through (BindStep cfg) n.records ⟨n.bays, n.records, [], []⟩ u ∧
      Through (RebindStep cfg n) n.records u v ∧ p.moves = v.moves) ∧
    (∀ b : BayNo, b ∈ p.order ↔ (v.isHeld b = true ∨ v.isStock cfg b = true)) ∧
    p.order.Pairwise (MoreUrgent cfg n.now v) ∧
    p.allocation.map (·.1) = p.order ∧
    (∀ x ∈ p.allocation, x.2 % 10 = 0 ∧ (x.2 = 0 ∨ 100 ≤ x.2) ∧ x.2 ≤ v.cap cfg x.1) ∧
    (∀ (pre post : List (BayNo × Nat)) (x : BayNo × Nat), p.allocation = pre ++ x :: post →
      let left := n.share / 10 * 10 - (pre.map fun y => siteDraw y.2).sum
      let most := min (v.cap cfg x.1) (left * 940 / 1000 / 10 * 10)
      x.2 = if most < 100 then 0 else most) ∧
    (p.allocation.map fun x => siteDraw x.2).sum ≤ n.share ∧
    (∀ b : BayNo, b ∈ p.high ↔
      v.isHeld b = true ∧ (∃ pack, v.bays[b].pack = some pack ∧ tempFactor pack.temperature ≠ 0) ∧
      ∃ r, v.recordOf b = some r ∧ (r.windowOpen : Int) - n.now - normalEstimate cfg r.target v.bays[b] < 0) ∧
    (∀ b : BayNo, b ∈ p.low ↔
      v.isStock cfg b = true ∧ ∃ pack, v.bays[b].pack = some pack ∧ ¬ PackWaiting cfg v pack.cls) ∧
    (∀ b ∈ p.high, b ∉ p.low) ∧
    (∀ f ∈ p.lates, ∃ r ∈ v.records, r.id = f.id ∧ r.state = .bound f.bay ∧ v.isHeld f.bay = true ∧
      f.late = decide ((r.windowOpen : Int) - n.now - normalEstimate cfg r.target v.bays[f.bay] < 0)) ∧
    (∀ r ∈ v.records, ∀ b, r.state = .bound b → v.isHeld b = true → ∃ f ∈ p.lates, f.id = r.id ∧ f.bay = b) ∧
    (p.lates.map (·.id)).Sublist (n.records.map (·.id)) ∧
    p.demand = (p.order.map fun b => siteDraw (v.cap cfg b)).sum ∧
    p.priority = ((p.order.filter v.isHeld).map fun b => siteDraw (v.cap cfg b)).sum ∧ p.priority ≤ p.demand

/-- R130, R131: the shares of cabinets that hold the same limit and know one another's claims add up to no more than the
limit, whatever their claims and trims. -/
def Obligations.SharesOfOneKioskFitItsLimit : Prop :=
  ∀ (limit : Nat) (l : List (Setup × Feed)),
    (∀ x ∈ l, x.2.limit = limit ∧ x.2.trim ≤ 1000 ∧ x.2.ownPriority ≤ x.2.ownDemand ∧
      x.2.ownDemand + (x.2.peers.map (·.demand)).sum = (l.map (·.2.ownDemand)).sum ∧
      x.2.ownPriority + (x.2.peers.map (·.priority)).sum = (l.map (·.2.ownPriority)).sum) →
    (l.map fun x => x.2.shareNow x.1).sum ≤ limit

/-! ### Restart, pins and setup (R172 to R177) -/

/-- The bays as the part enters RUN from restart values, each with the class mask the record gives it (R1, R23). -/
def freshBays (record : List Byte) : Vector Bay 12 :=
  Vector.ofFn fun i =>
    { Bay.restart with
      mask := loadMask record i, state := if loadMask record i = 0 then .off .unused else .off .link }

/-- R172: while RESTART is held asserted every block is at its restart values, the nonvolatile store standing. As it is
released with ERASE asserted, or with a store that is not valid, whose check does not match or whose write a restart cut short
(R174), the store is emptied and the part stays UNSET at those values.
With ERASE released a valid store is loaded and the part enters RUN (R176): bays with an empty mask are UNUSED and the others
OFF with cause LINK (R23), the period timer runs and a pass has started (R82), and the Feed Share Unit waits for the meter
within the meter-lost limit, its claim timer at 2000 ms and its share 0 (R120). That a restart puts out no bay order (log entry
13) and that one into RUN raises no SETUP_LOADED (log entry 31) is the model's choice. -/
def Obligations.RestartFollowsTheStore : Prop :=
  ∀ s : State,
    exec .restartAsserted s = .next
      { State.reset with
        store := s.store, pins := { s.pins with restart := true }, free := s.free, pending := s.pending } ∧
    (∀ erase : Bool, erase = true ∨ s.store.ended = false ∨ checkOf s.store.record ≠ s.store.check →
      exec (.restart erase) s = .next
        { State.reset with
          store := ⟨List.replicate 42 0, 0, true⟩, pins := { s.pins with restart := false, erase := erase }
          free := s.free, pending := s.pending }) ∧
    (s.store.ended = true → checkOf s.store.record = s.store.check →
      exec (.restart false) s = .next
        { State.reset with
          store := s.store, pins := { s.pins with restart := false, erase := false }, free := s.free, pending := s.pending
          part := .run, cfg := loadSetup s.store.record, bays := freshBays s.store.record
          feed := { Feed.restart with limit := (loadSetup s.store.record).meterLostLimit, claimTimer := some 2000 }
          plan := ⟨some ⟨⟨0, freshBays s.store.record, [], 0⟩, 0⟩, false, some 10000, [], false⟩ })

/-- R173, R174: whatever 42 bytes are loaded, each item lies in its range: a two-byte item with a default held as 65,535
loads the default, a value inside its range loads as it is and any other as the nearer end; the discard choice loads 20 s or
120 s, and the class masks and the disable mask as held. Each item stands at the place its piece gives it. -/
def Obligations.LoadedValuesLieInTheirRanges : Prop :=
  ∀ r : List Byte,
    let c := loadSetup r
    (∀ k : PackClass, 500 ≤ c.capacity[k] ∧ c.capacity[k] ≤ 8000 ∧ c.commitLimit[k] ≤ 32) ∧
    c.reserveMargin ≤ 250000 ∧ c.meterLostLimit ≤ 250000 ∧ c.isolatedShare ≤ 250000 ∧
    (c.discardTime = if field r 15 1 = 0 then 20 else 120) ∧
    (∀ x ∈ [(c.retireThreshold, 29, 500, 900, 700), (c.stockTarget, 31, 500, 1000, 900), (c.handoverTime, 33, 60, 300, 120),
        (c.expiryGrace, 35, 0, 900, 300), (c.boostSlice, 37, 120, 900, 300), (c.templateLead, 39, 300, 7200, 1800)],
      x.2.2.1 ≤ x.1 ∧ x.1 ≤ x.2.2.2.1 ∧ (field r x.2.1 2 = 65535 → x.1 = x.2.2.2.2) ∧
      (x.2.2.1 ≤ field r x.2.1 2 → field r x.2.1 2 ≤ x.2.2.2.1 → x.1 = field r x.2.1 2) ∧
      (field r x.2.1 2 < x.2.2.1 → x.1 = x.2.2.1) ∧
      (x.2.2.2.1 < field r x.2.1 2 → field r x.2.1 2 ≠ 65535 → x.1 = x.2.2.2.1)) ∧
    (∀ x ∈ [(c.station.val, field r 0 1, 0, 15), (c.capacity[0], field r 7 2, 500, 8000),
        (c.capacity[1], field r 9 2, 500, 8000), (c.capacity[2], field r 11 2, 500, 8000),
        (c.capacity[3], field r 13 2, 500, 8000), (c.commitLimit[0], field r 16 1, 0, 32),
        (c.commitLimit[1], field r 17 1, 0, 32), (c.commitLimit[2], field r 18 1, 0, 32),
        (c.commitLimit[3], field r 19 1, 0, 32), (c.reserveMargin, field r 20 3, 0, 250000),
        (c.meterLostLimit, field r 23 3, 0, 250000), (c.isolatedShare, field r 26 3, 0, 250000)],
      (x.2.2.1 ≤ x.2.1 → x.2.1 ≤ x.2.2.2 → x.1 = x.2.1) ∧ (x.2.1 < x.2.2.1 → x.1 = x.2.2.1) ∧
      (x.2.2.2 < x.2.1 → x.1 = x.2.2.2)) ∧
    c.disableMask = r.getD 41 0 ∧
    ∀ (b : BayNo) (k : PackClass),
      (loadMask r b).getLsbD k = (r.getD (1 + b.val / 2) 0).getLsbD (if b.val % 2 = 0 then 4 + k.val else k.val)

/-- R177: in RUN a SETUP frame is discarded, whatever SELECT holds, and SETUP_IGNORED is raised with the piece number. That
the level of SELECT comes with the frame, and that an assembly left over is discarded if it finds SELECT fallen (R175), is the
model's choice (log entry 5). -/
def Obligations.SetupInRunIsIgnored : Prop :=
  ∀ (select cut : Bool) (src : Station) (piece : Nat) (content : List Byte) (rest : List AskFrame) (s : State),
    Running s → s.line.askQueue = ⟨src, .setup piece content⟩ :: rest →
    ∃ t, exec (.setup ⟨select, cut⟩) s = .next t ∧
      t = { s with
        flags := t.flags, line := t.line, out := quietOut, pins := { s.pins with select := select }
        assembly := if s.pins.select = true ∧ select = false then none else s.assembly } ∧
      Raised [.setupIgnored piece] (popAsk s) t

/-- The assembly after a SETUP frame taken in UNSET under SELECT, piece 4 apart (R175, with log entry 30 for a piece 0 of
the wrong length). -/
def assemblyAfter (piece : Nat) (content : List Byte) (a : Option Assembly) : Option Assembly :=
  if piece = 0 then (if content.length = 7 then some ⟨1, content⟩ else none)
  else if piece ∈ [1, 2, 3] ∧ a.map (·.next) = some piece ∧ content.length = 8 + piece then
    a.map fun x => ⟨piece + 1, x.bytes ++ content⟩
  else none

/-- R175, R176: when SELECT goes from asserted to released the assembly is discarded, and nothing else changes. A SETUP frame
taken in UNSET is discarded while SELECT is released; under SELECT the piece expected is kept, piece 0 starts afresh, and any
other piece, or a piece 4 whose check does not match, discards the assembly. The model's own here: a frame that finds SELECT
fallen discards the assembly too (log entry 5), a piece 0 of the wrong length is like any piece of the wrong length (entry 30),
and a release of SELECT while RESTART is held changes the pin alone (entry 43). -/
def Obligations.SetupPiecesAreAssembled : Prop :=
  ∀ s : State,
    (Waiting s ∨ Running s →
      exec .selectRelease s = .next
        { s with
          pins := { s.pins with select := false }, out := quietOut
          assembly := if s.pins.select = true then none else s.assembly }) ∧
    (s.pins.restart = true →
      exec .selectRelease s = .next { s with pins := { s.pins with select := false }, out := quietOut }) ∧
    ∀ (select cut : Bool) (src : Station) (piece : Nat) (content : List Byte) (rest : List AskFrame),
      Waiting s → s.line.askQueue = ⟨src, .setup piece content⟩ :: rest →
      (select = true → piece = 4 → ∀ a, s.assembly = some a → a.next = 4 → content.length = 7 →
        checkOf ((a.bytes ++ content).take 42) ≠ BitVec.ofNat 16 (field (a.bytes ++ content) 42 2)) →
      exec (.setup ⟨select, cut⟩) s = .next
        { popAsk s with
          pins := { s.pins with select := select }, out := quietOut
          assembly :=
            if select = true then assemblyAfter piece content s.assembly
            else if s.pins.select = true then none else s.assembly }

/-- R174, R176: piece 4 taken as expected with a matching check writes the store, loads it and brings the part into RUN, all
in one event; SETUP_LOADED is raised with the loaded station. What the part keeps up to date while UNSET stays. Where a restart
cuts the write short, the part stands at its restart values with RESTART asserted (R172), and its store is not valid (R174);
that such a restart comes with the command that writes is the model's choice (log entry 8). -/
def Obligations.SetupCompletesIntoRun : Prop :=
  ∀ (src : Station) (bytes content : List Byte) (rest : List AskFrame) (s : State),
    Waiting s → UnsetHeld s → s.line.askQueue = ⟨src, .setup 4 content⟩ :: rest → s.assembly = some ⟨4, bytes⟩ →
    content.length = 7 →
    let record := (bytes ++ content).take 42
    let check := BitVec.ofNat 16 (field (bytes ++ content) 42 2)
    let bays : Vector Bay 12 := Vector.ofFn fun i =>
      { s.bays[i] with
        mask := loadMask record i, state := if loadMask record i = 0 then .off .unused else .off .link }
    let loaded : State :=
      { popAsk s with
        pins := { s.pins with select := true }, part := .run, store := ⟨record, check, true⟩, assembly := none
        cfg := loadSetup record, bays := bays
        feed := { Feed.restart with
          limit := (loadSetup record).meterLostLimit, claimTimer := some 2000
          detached := decide (s.line.state = .detached) }
        plan := ⟨some ⟨⟨s.clock.seconds, bays, [], 0⟩, 0⟩, false, some 10000, [], false⟩, out := quietOut }
    checkOf record = check →
    (∃ t, exec (.setup ⟨true, false⟩) s = .next t ∧ t = { loaded with flags := t.flags, line := t.line } ∧
      Raised [.setupLoaded (loadSetup record).station] loaded t) ∧
    ∃ t, exec (.setup ⟨true, true⟩) s = .next t ∧ t.store.ended = false ∧
      t = { State.reset with
        store := t.store, pins := { s.pins with restart := true, select := true }, free := t.free, pending := s.pending }

/-! ### Bay reports (R4, R6 to R14, R20, R22) -/

/-- R4, R6, R23: a report whose check fails changes nothing and is not answered; a valid report in UNSET, and one to a bay
OFF with cause SERVICE or UNUSED, updates the age and the door alone, with the door checks of R22, and is answered.
That a DOOR_FORCED discarded in UNSET counts as no lost notice is log entry 52, and that a door already OPEN as its lock was
forced LOCKED raises none log entry 53. -/
def Obligations.ReportThatMovesNoBay : Prop :=
  ∀ (b : BayNo) (r : Report) (s : State),
    (Running s ∨ Waiting s → r.checkOk = false → exec (.bayReport b r) s = .next { s with out := quietOut }) ∧
    (Waiting s ∨
        (Running s ∧ r.boostFault = false ∧ ((s.bay b).state = .off .service ∨ (s.bay b).state = .off .unused)) →
      r.checkOk = true →
      ∃ t, exec (.bayReport b r) s = .next t ∧
        t = { s with
          bays := s.bays.set b (reported r (s.bay b)) b.isLt, flags := t.flags, line := t.line, out := t.out } ∧
        Raised (forcedNotices b r (s.bay b)) s t ∧
        Replied b t)

/-- R6, R8, R9: a valid report to an EMPTY or CHECKING bay, or to one OFF with cause LINK, whose link it returns with
LINK_BACK, takes the bay to the state of the first case of R9 that applies, with the pack record, data timer, notices
and pass request of that case. The order of the notices is log entry 27, and the retired flag of a pack taken straight to FAULT
log entry 20; a door already OPEN as its lock was forced LOCKED raises no DOOR_FORCED by log entry 53. -/
def Obligations.ReportTakesPackIn : Prop :=
  ∀ (b : BayNo) (r : Report) (s : State),
    Running s → BoostSound s → SetpointSound s.cfg (s.bay b) → PackPresence (s.bay b) → r.checkOk = true →
    r.boostFault = false → (s.bay b).state ∈ [.empty, .checking, .off .link] →
    let q := limitReport r
    let x := reported q (s.bay b)
    let new := checkedState x.mask q
    let pack := checkedPack s.cfg new q
    ∃ t, exec (.bayReport b r) s = .next t ∧
      t = { s with bays := t.bays, plan := t.plan, boost := t.boost, flags := t.flags, line := t.line, out := t.out } ∧
      Replied b t ∧
      (new = (s.bay b).state →
        t.bays = s.bays.set b x b.isLt ∧ t.plan = s.plan ∧ t.boost = s.boost ∧
        Raised (forcedNotices b q (s.bay b)) s t) ∧
      (new ≠ (s.bay b).state →
        t.bays = s.bays.set b (movedTo new pack x) b.isLt ∧
        t.boost = { s.boost with eligible := s.boost.eligible.set b new.eligible b.isLt } ∧ PassAsked s t ∧
        Raised (forcedNotices b q (s.bay b) ++ (if (s.bay b).state = .off .link then [.linkBack b] else []) ++
          faultNotices b new pack) s t)

/-- R10 cases 1 to 5, R11, R12, R17: a valid report that takes a STOCK, HELD or READY bay away from its pack: the state
of the first case that applies, BAY_FAULT, PACK_MISSING and DOOR_FORCED as R11 and R12 give, the reservation unbound to
PENDING, and the grant ended if the bay held the converter. The model's own here: the figures are copied, and PACK_RETIRED
raised, by the report that faults the bay too (log entry 19), the order of the notices (entry 27), the retired flag of a new pack
taken straight to FAULT (entry 20), and no DOOR_FORCED for a door already OPEN as its lock was forced LOCKED (entry 53). -/
def Obligations.ReportTakesPackAway : Prop :=
  ∀ (b : BayNo) (r : Report) (p : Pack) (new : BayState) (s : State),
    Running s → BoostSound s → BindingsAgree s → (s.book.records.map (·.id)).Nodup → BayFields (s.bay b) →
    r.checkOk = true → r.boostFault = false → (s.bay b).state ∈ [.stock, .held, .ready] → (s.bay b).pack = some p →
    let q := limitReport r
    let x := reported q (s.bay b)
    takenAway x.mask q p = some new →
    let same := q.present = true ∧ q.serial ≠ 0 ∧ q.serial = p.serial
    let kept : Pack := if same then copied s.cfg q p else p
    let pack : Option Pack :=
      if q.stageFault = true then some kept else if same then some kept else checkedPack s.cfg new q
    let gone := q.stageFault = false ∧ ¬ same
    ∃ t, exec (.bayReport b r) s = .next t ∧
      t = { s with
        bays := t.bays, book := t.book, plan := t.plan, boost := t.boost, flags := t.flags, line := t.line
        out := t.out } ∧
      t.bays = s.bays.set b (movedTo new pack x) b.isLt ∧
      t.book = { s.book with records := unboundIn (s.bay b).reservation s.book.records } ∧
      t.boost = arbiterLeft b new s.boost ∧ PassAsked s t ∧ Replied b t ∧
      Raised (forcedNotices b q (s.bay b) ++ (if same then retiredNotices s.cfg b q p else []) ++
        (if gone then missingNotices b x p else []) ++ faultNotices b new pack) s t

/-- R10 cases 6 and 7, R2, R3, R21: a valid report that leaves a STOCK bay its pack: with no pack data a data timer is
started if none runs; with the serial of the record the figures are copied, the retired flag worked out again, the data
timer stopped, and the setpoint forced to 0 if the bay is no longer chargeable; a pass is requested when the retired flag
or the chargeability changes. A door already OPEN as its lock was forced LOCKED raises no DOOR_FORCED by log entry 53. -/
def Obligations.ReportKeepsStockPack : Prop :=
  ∀ (b : BayNo) (r : Report) (p : Pack) (s : State),
    Running s → r.checkOk = true → r.boostFault = false → (s.bay b).state = .stock → (s.bay b).pack = some p →
    let q := limitReport r
    let x := reported q (s.bay b)
    takenAway x.mask q p = none →
    let y : Bay :=
      if q.serial = 0 then { x with dataTimer := some (x.dataTimer.getD 10000) }
      else { x with
        pack := some (copied s.cfg q p), dataTimer := none
        setpoint := if q.health < s.cfg.retireThreshold ∨ s.cfg.stockTarget ≤ q.soc then 0 else x.setpoint }
    ∃ t, exec (.bayReport b r) s = .next t ∧
      t = { s with
        bays := s.bays.set b y b.isLt, plan := t.plan, flags := t.flags, line := t.line, out := t.out } ∧
      Replied b t ∧
      (if q.serial ≠ 0 ∧
          ((copied s.cfg q p).retired ≠ p.retired ∨ y.chargeable s.cfg ≠ (s.bay b).chargeable s.cfg) then PassAsked s t
       else t.plan = s.plan) ∧
      Raised (forcedNotices b q (s.bay b) ++ (if q.serial = 0 then [] else retiredNotices s.cfg b q p)) s t

/-- R10 cases 6 and 7, R47, R48: a valid report that leaves a HELD or READY bay its pack: with the serial of the record
the figures are copied and the soc is passed on: a BOUND record whose target is reached becomes READY with its bay, a READY
record whose target less 30 is above the soc becomes BOUND with its bay, and either way late is no. A door
already OPEN as its lock was forced LOCKED raises no DOOR_FORCED by log entry 53. -/
def Obligations.ReportCrossesTarget : Prop :=
  ∀ (b : BayNo) (r : Report) (p : Pack) (rec : Reservation) (s : State),
    Running s → BoostSound s → BayFields (s.bay b) → SetpointSound s.cfg (s.bay b) →
    (s.book.records.map (·.id)).Nodup →
    r.checkOk = true → r.boostFault = false → (s.bay b).pack = some p → rec ∈ s.book.records →
    (s.bay b).reservation = some rec.id →
    ((s.bay b).state = .held ∧ rec.state = .bound b ∨ (s.bay b).state = .ready ∧ rec.state = .ready b) →
    let q := limitReport r
    let x := reported q (s.bay b)
    takenAway x.mask q p = none →
    let y : Bay :=
      if q.serial = 0 then { x with dataTimer := some (x.dataTimer.getD 10000) }
      else { x with pack := some (copied s.cfg q p), dataTimer := none }
    let up := q.serial ≠ 0 ∧ (s.bay b).state = .held ∧ rec.target ≤ q.soc
    let down := q.serial ≠ 0 ∧ (s.bay b).state = .ready ∧ q.soc + 30 < rec.target
    let recordAfter (st : RecordState) : List Reservation :=
      s.book.records.map fun z => if z.id = rec.id then { z with state := st, late := false } else z
    ∃ t, exec (.bayReport b r) s = .next t ∧
      t = { s with
        bays := t.bays, book := t.book, plan := t.plan, boost := t.boost, flags := t.flags, line := t.line
        out := t.out } ∧
      Replied b t ∧
      Raised (forcedNotices b q (s.bay b) ++ (if q.serial = 0 then [] else retiredNotices s.cfg b q p)) s t ∧
      (up → t.bays = s.bays.set b { y with state := .ready, setpoint := 0, boost := false } b.isLt ∧
        t.book = { s.book with records := recordAfter (.ready b) } ∧ t.boost = arbiterLeft b .ready s.boost ∧
        PassAsked s t) ∧
      (down → t.bays = s.bays.set b { y with state := .held } b.isLt ∧
        t.book = { s.book with records := recordAfter (.bound b) } ∧
        t.boost = { s.boost with eligible := s.boost.eligible.set b true b.isLt } ∧ PassAsked s t) ∧
      (¬ up → ¬ down → t.bays = s.bays.set b y b.isLt ∧ t.book = s.book ∧ t.boost = s.boost ∧
        (if q.serial ≠ 0 ∧ (copied s.cfg q p).retired ≠ p.retired then PassAsked s t else t.plan = s.plan))

/-- The state a report takes a bay in FAULT to, none when the fault stays (R13). -/
def faultEnds (kind : FaultKind) (pack : Option Pack) (mask : BitVec 4) (r : Report) : Option BayState :=
  if kind = .stageFault then (if r.stageFault = true then none else some (checkedState mask r))
  else if r.present = false then (if r.stageFault = true then some (.fault .stageFault) else some .empty)
  else if r.serial ≠ 0 ∧ ∃ p, pack = some p ∧ r.serial ≠ p.serial then some (checkedState mask r)
  else none

/-- R13: a valid report to a bay in FAULT ends the fault as the rule of its kind gives, or leaves it in place: a STAGE_FAULT
then drops its pack record when the pack is shown absent, and another kind copies the figures of its own pack. BAY_FAULT of a
bay that goes from a pack kind to STAGE_FAULT is log entry 21, the retired flag of a pack taken straight on into FAULT log entry
20, and that a door already OPEN as its lock was forced LOCKED raises no DOOR_FORCED log entry 53. -/
def Obligations.ReportInFault : Prop :=
  ∀ (b : BayNo) (r : Report) (kind : FaultKind) (s : State),
    Running s → BoostSound s → BayFields (s.bay b) → SetpointSound s.cfg (s.bay b) → r.checkOk = true →
    r.boostFault = false → (s.bay b).state = .fault kind →
    let q := limitReport r
    let x := reported q (s.bay b)
    ∃ t, exec (.bayReport b r) s = .next t ∧
      t = { s with bays := t.bays, plan := t.plan, boost := t.boost, flags := t.flags, line := t.line, out := t.out } ∧
      Replied b t ∧
      (∀ new, faultEnds kind x.pack x.mask q = some new →
        let pack := checkedPack s.cfg new q
        t.bays = s.bays.set b (movedTo new pack x) b.isLt ∧
        t.boost = { s.boost with eligible := s.boost.eligible.set b new.eligible b.isLt } ∧ PassAsked s t ∧
        Raised (forcedNotices b q (s.bay b) ++ faultNotices b new pack) s t) ∧
      (faultEnds kind x.pack x.mask q = none → kind = .stageFault →
        t.bays = s.bays.set b (if q.present = true then x else { x with pack := none }) b.isLt ∧
        t.boost = s.boost ∧ t.plan = s.plan ∧ Raised (forcedNotices b q (s.bay b)) s t) ∧
      (faultEnds kind x.pack x.mask q = none → kind ≠ .stageFault →
        t.boost = s.boost ∧
        (∀ p, x.pack = some p → sameAs q p →
          t.bays = s.bays.set b { x with pack := some (copied s.cfg q p) } b.isLt ∧
          (if (copied s.cfg q p).retired ≠ p.retired then PassAsked s t else t.plan = s.plan) ∧
          Raised (forcedNotices b q (s.bay b) ++ retiredNotices s.cfg b q p) s t) ∧
        ((∀ p, x.pack = some p → ¬ sameAs q p) →
          t.bays = s.bays.set b x b.isLt ∧ t.plan = s.plan ∧ Raised (forcedNotices b q (s.bay b)) s t))

/-- R4, R117: a report with boost fault yes is taken at the arbiter first, and then as the same report without it, the two
being one event. -/
def Obligations.ReportWithBoostFault : Prop :=
  ∀ (b : BayNo) (r : Report) (s : State),
    Running s → r.checkOk = true → r.boostFault = true →
    ∃ t, exec (.bayReport b r) s = .next t ∧
      ∃ u, exec (.bayReport b { r with boostFault := false }) (afterBoostFault b s) = .next u ∧
        t = { u with out := t.out }

/-! ### The door (R14, R135 to R147) -/

/-- R14, R140: a valid report to an OPEN bay that does not complete the swap: the figures of the original pack are copied,
the pending fault joined, and the removal of the original pack noted once, with its serial as the out-serial and its record
dropped; the bay stays OPEN. -/
def Obligations.ReportInOpenNotesRemoval : Prop :=
  ∀ (b : BayNo) (r : Report) (h : Handover) (s : State),
    Running s → BayFields (s.bay b) → SetpointSound s.cfg (s.bay b) → LockSound (s.bay b) →
    r.checkOk = true → r.boostFault = false → (s.bay b).state = .opened → (s.bay b).handover = some h →
    let q := limitReport r
    let x := reported q (s.bay b)
    let h' : Handover :=
      if removesPack q x h then { h with packRemoved := true, outSerial := some ((x.pack.map (·.serial)).getD 0) } else h
    ¬ ((s.bay b).door = .opened ∧ q.door = .closed ∧ q.present = true ∧ h'.packRemoved = true) →
    let y : Bay :=
      { x with
        pendingFault := pendingAfter x q, handover := some h'
        pack := if removesPack q x h then none else packAtDoor s.cfg q x }
    ∃ t, exec (.bayReport b r) s = .next t ∧
      t = { s with
        bays := s.bays.set b y b.isLt, plan := t.plan, flags := t.flags, line := t.line, out := t.out } ∧
      Replied b t ∧ Raised (retiredAtDoor s.cfg b q x) s t ∧
      (if (packAtDoor s.cfg q x).map (·.retired) ≠ x.pack.map (·.retired) then PassAsked s t else t.plan = s.plan)

/-- R141: a valid report to an OPEN bay that takes the door from OPEN to CLOSED with a pack present and the original one
removed completes the swap: the bay is locked and enters FAULT with a pending stage fault, and otherwise CHECKING, whose
rule then takes the same report; the record is removed as DONE, and SWAP_DONE is raised with the two serials. That the report
which itself shows the original pack gone completes the swap is log entry 24, and the retired flag of a pack taken straight to
FAULT log entry 20. -/
def Obligations.ReportCompletesSwap : Prop :=
  ∀ (b : BayNo) (r : Report) (h : Handover) (rec : Reservation) (p : Prior) (s : State),
    Running s → BoostSound s → BayFields (s.bay b) → SetpointSound s.cfg (s.bay b) → LockSound (s.bay b) →
    (s.book.records.map (·.id)).Nodup →
    r.checkOk = true → r.boostFault = false → (s.bay b).state = .opened → (s.bay b).handover = some h →
    rec ∈ s.book.records → rec.id = h.reservation → rec.state = .handover b p →
    let q := limitReport r
    let x := reported q (s.bay b)
    (s.bay b).door = .opened → q.door = .closed → q.present = true →
    (removesPack q x h = true ∨ (h.packRemoved = true ∧ x.pack = none)) →
    let out := if removesPack q x h then (x.pack.map (·.serial)).getD 0 else h.outSerial.getD 0
    let staged := pendingAfter x q = some .stageFault
    let new : BayState := if staged then .fault .stageFault else checkedState x.mask q
    let pack := if staged then none else checkedPack s.cfg new q
    ∃ t, exec (.bayReport b r) s = .next t ∧
      t = { s with
        bays := t.bays, book := bookWithout rec s.book, asks := asksWithout rec.id s.asks, plan := t.plan
        boost := { s.boost with eligible := s.boost.eligible.set b new.eligible b.isLt }
        flags := t.flags, line := t.line, out := t.out } ∧
      t.bays = s.bays.set b { leftDoor new pack none x with locked := true, lockPending := false } b.isLt ∧
      PassAsked s t ∧ Replied b t ∧
      Raised ((if staged then [.bayFault b .stageFault 0] else []) ++ [.swapDone out q.serial] ++
        (if staged then [] else faultNotices b new pack)) s t

/-- R14, R146: a valid report to an AJAR bay. With the original pack gone, or another in its place, the bay leaves AJAR with
its pending stage fault or to EMPTY or by the CHECKING rule, and PACK_MISSING is raised; with the door CLOSED on the
original pack it goes back to HELD or READY as its record stands, or to FAULT with a pending fault; otherwise it stays
AJAR. Behind an open door the lock is left pending, unless the CHECKING rule takes the bay to FAULT (R22). A closed door
without the data of the original pack leaves the bay AJAR by log entry 25, the pack of a bay gone to STAGE_FAULT is kept by
log entry 26, and the retired flag of a new pack taken straight to FAULT is the one its health gives by log entry 20. The record's expiry instant is not reached here (see AtDoorRecordExpiresAsDoorClears). -/
def Obligations.ReportInAjar : Prop :=
  ∀ (b : BayNo) (r : Report) (h : Handover) (p : Pack) (rec : Reservation) (s : State),
    Running s → BoostSound s → BayFields (s.bay b) → SetpointSound s.cfg (s.bay b) → LockSound (s.bay b) →
    (s.book.records.map (·.id)).Nodup →
    r.checkOk = true → r.boostFault = false → (s.bay b).state = .ajar → (s.bay b).handover = some h →
    (s.bay b).pack = some p → rec ∈ s.book.records → rec.id = h.reservation → rec.atDoor = true →
    (rec.state = .bound b ∨ rec.state = .ready b) → s.clock.seconds < rec.expiry s.cfg →
    let q := limitReport r
    let x := reported q (s.bay b)
    let own := q.present = true ∧ q.serial ≠ 0 ∧ q.serial = p.serial
    let other := q.present = true ∧ q.serial ≠ 0 ∧ q.serial ≠ p.serial
    let kept : Pack := if own then copied s.cfg q p else p
    let pend := pendingAfter x q
    let back : BayState := if rec.state = .ready b then .ready else .held
    let unbound : Book := { s.book with records := unboundIn (some rec.id) s.book.records }
    let cleared : Book :=
      { s.book with records := s.book.records.map fun z => if z.id = rec.id then { z with atDoor := false } else z }
    let eligibleAt (new : BayState) : Arbiter :=
      { s.boost with eligible := s.boost.eligible.set b new.eligible b.isLt }
    ∃ t, exec (.bayReport b r) s = .next t ∧
      t = { s with
        bays := t.bays, book := t.book, plan := t.plan, boost := t.boost, flags := t.flags, line := t.line
        out := t.out } ∧
      Replied b t ∧
      (q.present = false ∨ other →
        let staged := pend = some .stageFault
        let new : BayState := if staged then .fault .stageFault else checkedState x.mask q
        let pack : Option Pack := if staged then some p else checkedPack s.cfg new q
        t.bays = s.bays.set b (if staged then leftDoor new pack none x else leftChecking new pack x) b.isLt ∧
        t.book = unbound ∧ t.boost = eligibleAt new ∧
        PassAsked s t ∧
        Raised ((if staged then [.bayFault b .stageFault p.serial] else []) ++ [.packMissing b p.serial rec.id] ++
          (if staged then [] else faultNotices b new pack)) s t) ∧
      (own → q.door = .closed → ∀ k, pend = some k →
        t.bays = s.bays.set b (leftDoor (.fault k) (some kept) none x) b.isLt ∧ t.book = unbound ∧
        t.boost = eligibleAt (.fault k) ∧ PassAsked s t ∧
        Raised (retiredNotices s.cfg b q p ++ [.bayFault b k p.serial]) s t) ∧
      (own → q.door = .closed → pend = none →
        t.bays = s.bays.set b (leftDoor back (some kept) (some rec.id) x) b.isLt ∧ t.book = cleared ∧
        t.boost = eligibleAt back ∧ PassAsked s t ∧ Raised (retiredNotices s.cfg b q p) s t) ∧
      (q.present = true → ¬ other → ¬ (own ∧ q.door = .closed) →
        t.bays = s.bays.set b { x with pack := some kept, pendingFault := pend } b.isLt ∧ t.book = s.book ∧
        t.boost = s.boost ∧ Raised (if own then retiredNotices s.cfg b q p else []) s t ∧
        (if kept.retired ≠ p.retired then PassAsked s t else t.plan = s.plan))

/-- R142 to R145: the handover timer of an OPEN bay runs out. With the original pack removed, a pack present completes the
swap, to be checked at the next report, and none present is no return; with the original pack still in the bay, a CLOSED
door brings a return to the prior state and an OPEN door leaves the bay AJAR with the door-ajar timer at the handover time.
A pending fault is applied as R14 gives, and the door decides the lock in FAULT too (R22). The record's expiry instant is not
reached here. -/
def Obligations.HandoverTimerEndsHandover : Prop :=
  ∀ (b : BayNo) (h : Handover) (rec : Reservation) (p : Prior) (s : State),
    Running s → BoostSound s → BayFields (s.bay b) → SetpointSound s.cfg (s.bay b) → LockSound (s.bay b) →
    (s.book.records.map (·.id)).Nodup →
    (s.bay b).state = .opened → (s.bay b).handover = some h → h.timer = 0 →
    (h.packRemoved = true → (s.bay b).pack = none) →
    rec ∈ s.book.records → rec.id = h.reservation → rec.state = .handover b p → rec.atDoor = true →
    (h.packRemoved = true ∨ (s.bay b).lastPresent = some true) →
    s.clock.seconds < rec.expiry s.cfg →
    let x := s.bay b
    let staged := x.pendingFault = some .stageFault
    let back : BayState := if p = .ready then .ready else .held
    let out := h.outSerial.getD 0
    let pn := (x.pack.map (·.serial)).getD 0
    let returned (door : Bool) : Book :=
      { s.book with
        records := s.book.records.map fun z =>
          if z.id = rec.id then
            { z with state := if p = .ready then .ready b else .bound b, late := false, atDoor := door }
          else z }
    let eligibleAt (new : BayState) : Arbiter :=
      { s.boost with eligible := s.boost.eligible.set b new.eligible b.isLt }
    ∃ t, exec (.handoverTimerExpiry b) s = .next t ∧
      t = { s with
        bays := t.bays, book := t.book, asks := t.asks, plan := t.plan, boost := t.boost, flags := t.flags
        line := t.line, out := t.out } ∧
      PassAsked s t ∧
      (h.packRemoved = true →
        let fin : BayState := if x.lastPresent = some true then .checking else .empty
        let new : BayState := if staged then .fault .stageFault else fin
        t.bays = s.bays.set b (leftDoor new none none x) b.isLt ∧ t.book = bookWithout rec s.book ∧
        t.asks = asksWithout rec.id s.asks ∧ t.boost = eligibleAt new ∧
        Raised ((if staged then [.bayFault b .stageFault 0] else []) ++
          [if x.lastPresent = some true then .swapDone out 0 else .noReturn rec.id b out]) s t) ∧
      (h.packRemoved = false → t.asks = s.asks ∧
        (∀ k, x.pendingFault = some k →
          t.bays = s.bays.set b (leftDoor (.fault k) x.pack none x) b.isLt ∧
          t.book = { s.book with records := unboundIn (some rec.id) s.book.records } ∧ t.boost = eligibleAt (.fault k) ∧
          Raised (.bayFault b k pn :: (if x.door = .closed then [.handoverTimeout rec.id b] else [])) s t) ∧
        (x.pendingFault = none → x.door = .closed →
          t.bays = s.bays.set b (leftDoor back x.pack (some rec.id) x) b.isLt ∧ t.book = returned false ∧
          t.boost = eligibleAt back ∧ Raised [.handoverTimeout rec.id b] s t) ∧
        (x.pendingFault = none → x.door = .opened →
          t.bays = s.bays.set b
            { x with state := .ajar, handover := some { h with timer := s.cfg.handoverTime * 1000 } } b.isLt ∧
          t.book = returned true ∧ t.boost = eligibleAt .ajar ∧ Raised [.doorAjar rec.id b] s t))

/-- R145: the door-ajar timer of an AJAR bay runs out: DOOR_AJAR is raised again and the timer restarted at the handover
time; nothing else changes. -/
def Obligations.DoorAjarTimerRepeatsNotice : Prop :=
  ∀ (b : BayNo) (h : Handover) (s : State),
    Running s → (s.bay b).state = .ajar → (s.bay b).handover = some h → h.timer = 0 →
    ∃ t, exec (.doorAjarTimerExpiry b) s = .next t ∧
      t = { s with
        bays := s.bays.set b { s.bay b with handover := some { h with timer := s.cfg.handoverTime * 1000 } } b.isLt
        flags := t.flags, line := t.line, out := quietOut } ∧
      Raised [.doorAjar h.reservation b] s t

/-- R52, R46, R51: a record whose expiry instant has been reached while at door was yes expires in the very event that
clears at door: no event leaves it in the book with at door no. -/
def Obligations.AtDoorRecordExpiresAsDoorClears : Prop :=
  ∀ (c : Instr) (r : Reservation) (s t : State),
    Sound s → exec c s = .next t →
    r ∈ s.book.records → r.atDoor = true → r.expiry s.cfg ≤ s.clock.seconds →
    ∀ z ∈ t.book.records, z.id = r.id → z.token = r.token → z.atDoor = true

/-! ### Bays taken out of use (R5, R9, R12, R15, R17, R18, R19, R147) -/

/-- R5, R9, R10, R12, R17, R18: a bay neither OPEN nor OFF goes to OFF by the loss of its link or, unless it is AJAR, by
service, or to FAULT(NO_PACK_DATA) by its data timer: its pack dropped, its setpoint 0, LOCKED, its reservation unbound to
PENDING, the grant it held ended, and a pass requested; the first raises LINK_LOST and the last BAY_FAULT. The expiry instant
of a record at the door is not reached here. -/
def Obligations.BayTakenOutOfUse : Prop :=
  ∀ (b : BayNo) (src : Station) (n : Nat) (rest : List AskFrame) (s : State),
    Running s → BoostSound s → BindingsAgree s → (s.book.records.map (·.id)).Nodup → BayFields (s.bay b) →
    SetpointSound s.cfg (s.bay b) → (s.bay b).state ≠ .opened → (∀ c, (s.bay b).state ≠ .off c) →
    (∀ r ∈ s.book.records, r.atDoor = true → s.clock.seconds < r.expiry s.cfg) →
    (3000 ≤ (s.bay b).reportAge →
      ∃ t, exec (.linkLoss b) s = .next t ∧
        t = { s with
          bays := s.bays.set b (movedTo (.off .link) none (s.bay b)) b.isLt
          book := { s.book with records := unboundIn (s.bay b).reservation s.book.records }
          boost := arbiterLeft b (.off .link) s.boost, plan := t.plan, flags := t.flags, line := t.line, out := t.out } ∧
        PassAsked s t ∧ Raised [.linkLost b] s t) ∧
    ((s.bay b).dataTimer = some 0 →
      ∃ t, exec (.dataTimerExpiry b) s = .next t ∧
        t = { s with
          bays := s.bays.set b (movedTo (.fault .noPackData) none (s.bay b)) b.isLt
          book := { s.book with records := unboundIn (s.bay b).reservation s.book.records }
          boost := arbiterLeft b (.fault .noPackData) s.boost, plan := t.plan, flags := t.flags, line := t.line
          out := t.out } ∧
        PassAsked s t ∧ Raised [.bayFault b .noPackData 0] s t) ∧
    (s.line.askQueue = ⟨src, .service n 0⟩ :: rest → n = b.val → s.ts.contexts[src] = none → (s.bay b).state ≠ .ajar →
      ∃ t, exec .serviceOff s = .next t ∧
        t = { popAsk s with
          bays := s.bays.set b (movedTo (.off .service) none (s.bay b)) b.isLt
          book := { s.book with records := unboundIn (s.bay b).reservation s.book.records }
          boost := arbiterLeft b (.off .service) s.boost, plan := t.plan, out := t.out } ∧
        PassAsked s t)

/-- R147: an OPEN bay loses its link. With the original pack removed the handover ends with no return, and otherwise its
record returns and, its bay going OFF, is PENDING again; either way LINK_LOST is raised last. A pending fault is applied as
R14 gives on the way. The record's expiry instant is not reached here. -/
def Obligations.LinkLossEndsHandover : Prop :=
  ∀ (b : BayNo) (h : Handover) (rec : Reservation) (p : Prior) (s : State),
    Running s → BoostSound s → BayFields (s.bay b) → SetpointSound s.cfg (s.bay b) → LockSound (s.bay b) →
    (s.book.records.map (·.id)).Nodup → 3000 ≤ (s.bay b).reportAge →
    (s.bay b).state = .opened → (s.bay b).handover = some h → (h.packRemoved = true → (s.bay b).pack = none) →
    rec ∈ s.book.records → rec.id = h.reservation → rec.state = .handover b p → rec.atDoor = true →
    s.clock.seconds < rec.expiry s.cfg →
    let x := s.bay b
    let pn := (x.pack.map (·.serial)).getD 0
    let faults : List Notice :=
      match x.pendingFault with
      | some k => if h.packRemoved = false ∨ k = .stageFault then [.bayFault b k pn] else []
      | none => []
    ∃ t, exec (.linkLoss b) s = .next t ∧
      t = { s with
        bays := s.bays.set b { leftDoor (.off .link) none none x with locked := true, lockPending := false } b.isLt
        book := t.book, asks := t.asks, plan := t.plan, flags := t.flags, line := t.line, out := t.out } ∧
      PassAsked s t ∧
      (h.packRemoved = true → t.book = bookWithout rec s.book ∧ t.asks = asksWithout rec.id s.asks ∧
        Raised (faults ++ [.noReturn rec.id b (h.outSerial.getD 0), .linkLost b]) s t) ∧
      (h.packRemoved = false →
        t.book = { s.book with records := unboundIn (some rec.id) s.book.records } ∧ t.asks = s.asks ∧
        Raised (faults ++ [.linkLost b]) s t)

/-- R15, R18, R19: the other cases of SERVICE. OFF to an OPEN or AJAR bay, to an unused one or to a number above 11, ON to
an unused bay or a number above 11, and any other action are refused with SERVICE_REFUSED; OFF changes the off cause LINK to
SERVICE and leaves SERVICE; ON takes a bay OFF with cause SERVICE to EMPTY or CHECKING by its last valid report if that is
younger than 3000 ms, and to the off cause LINK otherwise, and leaves every other bay as it is. -/
def Obligations.ServiceOtherCases : Prop :=
  ∀ (src : Station) (n action : Nat) (rest : List AskFrame) (s : State),
    Running s → BoostSound s → s.line.askQueue = ⟨src, .service n action⟩ :: rest → s.ts.contexts[src] = none →
    let refused (c : Instr) (state : Option BayState) : Prop :=
      ∃ t, exec c s = .next t ∧ t = { popAsk s with flags := t.flags, line := t.line, out := quietOut } ∧
        Raised [.serviceRefused n action state] (popAsk s) t
    (action = 0 → 11 < n → refused .serviceOff none) ∧
    (action = 1 → 11 < n → refused .serviceOn none) ∧
    (1 < action → refused .serviceBadAction (if h : n < 12 then some (s.bay ⟨n, h⟩).state else none)) ∧
    ∀ b : BayNo, b.val = n →
      (action = 0 → (s.bay b).state ∈ [.opened, .ajar, .off .unused] → refused .serviceOff (some (s.bay b).state)) ∧
      (action = 1 → (s.bay b).state = .off .unused → refused .serviceOn (some (.off .unused))) ∧
      (action = 0 → (s.bay b).state ∈ [.off .link, .off .service] →
        exec .serviceOff s = .next
          { popAsk s with bays := s.bays.set b { s.bay b with state := .off .service } b.isLt, out := quietOut }) ∧
      (action = 1 → (s.bay b).state = .off .service →
        ((s.bay b).lastPresent = none ∨ 3000 ≤ (s.bay b).reportAge) →
        exec .serviceOn s = .next
          { popAsk s with bays := s.bays.set b { s.bay b with state := .off .link } b.isLt, out := quietOut }) ∧
      (action = 1 → (s.bay b).state = .off .service → ∀ present, (s.bay b).lastPresent = some present →
        (s.bay b).reportAge < 3000 → BayFields (s.bay b) → SetpointSound s.cfg (s.bay b) → (s.bay b).pack = none →
        let new : BayState := if present = true then .checking else .empty
        ∃ t, exec .serviceOn s = .next t ∧
          t = { popAsk s with
            bays := s.bays.set b (movedTo new none (s.bay b)) b.isLt, plan := t.plan, out := quietOut } ∧
          PassAsked s t) ∧
      (action = 1 → (s.bay b).state ≠ .off .service → (s.bay b).state ≠ .off .unused →
        exec .serviceOn s = .next { popAsk s with out := quietOut })

/-! ### Frames addressed to the part (R152) -/

/-- R152: a frame addressed to the part, other than a TEMPLATE BODY, from a terminal that holds an open-template context first
cancels it with TEMPLATE_CANCELLED; what follows is what the same frame does with no context open. -/
def Obligations.AddressedFrameCancelsContext : Prop :=
  ∀ (c : Instr) (src : Station) (body : AskBody) (o : Context) (rest : List AskFrame) (s : State),
    Running s → s.line.askQueue = ⟨src, body⟩ :: rest → s.ts.contexts[src] = some o →
    (match c, body with
      | .serviceOff, .service _ a => a = 0
      | .serviceOn, .service _ a => a = 1
      | .serviceBadAction, .service _ a => 1 < a
      | .release, .release _ => True
      | .templateOpen, .templateOpen _ => True
      | .templateDropOne, .templateDrop m _ => m = 0
      | .templateDropAllTemporary, .templateDrop m _ => m = 1
      | .templateDropAll, .templateDrop m _ => m = 2
      | .templateDropMakeTemporary, .templateDrop m _ => m = 3
      | .templateDropMakeKept, .templateDrop m _ => m = 4
      | .templateDropBadMode, .templateDrop m _ => 4 < m
      | .statusAsk, .statusAsk _ => True
      | .statusClear, .statusClear _ => True
      | _, _ => False) →
    ∃ t, exec c s = .next t ∧
      exec c (({ s with ts := { s.ts with contexts := s.ts.contexts.set src none src.isLt } }).raise
        (.templateCancelled src o.template .otherFrame)) = .next t

/-! ### Asks, offers and held answers (R61 to R81) -/

/-- R62, R63, R64, R68: a new ask opens a slot in BIDDING for 400 ms with its limited fields and the part's own offer, which is
posted, or its reason for making none; with all four slots occupied it is dropped with ASK_DROPPED. Which free slot is opened
is the model's choice (log entry 29). -/
def Obligations.NewAskOpensSlotOrIsDropped : Prop :=
  ∀ (src : Station) (ask token cls target arrival window : Nat) (rest : List AskFrame) (s : State),
    Running s → s.line.askQueue = ⟨src, .swapAsk ask token cls target arrival window⟩ :: rest →
    (∀ (i : SlotNo) (x : Slot), s.asks.slots[i] = some x → ¬ (x.terminal = src ∧ x.ask = ask)) →
    let goal := max 500 (min 1000 target)
    let length := max 120 (min 3600 window)
    let eta := min 14400 arrival
    let slot (own : Option Offer) (reason : Option NoneReason) : Slot :=
      ⟨src, ask, token, cls, goal, length, eta, s.clock.seconds, .bidding 400, own, reason, none⟩
    (∀ i : SlotNo, s.asks.slots[i] = none → (∀ j < i, s.asks.slots[j] ≠ none) →
      ∀ d, OwnOffer s token cls goal (eta + length) d →
        exec .swapAsk s = .next
          { popAsk s with
            out := quietOut
            asks := { s.asks with
              slots := s.asks.slots.set i
                (some (match d with | .inl o => slot (some o) none | .inr r => slot none (some r))) i.isLt }
            line := match d with
              | .inl o => (popAsk s).line.post (.offer src ask o.offset o.existing)
              | .inr _ => (popAsk s).line }) ∧
    ((∀ i : SlotNo, s.asks.slots[i] ≠ none) →
      ∃ t, exec .swapAsk s = .next t ∧
        t = { popAsk s with
          asks := { s.asks with dropped := min 255 (s.asks.dropped + 1) }, flags := t.flags, line := t.line
          out := quietOut } ∧
        Raised [.askDropped src ask (min 255 (s.asks.dropped + 1))] (popAsk s) t) ∧
    ∃ d, OwnOffer s token cls goal (eta + length) d

/-- R62, R75, R76, R77: a repeat is answered by the state of its slot: HOLD in BIDDING or where it does not match; GRANTED or
NONE, freeing the slot, where it matches a slot in WON or NONE; and nothing in LOST. The arrival estimate is not compared. -/
def Obligations.RepeatIsAnsweredByItsSlot : Prop :=
  ∀ (src : Station) (ask token cls target arrival window : Nat) (rest : List AskFrame) (i : SlotNo) (x : Slot) (s : State),
    Running s → SlotsSound s → s.line.askQueue = ⟨src, .swapAsk ask token cls target arrival window⟩ :: rest →
    s.asks.slots[i] = some x → x.terminal = src → x.ask = ask →
    let same := x.token = token ∧ x.cls = cls ∧ x.target = max 500 (min 1000 target) ∧
      x.window = max 120 (min 3600 window)
    let freed : AskTable := { s.asks with slots := s.asks.slots.set i none i.isLt }
    let answered (a : Answer) (asks : AskTable) : Prop :=
      exec .swapAsk s = .next
        { popAsk s with out := quietOut, asks := asks, line := (popAsk s).line.post (.answer src a) }
    (∀ m, x.state = .bidding m → answered (.hold ask) s.asks) ∧
    (∀ id off k m, x.state = .won id off k m →
      (same → answered (.granted ask id off) freed) ∧ (¬ same → answered (.hold ask) s.asks)) ∧
    (∀ m, x.state = .none m →
      (same → ∃ r, x.reason = some r ∧ answered (.none ask r) freed) ∧ (¬ same → answered (.hold ask) s.asks)) ∧
    (∀ m, x.state = .lost m → exec .swapAsk s = .next { popAsk s with out := quietOut })

/-- R69, R70: a peer's OFFER is kept as the best heard of the slot in BIDDING it names if none has been heard or it ranks
before the one kept; one that names no such slot, or that comes from the part's own station, is ignored. -/
def Obligations.OfferIsHeardByRank : Prop :=
  ∀ (src : Station) (terminal ask offset : Nat) (existing : Bool) (rest : List PeerFrame) (s : State),
    Running s → SlotsSound s → s.line.peerQueue = ⟨src, .offer terminal ask offset existing⟩ :: rest →
    (∀ (i : SlotNo) (x : Slot), s.asks.slots[i] = some x → src ≠ s.cfg.station → x.terminal.val = terminal →
      x.ask = ask → (∃ m, x.state = .bidding m) → (∀ h, x.heard = some h → Ranked ⟨offset, existing, src⟩ h) →
      exec .offer s = .next
        { popPeer s with
          out := quietOut
          asks := { s.asks with
            slots := s.asks.slots.set i (some { x with heard := some ⟨offset, existing, src⟩ }) i.isLt } }) ∧
    (src = s.cfg.station ∨
        (∀ (i : SlotNo) (x : Slot), s.asks.slots[i] = some x → x.terminal.val = terminal → x.ask = ask →
          (∃ m, x.state = .bidding m) → ∃ h, x.heard = some h ∧ ¬ Ranked ⟨offset, existing, src⟩ h) →
      exec .offer s = .next { popPeer s with out := quietOut })

/-- R71 to R74: the bid timer of a slot runs out. The part has lost where it made no offer and heard one, or heard one that
ranks before its own, and has nothing where neither was made. An existing offer wins the record that holds the token, if one
still does. A new offer wins by creating a record, whose window opens at arrival plus arrival estimate, or by R72's table
where the creation is refused. The discard timer starts at the discard time. -/
def Obligations.BidWindowEndResolves : Prop :=
  ∀ (i : SlotNo) (x : Slot) (s : State),
    Running s → BookSound s → s.asks.slots[i] = some x → x.state = .bidding 0 →
    let m := s.cfg.discardTime * 1000
    let slotTo (st : SlotState) (r : Option NoneReason) : AskTable :=
      { s.asks with slots := s.asks.slots.set i (some { x with state := st, reason := r }) i.isLt }
    let ends (a : AskTable) : Prop := exec (.bidWindowEnd i) s = .next { s with out := quietOut, asks := a }
    let held := ∃ r ∈ s.book.records, r.token = x.token
    (x.own = none → x.heard = none → ends (slotTo (.none m) x.reason)) ∧
    (x.own = none → x.heard ≠ none → ends (slotTo (.lost m) x.reason)) ∧
    ∀ o, x.own = some o →
      (∀ h, x.heard = some h → ¬ Ranked ⟨o.offset, o.existing, s.cfg.station⟩ h → ends (slotTo (.lost m) x.reason)) ∧
      ((∀ h, x.heard = some h → Ranked ⟨o.offset, o.existing, s.cfg.station⟩ h) →
        ((o.existing = true ∨ (x.token ≠ 0 ∧ x.cls < 4)) →
          ∀ r ∈ s.book.records, r.token = x.token → ends (slotTo (.won r.id 0 .existing m) x.reason)) ∧
        (o.existing = true → ¬ held → ends (slotTo (.none m) (some .gone))) ∧
        (o.existing = false → ¬ held → x.token ≠ 0 → ∀ c : PackClass, c.val = x.cls →
          (¬ RoomFor s c → ends (slotTo (.none m) (some .full))) ∧
          (RoomFor s c → ∃ t, exec (.bidWindowEnd i) s = .next t ∧ ∃ rec ∈ t.book.records,
            t = { s with out := quietOut, plan := t.plan, book := t.book, asks := slotTo (.won rec.id o.offset .new m) x.reason } ∧
            rec = ⟨rec.id, x.token, c, max 500 (min 1000 x.target), x.arrival + x.arrivalEstimate,
              x.arrival + x.arrivalEstimate + max 120 (min 3600 x.window), .pending, .ask, false, false⟩ ∧
            BookGrown rec s.book t.book ∧ PassAsked s t)))

/-! ### Records that leave the book (R52 to R58, R79, R80) -/

/-- R52 to R54, R57, R58, R79, R80: a record at door no leaves the book by its expiry, its token going onto the expired-token
list with RES_EXPIRED; or with the discard timer of a slot that won it as NEW, with ANSWER_DISCARDED. Its bay is released, its
class's commitment falls, slots that name it turn to NONE(GONE), and a pass is requested. A record not due, or at the door,
stays, and any other slot is freed by its discard timer alone. -/
def Obligations.ExpiryAndDiscardRemoveRecord : Prop :=
  ∀ (rec : Reservation) (s : State),
    Running s → BookSound s → BindingsAgree s → BoostSound s → (∀ b, BayFields (s.bay b)) → rec ∈ s.book.records →
    (rec.atDoor = false → rec.expiry s.cfg ≤ s.clock.seconds →
      ∃ t, exec (.recordExpiry rec.id) s = .next t ∧
        t = { withoutRecord rec s with
          book := { bookWithout rec s.book with expired := expiredWith rec.token s.book.expired }
          plan := t.plan, flags := t.flags, line := t.line, out := t.out } ∧
        PassAsked s t ∧ Raised [.resExpired rec.id rec.token rec.cls] s t) ∧
    (rec.atDoor = true ∨ s.clock.seconds < rec.expiry s.cfg →
      exec (.recordExpiry rec.id) s = .next { s with out := quietOut }) ∧
    ∀ (i : SlotNo) (x : Slot), s.asks.slots[i] = some x →
      (∀ off, x.state = .won rec.id off .new 0 → rec.atDoor = false →
        ∃ t, exec (.discardTimerExpiry i) s = .next t ∧
          t = { withoutRecord rec s with
            asks := { s.asks with slots := (asksWithout rec.id s.asks).slots.set i none i.isLt }
            plan := t.plan, flags := t.flags, line := t.line, out := t.out } ∧
          PassAsked s t ∧ Raised [.answerDiscarded x.terminal x.ask rec.id] s t) ∧
      ((∃ off, x.state = .won rec.id off .new 0 ∧ rec.atDoor = true) ∨ (∃ id off, x.state = .won id off .existing 0) ∨
          x.state = .lost 0 ∨ x.state = .none 0 →
        exec (.discardTimerExpiry i) s = .next
          { s with out := quietOut, asks := { s.asks with slots := s.asks.slots.set i none i.isLt } })

/-- R55, R56: a RELEASE of a record at the door is answered BUSY; of any other it removes the record with RES_RELEASED; and one
that names no record counts an unknown release, up to 255, with UNKNOWN_RELEASE. -/
def Obligations.ReleaseRemovesRecord : Prop :=
  ∀ (src : Station) (id : Nat) (rest : List AskFrame) (s : State),
    Running s → BookSound s → BindingsAgree s → BoostSound s → (∀ b, BayFields (s.bay b)) →
    s.line.askQueue = ⟨src, .release id⟩ :: rest → s.ts.contexts[src] = none →
    (∀ r ∈ s.book.records, r.id = id → r.atDoor = true →
      exec .release s = .next
        { popAsk s with out := quietOut, line := (popAsk s).line.post (.answer src (.busy id)) }) ∧
    (∀ r ∈ s.book.records, r.id = id → r.atDoor = false →
      ∃ t, exec .release s = .next t ∧
        t = { withoutRecord r s with plan := t.plan, flags := t.flags, line := t.line, out := t.out } ∧
        PassAsked s t ∧ Raised [.resReleased id r.cls] (popAsk s) t) ∧
    ((∀ r ∈ s.book.records, r.id ≠ id) →
      ∃ t, exec .release s = .next t ∧
        t = { popAsk s with
          book := { s.book with unknownReleases := min 255 (s.book.unknownReleases + 1) }
          flags := t.flags, line := t.line, out := quietOut } ∧
        Raised [.unknownRelease id (min 255 (s.book.unknownReleases + 1))] (popAsk s) t)

/-! ### Claims (R136 to R139) -/

/-- R50, R136 to R139: a CLAIM. One that names a record not at the door in READY, or in BOUND with its pack within 100 of the
target and at least 500, is answered GO: the record enters HANDOVER at door yes, the bay OPEN and UNLOCKED with setpoint 0 and
a fresh handover context, and EARLY_SHORT is raised in the second case. Every other changes nothing but for its reply: BUSY with
the bay at the door, NOT_READY in PENDING, WAIT with the normal estimate in BOUND, TOO_LATE for a token of the expired-token
list, and no reply for a token of neither list or of 0. That the bay entering OPEN drops its data timer is log entry 23, and
that it has no lock pending there log entry 22. -/
def Obligations.ClaimGoesOrIsAnswered : Prop :=
  ∀ (src : Station) (token : Nat) (rest : List AskFrame) (s : State),
    Running s → BookSound s → BoostSound s → s.line.askQueue = ⟨src, .claim token⟩ :: rest →
    let answered (r : Reply) : Prop :=
      exec .claim s = .next
        { popAsk s with out := quietOut, line := (popAsk s).line.post (.claimReply src token r) }
    (∀ r ∈ s.book.records, ∀ (b : BayNo) (p : Pack), (s.bay b).pack = some p → r.token = token → r.atDoor = false →
      (s.bay b).state ∈ [.held, .ready] → (s.bay b).reservation = some r.id →
      BayFields (s.bay b) → (r.state = .ready b ∨ (r.state = .bound b ∧ max 500 (r.target - 100) ≤ p.soc)) →
      ∃ t, exec .claim s = .next t ∧
        t = { popAsk s with
          bays := s.bays.set b
            { s.bay b with
              state := .opened, setpoint := 0, boost := false, dataTimer := none, locked := false, lockPending := false
              handover := some ⟨s.cfg.handoverTime * 1000, false, none, r.id⟩ } b.isLt
          book := { s.book with
            records := s.book.records.map fun z =>
              if z.id = r.id then
                { z with
                  state := .handover b (if r.state = .ready b then .ready else .bound), late := false, atDoor := true }
              else z }
          boost := arbiterLeft b .opened s.boost, plan := t.plan, flags := t.flags, line := t.line, out := t.out } ∧
        PassAsked s t ∧
        Raised (if r.state = .ready b then [] else [.earlyShort r.id b p.soc r.target])
          { popAsk s with line := (popAsk s).line.post (.claimReply src token (.go r.id b)) } t) ∧
    (∀ r ∈ s.book.records, r.token = token → token ≠ 0 →
      (r.state = .pending → answered (.notReady r.id)) ∧
      (∀ b, r.bay = some b → (r.atDoor = true ∨ ∃ p, r.state = .handover b p) → answered (.busy r.id b)) ∧
      (∀ b, r.state = .bound b → r.atDoor = false → ∀ p, (s.bay b).pack = some p → p.soc < max 500 (r.target - 100) →
        answered (.wait r.id (normalEstimate s.cfg r.target (s.bay b))))) ∧
    ((∀ r ∈ s.book.records, r.token ≠ token) → token ≠ 0 → token ∈ s.book.expired → answered .tooLate) ∧
    ((∀ r ∈ s.book.records, r.token ≠ token) → token = 0 ∨ token ∉ s.book.expired →
      exec .claim s = .next { popAsk s with out := quietOut })

/-! ### The Charge Planner (R82 to R99) -/

/-- R83, R84, R96: the period timer requests a pass; and a pass whose snapshot's share lies above the share in force is
discarded whole, a new one starting at once. -/
def Obligations.PeriodAndFallenShareStartPass : Prop :=
  ∀ s : State, Running s →
    (s.plan.period = some 0 →
      ∃ t, exec .periodTimerExpiry s = .next t ∧ t = { s with plan := t.plan, out := quietOut } ∧ PassAsked s t) ∧
    (∀ p, s.plan.pass = some p → s.feed.share < p.snapshot.share →
      exec .passCompletion s = .next
        { s with
          out := quietOut
          plan := { s.plan with
            pass := some ⟨⟨s.clock.seconds, s.bays, s.book.records, s.feed.share⟩, 0⟩, again := false
            period := some 10000 } })

/-- The record a move of a pass is about. -/
def moveId : Move → Nat
  | .bind id _ => id
  | .rebind id _ _ => id

/-- The bay a move of a pass frees, for a rebinding. -/
def moveFrom : Move → Option BayNo
  | .bind _ _ => none
  | .rebind _ old _ => some old

/-- Whether a move of a pass still fits the part as the completion finds it, and the bay it binds the record to (R97). -/
def moveFits (s : State) (m : Move) : Option BayNo :=
  match m with
  | .bind id b =>
    if (s.book.byId id).map (·.state) = some .pending ∧ (s.bay b).state = .stock then some b else none
  | .rebind id old new =>
    if (s.book.byId id).map (fun r => (r.state, r.atDoor)) = some (.bound old, false) ∧
        (s.bay old).reservation = some id ∧ (s.bay new).state = .stock then some new else none

/-- R84, R93, R95, R97 to R99, R107, R114: a pass completes within the share it started from. Each binding that still fits is
made and every other is refused; the late flags of the records still BOUND to their bays are written, RES_LATE going out for
those that turn to yes; each setpoint becomes the smaller of the allocation and the cap, at the normal stage where a grant has
just ended, 0 where the bay is not chargeable, before a share that falls clamps it further; and the urgency order, the boost
sets and the own figures are handed on. The arbiter decides on the new sets from IDLE, withdraws a holder in neither, and keeps
them otherwise. A new pass starts if one was asked for while this one ran or by what it changed, and the planner is IDLE
otherwise. The order of the late flags is log entry 48. -/
def Obligations.CompletionAppliesResults : Prop :=
  ∀ (n : Snapshot) (age : Nat) (s : State),
    Running s → Sound s → s.plan.pass = some ⟨n, age⟩ → n.share ≤ s.feed.share →
    (n.records.map (·.id)).Nodup → BindingsAgree { s with bays := n.bays, book := { s.book with records := n.records } } →
    let p := n.plan s.cfg
    let boundTo (id : Nat) : Option BayNo := (p.moves.filter fun m => moveId m = id).findSome? (moveFits s)
    let sets : Arbiter := { s.boost with high := p.high, low := p.low }
    ∃ t, exec .passCompletion s = .next t ∧
      t = { s with
        bays := t.bays, book := t.book, plan := t.plan, boost := t.boost, feed := t.feed, flags := t.flags
        line := t.line, out := t.out } ∧
      t.feed = { s.feed with ownDemand := p.demand, ownPriority := p.priority, share := t.feed.share } ∧
      t.feed.share = Feed.shareNow s.cfg { s.feed with ownDemand := p.demand, ownPriority := p.priority } ∧
      (s.boost.converter = .idle → ∀ (a : Arbiter) (w : Option BayNo), Decided sets a w →
        t.boost = { a with
          converter := match w with | some b => .granted b (s.cfg.boostSlice * 1000) | none => .idle }) ∧
      (∀ h, s.boost.converter.holder = some h →
        t.boost = if h ∈ p.high ∨ h ∈ p.low then sets else { sets with converter := .switching 2000 }) ∧
      (s.boost.converter ≠ .idle → s.boost.converter.holder = none → t.boost = sets) ∧
      (t.plan =
          if s.plan.again = true ∨ t.feed.share ≠ s.feed.share ∨
              t.boost.converter.holder ≠ s.boost.converter.holder ∨ ∃ m ∈ p.moves, (moveFits s m).isSome = true then
            ⟨some ⟨⟨t.clock.seconds, t.bays, t.book.records, t.feed.share⟩, 0⟩, false, some 10000, p.order, false⟩
          else ⟨none, false, s.plan.period, p.order, false⟩) ∧
      t.book = { s.book with
        records := s.book.records.map fun r =>
          let r' := match boundTo r.id with | some b => { r with state := .bound b } | none => r
          match p.lates.find? (·.id = r.id) with
          | some f => if r'.state = .bound f.bay then { r' with late := f.late } else r'
          | none => r' } ∧
      Raised (p.lates.filterMap fun f =>
        match t.book.byId f.id, s.book.byId f.id with
        | some r', some r =>
          if r'.state = .bound f.bay ∧ f.late = true ∧ r.late = false then some (.resLate f.id f.bay) else none
        | _, _ => none) s t ∧
      ∀ b : BayNo,
        let x := t.bay b
        x = { s.bay b with state := x.state, reservation := x.reservation, boost := x.boost, setpoint := x.setpoint } ∧
        (∀ m ∈ p.moves, moveFits s m = some b → x.state = .held ∧ x.reservation = some (moveId m)) ∧
        (∀ m ∈ p.moves, (moveFits s m).isSome = true → moveFrom m = some b → x.state = .stock ∧ x.reservation = none) ∧
        ((∀ m ∈ p.moves, (moveFits s m).isSome = true → moveFits s m ≠ some b ∧ moveFrom m ≠ some b) →
          x.state = (s.bay b).state ∧ x.reservation = (s.bay b).reservation) ∧
        x.boost = decide (t.boost.converter.holder = some b) ∧
        x.setpoint ≤ allocationOf p.allocation b ∧
        (s.feed.share ≤ t.feed.share →
          x.setpoint = if x.chargeable s.cfg = true then
            min (allocationOf p.allocation b)
              (powerCap s.cfg (targetOf s.cfg t.book.records x) { x with boost := (s.bay b).boost && x.boost })
          else 0)

/-! ### The Boost Arbiter (R104 to R116) -/

/-- R107 to R113, R116: the slice timer of the holder runs out: with a rival requesting the grant ends, the former holder's
setpoint cut to its normal cap and the switchover begun, and with none the slice is renewed. The switchover runs out: the
first requester in the rings' order is granted the converter for a slice, and with none the converter is IDLE. -/
def Obligations.SliceAndSwitchTimers : Prop :=
  ∀ s : State, Running s →
    (∀ h, s.boost.converter = .granted h 0 →
      ((∃ b, b ≠ h ∧ s.boost.eligible[b] = true ∧ (b ∈ s.boost.high ∨ b ∈ s.boost.low)) →
        ∃ t, exec .sliceTimerExpiry s = .next t ∧
          t = { s with
            bays := s.bays.set h (cutBay s h) h.isLt, boost := { s.boost with converter := .switching 2000 }
            plan := t.plan, out := t.out } ∧
          PassAsked s t) ∧
      ((∀ b, b ≠ h → s.boost.eligible[b] = true → b ∉ s.boost.high ∧ b ∉ s.boost.low) →
        exec .sliceTimerExpiry s = .next
          { s with
            boost := { s.boost with converter := .granted h (s.cfg.boostSlice * 1000) }, out := quietOut })) ∧
    (s.boost.converter = .switching 0 → ∀ (a : Arbiter) (w : Option BayNo), Decided s.boost a w →
      (∀ b, w = some b →
        ∃ t, exec .switchTimerExpiry s = .next t ∧
          t = { s with
            bays := s.bays.set b { s.bay b with boost := true } b.isLt
            boost := { a with converter := .granted b (s.cfg.boostSlice * 1000) }, plan := t.plan, out := t.out } ∧
          PassAsked s t) ∧
      (w = none → exec .switchTimerExpiry s = .next { s with boost := { a with converter := .idle }, out := quietOut }))

/-! ### The Feed Share Unit (R121 to R132) -/

/-- R121, R122, R123, R132: a SITE FEED sets the site limit and measured draw within their ranges, the trim by one step, the
meter age to 0 and the meter PRESENT, METER_BACK being raised from LOST; the meter lost puts the limit at the meter-lost limit
with METER_LOST. The share follows both, a fall of it clamping the setpoints (R100, R101). -/
def Obligations.SiteFeedAndMeterLoss : Prop :=
  ∀ s : State, Running s → (∀ b, SetpointSound s.cfg (s.bay b)) → FeedSound s → PlanSound s →
    (∀ (src : Station) (limit draw : Nat) (rest : List PeerFrame),
      s.line.peerQueue = ⟨src, .siteFeed limit draw⟩ :: rest →
      let l := min 250000 limit
      let m := min 500000 draw
      let trim := if l < m then max 500 (s.feed.trim - 50) else if m * 100 ≤ l * 95 then min 1000 (s.feed.trim + 10)
        else s.feed.trim
      ∃ t, exec .siteFeed s = .next t ∧
        t = { popPeer s with
          feed := t.feed, bays := t.bays, plan := t.plan, flags := t.flags, line := t.line, out := t.out } ∧
        ShareFollows { s.feed with
          siteLimit := some l, measuredDraw := some m, meterAge := 0, meter := .present, trim := trim
          limit := l - s.cfg.reserveMargin } s t ∧
        Raised (if s.feed.meter = .lost then [.meterBack l] else []) (popPeer s) t) ∧
    (s.feed.meter ≠ .lost → 10000 < s.feed.meterAge →
      ∃ t, exec .meterLost s = .next t ∧
        t = { s with
          feed := t.feed, bays := t.bays, plan := t.plan, flags := t.flags, line := t.line, out := t.out } ∧
        ShareFollows { s.feed with meter := .lost, limit := s.cfg.meterLostLimit } s t ∧
        Raised [.meterLost (s.feed.siteLimit.getD 0) s.cfg.meterLostLimit] s t)

/-- R124 to R129: a DRAW CLAIM refreshes the entry of its station, or adds one, in a full table in place of the STALE entry of
greatest age and lowest station, with PEER_LOST, or not at all, with PEER_TABLE_FULL; one from the part's own station raises
STATION_CLASH. An entry goes STALE after 6000 ms and is removed at 30,000 ms with PEER_LOST. The claim timer sends the own
claim and restarts. The share follows each change. STATION_CLASH carries the figures as received by log entry 46. -/
def Obligations.DrawClaimsAndTheirAges : Prop :=
  ∀ s : State, Running s → (∀ b, SetpointSound s.cfg (s.bay b)) → FeedSound s → PlanSound s →
    let ps := s.feed.peers
    let claimed (ns : List Notice) (ps' : List Peer) : Prop :=
      ∃ t, exec .drawClaim s = .next t ∧
        t = { popPeer s with
          feed := t.feed, bays := t.bays, plan := t.plan, flags := t.flags, line := t.line, out := t.out } ∧
        ShareFollows { s.feed with peers := ps' } s t ∧ Raised ns (popPeer s) t
    (∀ (src : Station) (demand priority : Nat) (rest : List PeerFrame),
      s.line.peerQueue = ⟨src, .drawClaim demand priority⟩ :: rest →
      let entry : Peer := ⟨src, demand, min priority demand, 0, false⟩
      (src = s.cfg.station → claimed [.stationClash demand priority] ps) ∧
      (src ≠ s.cfg.station → src ∈ ps.map (·.station) →
        claimed [] (ps.map fun p => if p.station = src then entry else p)) ∧
      (src ≠ s.cfg.station → src ∉ ps.map (·.station) → ps.length < 7 → claimed [] (ps ++ [entry])) ∧
      (src ≠ s.cfg.station → src ∉ ps.map (·.station) → ps.length = 7 →
        ((∀ p ∈ ps, p.stale = false) → claimed [.peerTableFull src] ps) ∧
        (∀ q ∈ ps, q.stale = true →
          (∀ p ∈ ps, p.stale = true → p.age < q.age ∨ (p.age = q.age ∧ q.station ≤ p.station)) →
          claimed [.peerLost q.station] (ps.filter (·.station ≠ q.station) ++ [entry])))) ∧
    (∀ q ∈ ps,
      (6000 < q.age → q.stale = false →
        ∃ t, exec (.peerStale q.station) s = .next t ∧
          t = { s with feed := t.feed, bays := t.bays, plan := t.plan, out := t.out } ∧
          ShareFollows { s.feed with peers := ps.map fun p => if p.station = q.station then { p with stale := true } else p }
            s t) ∧
      (30000 ≤ q.age →
        ∃ t, exec (.peerLost q.station) s = .next t ∧
          t = { s with
            feed := t.feed, bays := t.bays, plan := t.plan, flags := t.flags, line := t.line, out := t.out } ∧
          ShareFollows { s.feed with peers := ps.filter (·.station ≠ q.station) } s t ∧
          Raised [.peerLost q.station] s t)) ∧
    (s.feed.claimTimer = some 0 →
      exec .claimTimerExpiry s = .next
        { s with
          out := quietOut, line := s.line.post (.drawClaim s.feed.ownDemand s.feed.ownPriority)
          feed := { s.feed with claimTimer := some 2000 } })

/-! ### The Template Store (R150 to R158) -/

/-- R151 to R153: a TEMPLATE OPEN opens a context for 2000 ms, or is refused as BAD_ID; a TEMPLATE BODY closes the context of its
terminal and defines the template whole, its target and window limited, with TEMPLATE_SET, or is refused as NO_OPEN or
BAD_FIELD; and a context whose timer has run out is cancelled with TEMPLATE_CANCELLED. -/
def Obligations.TemplatesAreDefined : Prop :=
  ∀ (src : Station) (rest : List AskFrame) (s : State), Running s →
    let closed : TemplateStore := { s.ts with contexts := s.ts.contexts.set src none src.isLt }
    let told (c : Instr) (ts : TemplateStore) (n : Notice) : Prop :=
      ∃ t, exec c s = .next t ∧ t = { popAsk s with ts := ts, flags := t.flags, line := t.line, out := quietOut } ∧
        Raised [n] (popAsk s) t
    (∀ id, s.line.askQueue = ⟨src, .templateOpen id⟩ :: rest → s.ts.contexts[src] = none →
      (∀ i : TemplateNo, id = i.val + 1 →
        exec .templateOpen s = .next
          { popAsk s with
            out := quietOut
            ts := { s.ts with contexts := s.ts.contexts.set src (some ⟨i, 2000⟩) src.isLt } }) ∧
      (id = 0 ∨ 8 < id → told .templateOpen s.ts (.templateRefused src .badId))) ∧
    (∀ token cls kept tod target window,
      s.line.askQueue = ⟨src, .templateBody token cls kept tod target window⟩ :: rest →
      (s.ts.contexts[src] = none → told .templateBody s.ts (.templateRefused src .noOpen)) ∧
      ∀ o, s.ts.contexts[src] = some o →
        (token = 0 ∨ 3 < cls ∨ 86399 < tod → told .templateBody closed (.templateRefused src .badField)) ∧
        (token ≠ 0 → tod ≤ 86399 → ∀ c : PackClass, c.val = cls →
          told .templateBody
            { closed with
              slots := s.ts.slots.set o.template
                (some ⟨token, c, max 500 (min 1000 target), tod, max 120 (min 3600 window), kept, none, none⟩)
                o.template.isLt }
            (.templateSet o.template token kept))) ∧
    (∀ o, s.ts.contexts[src] = some o → o.timer = 0 →
      ∃ t, exec (.templateContextTimeout src) s = .next t ∧
        t = { s with ts := closed, flags := t.flags, line := t.line, out := quietOut } ∧
        Raised [.templateCancelled src o.template .timeout] s t)

/-- R154: the five modes of TEMPLATE DROP: the slot named emptied, the TEMPORARY slots emptied, every slot emptied, and the
template in the slot named made TEMPORARY or KEPT; an id outside 1..8 is refused as BAD_ID and any other mode as BAD_MODE. -/
def Obligations.TemplatesAreDropped : Prop :=
  ∀ (src : Station) (mode id : Nat) (rest : List AskFrame) (s : State),
    Running s → s.line.askQueue = ⟨src, .templateDrop mode id⟩ :: rest → s.ts.contexts[src] = none →
    let put (f : Option Template → Option Template) (only : TemplateNo → Prop) (c : Instr) : Prop :=
      ∃ t, exec c s = .next t ∧
        t = { popAsk s with ts := { s.ts with slots := t.ts.slots }, out := quietOut } ∧
        (∀ i : TemplateNo, only i → t.ts.slots[i] = f s.ts.slots[i]) ∧
        ∀ i : TemplateNo, ¬ only i → t.ts.slots[i] = s.ts.slots[i]
    let refused (c : Instr) (why : RefuseReason) : Prop :=
      ∃ t, exec c s = .next t ∧ t = { popAsk s with flags := t.flags, line := t.line, out := quietOut } ∧
        Raised [.templateRefused src why] (popAsk s) t
    let named := fun i : TemplateNo => i.val + 1 = id
    (mode = 1 → put (Option.filter fun x => x.kept) (fun _ => True) .templateDropAllTemporary) ∧
    (mode = 2 → put (fun _ => none) (fun _ => True) .templateDropAll) ∧
    (1 ≤ id → id ≤ 8 →
      (mode = 0 → put (fun _ => none) named .templateDropOne) ∧
      (mode = 3 → put (Option.map fun x => { x with kept := false }) named .templateDropMakeTemporary) ∧
      (mode = 4 → put (Option.map fun x => { x with kept := true }) named .templateDropMakeKept)) ∧
    (id = 0 ∨ 8 < id →
      (mode = 0 → refused .templateDropOne .badId) ∧ (mode = 3 → refused .templateDropMakeTemporary .badId) ∧
      (mode = 4 → refused .templateDropMakeKept .badId)) ∧
    (4 < mode → refused .templateDropBadMode .badMode)

/-- R156, R157: an instant passed by counting, and the day roll. A template that has come due for the day before is left; any
other notes the day and asks for a reservation whose window opens one lead from now, TEMPLATE_MISS being raised with R157's
reason if the creation is refused, and a pass is requested either way. The day roll empties every TEMPORARY slot. -/
def Obligations.InstantAndDayRoll : Prop :=
  ∀ s : State, Running s → BookSound s →
    (∀ (i : TemplateNo) (x : Template), s.ts.slots[i] = some x → ∀ day : Int, x.passed = some day → x.token ≠ 0 →
      let taken : State :=
        { s with
          ts := { s.ts with slots := s.ts.slots.set i (some { x with passed := none, lastDay := some day }) i.isLt } }
      let missed (why : MissReason) (holder : Nat) : Prop :=
        ∃ t, exec (.templateInstant i) s = .next t ∧
          t = { taken with plan := t.plan, flags := t.flags, line := t.line, out := quietOut } ∧
          PassAsked s t ∧ Raised [.templateMiss i x.token why holder] s t
      let held := ∃ r ∈ s.book.records, r.token = x.token
      (x.lastDay = some day → exec (.templateInstant i) s = .next { taken with out := quietOut }) ∧
      (x.lastDay ≠ some day →
        (∀ r ∈ s.book.records, r.token = x.token →
          missed (if r.origin = .standing i then .previousHeld else .tokenHeld) r.id) ∧
        (¬ held → s.book.records.length = 32 → missed .bookFull 0) ∧
        (¬ held → s.book.records.length < 32 → s.cfg.commitLimit[x.cls] ≤ s.book.commit[x.cls] → missed .limit 0) ∧
        (¬ held → RoomFor s x.cls → ∃ t, exec (.templateInstant i) s = .next t ∧ ∃ rec ∈ t.book.records,
          t = { taken with book := t.book, plan := t.plan, out := quietOut } ∧
          rec = ⟨rec.id, x.token, x.cls, max 500 (min 1000 x.target), s.clock.seconds + s.cfg.templateLead,
            s.clock.seconds + s.cfg.templateLead + max 120 (min 3600 x.window), .pending, .standing i, false, false⟩ ∧
          BookGrown rec s.book t.book ∧ PassAsked s t))) ∧
    (s.ts.rollDue = true →
      ∃ t, exec .dayRoll s = .next t ∧
        t = { s with ts := { s.ts with slots := t.ts.slots, rollDue := false }, out := quietOut } ∧
        ∀ i : TemplateNo, t.ts.slots[i] = (s.ts.slots[i]).filter fun x => x.kept)

/-- Templates that come due one after another with the clock at `now`, from book `k` to book `k'`, raising the notices `ns`
(R157): each with room makes its record, and each that is refused raises TEMPLATE_MISS with R157's reason. -/
def ComeDue (cfg : Setup) (now : Nat) : List (TemplateNo × Template) → Book → List Notice → Book → Prop
  | [], k, ns, k' => ns = [] ∧ k' = k
  | (i, x) :: rest, k, ns, k' =>
    let held := ∃ r ∈ k.records, r.token = x.token
    let room := k.records.length < 32 ∧ k.commit[x.cls] < cfg.commitLimit[x.cls]
    let missed (why : MissReason) (holder : Nat) : Prop :=
      ns.head? = some (.templateMiss i x.token why holder) ∧ ComeDue cfg now rest k ns.tail k'
    (∀ r ∈ k.records, r.token = x.token →
      missed (if r.origin = .standing i then .previousHeld else .tokenHeld) r.id) ∧
    (¬ held → 32 ≤ k.records.length → missed .bookFull 0) ∧
    (¬ held → k.records.length < 32 → ¬ room → missed .limit 0) ∧
    (¬ held → room → ∃ k1 : Book, ComeDue cfg now rest k1 ns k' ∧ ∃ rec ∈ k1.records,
      rec = ⟨rec.id, x.token, x.cls, max 500 (min 1000 x.target), now + cfg.templateLead,
        now + cfg.templateLead + max 120 (min 3600 x.window), .pending, .standing i, false, false⟩ ∧
      BookGrown rec k k1)

/-- R155, R156, R157: a DAY TIME above 86,399 is discarded. The first sets the clock to the value it carries, with day number 0,
and passes no point. Later ones move it the shorter way round the day, one of 2 s or less not at all, with DAY_CLOCK_SET. A
backward jump passes no point; a forward jump passes each instant and midnight on its way: a TEMPORARY template is gone once
the midnight is passed, any other whose instant is passed notes that instant's day. The templates passed, but for those already
due that day and those gone before, come due in the order of their instants and then of their ids, each making its record or
raising TEMPLATE_MISS, and a pass is requested where any comes due. Which of a midnight and an instant of the same second goes
first is left open (log entry 34), and DAY_CLOCK_SET is raised last by log entry 35. -/
def Obligations.DayTimeSetsOrMovesClock : Prop :=
  ∀ (src : Station) (v : Nat) (rest : List PeerFrame) (s : State),
    Running s → BookSound s → TemplatesSound s → s.line.peerQueue = ⟨src, .dayTime v⟩ :: rest →
    let now : Int := s.clock.seconds
    (86399 < v → exec .dayTime s = .next { popPeer s with out := quietOut }) ∧
    (v ≤ 86399 → s.ts.dayOffset = none →
      ∃ t, exec .dayTime s = .next t ∧
        t = { popPeer s with
          ts := { s.ts with dayOffset := some ((v : Int) - now) }, flags := t.flags, line := t.line, out := quietOut } ∧
        Raised [.dayClockSet none v 0] (popPeer s) t) ∧
    ∀ o : Int, s.ts.dayOffset = some o → v ≤ 86399 →
      ∀ d : Int, -43200 ≤ d → d ≤ 43199 → (d - (v - (now + o))) % 86400 = 0 →
      let old := now + o
      let said : Notice := .dayClockSet (some (old % 86400).toNat) v ((old + d) / 86400)
      (-2 ≤ d → d ≤ 2 → exec .dayTime s = .next { popPeer s with out := quietOut }) ∧
      (d < -2 →
        ∃ t, exec .dayTime s = .next t ∧
          t = { popPeer s with
            ts := { s.ts with dayOffset := some (o + d) }, flags := t.flags, line := t.line, out := quietOut
            free := t.free } ∧
          Raised [said] (popPeer s) t) ∧
      (2 < d →
        ∃ t, exec .dayTime s = .next t ∧ ∃ ns : List Notice,
          t = { popPeer s with
            ts := { s.ts with dayOffset := some (o + d), slots := t.ts.slots }, book := t.book, plan := t.plan
            flags := t.flags, line := t.line, out := quietOut, free := t.free } ∧
          Raised (ns ++ [said]) (popPeer s) t ∧
          let midnight := old / 86400 * 86400 + 86400
          let rolled := midnight ≤ old + d
          (∀ (i : TemplateNo) (x : Template), s.ts.slots[i] = some x →
            ∀ k : Int, old < k → k ≤ old + 86400 → (k - (x.todOpen - s.cfg.templateLead)) % 86400 = 0 →
              (x.kept = false ∧ rolled → t.ts.slots[i] = none) ∧
              (¬ (x.kept = false ∧ rolled) → k ≤ old + d → t.ts.slots[i] = some { x with lastDay := some (k / 86400) }) ∧
              (¬ (x.kept = false ∧ rolled) → old + d < k → t.ts.slots[i] = some x) ∧
              ((∃ r ∈ t.book.records, r.origin = .standing i ∧ r ∉ s.book.records) →
                k ≤ old + d ∧ (x.kept = false → rolled → k ≤ midnight) ∧ x.lastDay ≠ some (k / 86400))) ∧
          ((∀ (i : TemplateNo) (x : Template), s.ts.slots[i] = some x →
              (old + d - (x.todOpen - s.cfg.templateLead)) % 86400 ≥ d) →
            ns = [] ∧ t.book = s.book ∧ t.plan = s.plan) ∧
          (∀ i : TemplateNo, s.ts.slots[i] = none → t.ts.slots[i] = none) ∧
          (∀ r ∈ s.book.records, r ∈ t.book.records) ∧
          (∀ r ∈ t.book.records, r ∉ s.book.records →
            ∃ i x, s.ts.slots[i] = some x ∧ r.origin = .standing i ∧ r.state = .pending ∧ r.token = x.token ∧
              r.cls = x.cls ∧ r.target = x.target ∧ r.windowOpen = s.clock.seconds + s.cfg.templateLead ∧
              r.windowClose = r.windowOpen + x.window) ∧
          (t.book.records ≠ s.book.records → PassAsked s t) ∧
          ∃ due : List (Int × TemplateNo × Template),
            due.Pairwise (fun p q => p.1 < q.1 ∨ (p.1 = q.1 ∧ p.2.1 < q.2.1)) ∧
            (∀ p ∈ due, s.ts.slots[p.2.1] = some p.2.2 ∧ old < p.1 ∧ p.1 ≤ old + d ∧
              (p.1 - (p.2.2.todOpen - s.cfg.templateLead)) % 86400 = 0 ∧ p.2.2.lastDay ≠ some (p.1 / 86400) ∧
              (p.2.2.kept = true ∨ p.1 ≤ midnight)) ∧
            (∀ (i : TemplateNo) (x : Template), s.ts.slots[i] = some x →
              ∀ k : Int, old < k → k ≤ old + 86400 → (k - (x.todOpen - s.cfg.templateLead)) % 86400 = 0 →
                k ≤ old + d → x.lastDay ≠ some (k / 86400) → (x.kept = true ∨ k < midnight) → (k, i, x) ∈ due) ∧
            ComeDue s.cfg s.clock.seconds (due.map (·.2)) s.book ns t.book ∧
            (due ≠ [] → PassAsked s t) ∧ (due = [] → t.plan = s.plan))

/-! ### The Line Controller (R159 to R168) -/

/-- A payload field by field (R171): each field's width in bytes and its number, most significant byte first, none standing
for content the manual leaves open (log entry 16); and nothing after the last. -/
def Spelt : List (Nat × Option Nat) → List Byte → Prop
  | [], p => p = []
  | (w, v) :: fields, p =>
    w ≤ p.length ∧ (∀ n, v = some n → ofBytes (p.take w) = n % 256 ^ w) ∧ Spelt fields (p.drop w)

/-- Fields whose numbers are all given. -/
def given (l : List (Nat × Nat)) : List (Nat × Option Nat) := l.map fun x => (x.1, some x.2)

/-- The code of a notice, its group and its arguments with their widths, as R178 numbers and orders them. -/
def noticeRow : Notice → Nat × Nat × List (Nat × Nat)
  | .askDropped t a n => (1, 0, [(1, t), (1, a), (1, n)])
  | .answerDiscarded t a id => (2, 0, [(1, t), (1, a), (2, id)])
  | .earlyShort id b soc target => (3, 0, [(2, id), (1, b), (2, soc), (2, target)])
  | .swapDone o i => (4, 0, [(4, o), (4, i)])
  | .noReturn id b o => (5, 0, [(2, id), (1, b), (4, o)])
  | .handoverTimeout id b => (6, 0, [(2, id), (1, b)])
  | .doorAjar id b => (7, 0, [(2, id), (1, b)])
  | .resExpired id token c => (8, 1, [(2, id), (4, token), (1, c)])
  | .resReleased id c => (9, 1, [(2, id), (1, c)])
  | .unknownRelease id n => (10, 1, [(2, id), (1, n)])
  | .resLate id b => (11, 1, [(2, id), (1, b)])
  | .packMissing b serial id => (12, 2, [(1, b), (4, serial), (2, id)])
  | .bayFault b k serial => (13, 2, [(1, b), (1, k.code), (4, serial)])
  | .packRetired b serial health => (14, 2, [(1, b), (4, serial), (2, health)])
  | .linkLost b => (15, 2, [(1, b)])
  | .linkBack b => (16, 2, [(1, b)])
  | .doorForced b door present =>
    (17, 2, [(1, b), (1, if door = .closed then 0 else 1), (1, if present = true then 1 else 0)])
  | .serviceRefused b action st => (18, 2, [(1, b), (1, action), (1, match st with | some x => x.code | none => 255)])
  | .meterLost l m => (19, 3, [(3, l), (3, m)])
  | .meterBack l => (20, 3, [(3, l)])
  | .peerTableFull st => (21, 3, [(1, st)])
  | .stationClash d p => (22, 3, [(3, d), (3, p)])
  | .peerLost st => (23, 3, [(1, st)])
  | .lineState o n sc rc => (24, 4, [(1, o.code), (1, n.code), (1, sc), (1, rc)])
  | .caution sc rc => (25, 4, [(1, sc), (1, rc)])
  | .logOverflow => (26, 4, [])
  | .templateSet i token kept => (27, 5, [(1, i + 1), (4, token), (1, if kept = true then 1 else 0)])
  | .templateCancelled t i c => (28, 5, [(1, t), (1, i + 1), (1, c.code)])
  | .templateRefused t r => (29, 5, [(1, t), (1, r.code)])
  | .templateMiss i token r holder => (30, 5, [(1, i + 1), (4, token), (1, r.code), (2, holder)])
  | .dayClockSet o n day =>
    (31, 5, [(3, match o with | some x => x | none => 16777215), (3, n), (2, (day % 65536).toNat)])
  | .boostFault b c holder => (32, 6, [(1, b), (1, c.code), (1, match holder with | some h => h.val | none => 255)])
  | .setupIgnored p => (33, 7, [(1, p)])
  | .setupLoaded st => (34, 7, [(1, st)])

/-- The precedence, the kind and the fields of a frame the part sends (R78, R139, R160, R171). -/
def sentAs (me : Station) : OutFrame → Nat × Nat × List (Nat × Option Nat)
  | .claimReply d token r =>
    let rest : List (Nat × Nat) :=
      match r with
      | .go id b => [(1, 0), (2, id), (1, me), (2, b)]
      | .busy id b => [(1, 1), (2, id), (1, me), (2, b)]
      | .wait id e => [(1, 2), (2, id), (1, me), (2, e)]
      | .notReady id => [(1, 3), (2, id), (1, me), (2, 0)]
      | .tooLate => [(1, 4), (2, 0), (1, me), (2, 0)]
    (2, 2, given ((1, d.val) :: (4, token) :: rest))
  | .drawClaim demand priority => (3, 3, given [(2, demand), (2, priority)])
  | .offer t a off e => (4, 4, given [(1, t), (1, a), (2, off), (1, if e = true then 1 else 0)])
  | .answer d x =>
    let rest : List (Nat × Option Nat) :=
      match x with
      | .hold a => given [(1, a), (1, 0), (2, 0)] ++ [(1, none), (2, none)]
      | .granted a id off => given [(1, a), (1, 1), (2, id), (1, me), (2, off)]
      | .none a r => given [(1, a), (1, 2), (2, 0)] ++ [(1, none), (2, some r.code)]
      | .busy id => given [(1, 0), (1, 3), (2, id)] ++ [(1, none), (2, none)]
    (5, 6, (1, some d.val) :: rest)
  | .notice n => (10, 13, given ((1, (noticeRow n).1) :: (noticeRow n).2.2))
  | .overrun c => (10, 13, given [(1, 40), (1, c)])
  | .statusReply d page figures => (11, 16, given ((1, d.val) :: (1, page) :: figures.map fun x => (1, x.toNat)))

/-- Whether a queued frame is a notice, the OVERRUN among them, and not in transmission (R169). -/
def IdleNotice (e : OutEntry) : Prop := e.sending = false ∧ ((∃ n, e.frame = .notice n) ∨ ∃ c, e.frame = .overrun c)

/-- R78, R139, R160, R168, R169, R171, R178: the fields the part reads from a received payload are those that were written into
it, each in its width, most significant byte first; a kind with a destination is the part's only in RUN and under its own
station. A frame the part sends carries the precedence, kind and fields its rule gives, and a notice its code, group and
arguments, each enumerated value as its place in its list (the causes of TEMPLATE_CANCELLED by log entry 50) and each number
in the low bytes of its field (log entry 45). A frame posted to
the Outbound queue is queued last; a DRAW CLAIM takes the place of a queued one; and a full queue counts a NOTICE in an OVERRUN
(the older of two by log entry 33), makes one of the newest notice, or loses the new one, and drops its oldest notice for any
other frame, or loses that frame. -/
def Obligations.ReceivedFieldsAreThoseSent : Prop :=
  (∀ (src me dest : Station) (part : Part) (a b c d e f : Nat) (kept : Bool) (free : Nat) (content : List Byte),
    let rd (kind : Nat) (payload : List Byte) := sortFrame part me free ⟨src, BitVec.ofNat 8 kind, payload⟩
    let addr (payload : List Byte) := bytesOf 1 dest ++ payload
    let mine (x : AskBody) : Sorted := if part = .run ∧ dest = me then .ask ⟨src, x⟩ else .notStored
    (a < 2 ^ 24 → b < 2 ^ 24 → rd 0 (bytesOf 3 a ++ bytesOf 3 b) = .peer ⟨src, .siteFeed a b⟩) ∧
    (a < 2 ^ 32 → rd 1 (bytesOf 4 a) = .ask ⟨src, .claim a⟩) ∧
    (a < 2 ^ 16 → b < 2 ^ 16 → rd 3 (bytesOf 2 a ++ bytesOf 2 b) = .peer ⟨src, .drawClaim a b⟩) ∧
    (a < 2 ^ 8 → b < 2 ^ 8 → c < 2 ^ 16 →
      rd 4 (bytesOf 1 a ++ bytesOf 1 b ++ bytesOf 2 c ++ bytesOf 1 (if kept = true then 1 else 0)) =
        .peer ⟨src, .offer a b c kept⟩) ∧
    (a < 2 ^ 8 → b < 2 ^ 32 → c < 2 ^ 8 → d < 2 ^ 16 → e < 2 ^ 16 → f < 2 ^ 16 →
      rd 5 (bytesOf 1 a ++ bytesOf 4 b ++ bytesOf 1 c ++ bytesOf 2 d ++ bytesOf 2 e ++ bytesOf 2 f) =
        .ask ⟨src, .swapAsk a b c d e f⟩) ∧
    (a < 2 ^ 16 → rd 7 (addr (bytesOf 2 a)) = mine (.release a)) ∧
    (a < 2 ^ 8 → b < 2 ^ 8 → rd 8 (addr (bytesOf 1 a ++ bytesOf 1 b)) = mine (.service a b)) ∧
    (a < 2 ^ 8 → rd 9 (addr (bytesOf 1 a)) = mine (.templateOpen a)) ∧
    (a < 2 ^ 32 → b < 2 ^ 8 → c < 2 ^ 17 → d < 2 ^ 12 → e < 2 ^ 12 →
      rd 10 (addr (bytesOf 4 a ++ bytesOf 1 b ++ bytesOf 3 ((if kept = true then 2 ^ 23 else 0) + c) ++
        bytesOf 3 (d * 2 ^ 12 + e))) = mine (.templateBody a b kept c d e)) ∧
    (a < 2 ^ 8 → b < 2 ^ 8 → rd 11 (addr (bytesOf 1 a ++ bytesOf 1 b)) = mine (.templateDrop a b)) ∧
    (a < 2 ^ 24 → rd 12 (bytesOf 3 a) = .peer ⟨src, .dayTime a⟩) ∧
    (a < 2 ^ 8 → rd 14 (addr (bytesOf 1 a)) = mine (.statusAsk a)) ∧
    rd 15 (addr content) = mine (.statusClear content) ∧
    (a < 2 ^ 8 → rd 17 (bytesOf 1 a ++ content) = .ask ⟨src, .setup a content⟩)) ∧
  (∀ (b : Byte) (bs : List Byte), ofBytes (b :: bs) = b.toNat * 256 ^ bs.length + ofBytes bs) ∧
  (∀ (me : Station) (free : Nat) (x : OutFrame),
    x.precedence = (sentAs me x).1 ∧ x.kind = (sentAs me x).2.1 ∧ Spelt (sentAs me x).2.2 (x.payload me free)) ∧
  (∀ n : Notice, n.code = (noticeRow n).1 ∧ groupOfCode n.code = (noticeRow n).2.1) ∧
  [FaultKind.packFault, .packHot, .stageFault, .wrongClass, .noPackData].map FaultKind.code = [0, 1, 2, 3, 4] ∧
  [BayState.empty, .checking, .stock, .held, .ready, .opened, .ajar].map BayState.code = [0, 1, 2, 3, 4, 5, 6] ∧
  (∀ k : FaultKind, (BayState.fault k).code = 7) ∧ (∀ c : OffCause, (BayState.off c).code = 8) ∧
  [NoneReason.noPack, .full, .gone].map NoneReason.code = [0, 1, 2] ∧
  [LineState.full, .guarded, .detached].map LineState.code = [0, 1, 2] ∧
  [LineError.none, .noChange, .stuff, .shape, .ack, .check, .bit].map LineError.code = [0, 1, 2, 3, 4, 5, 6] ∧
  [MeterState.waiting, .present, .lost].map MeterState.code = [0, 1, 2] ∧
  [ConverterName.idle, .granted, .switching, .faulted].map ConverterName.code = [0, 1, 2, 3] ∧
  [CancelCause.timeout, .otherFrame].map CancelCause.code = [0, 1] ∧
  [RefuseReason.noOpen, .badId, .badField, .badMode].map RefuseReason.code = [0, 1, 2, 3] ∧
  [MissReason.tokenHeld, .bookFull, .limit, .previousHeld].map MissReason.code = [0, 1, 2, 3] ∧
  ∀ (l : LineController) (x : OutFrame),
    let claim : OutFrame → Prop := fun y => ∃ d p, y = .drawClaim d p
    let replaces := claim x ∧ ∃ e ∈ l.outQueue, claim e.frame
    let full := 8 ≤ l.outQueue.length ∧ ¬ replaces
    let lost (n : Nat) := min 255 (l.noticesLost + n)
    (∀ (pre post : List OutEntry) (e : OutEntry), l.outQueue = pre ++ e :: post → claim x → claim e.frame →
      (∀ y ∈ pre, ¬ claim y.frame) → l.post x = { l with outQueue := pre ++ post ++ [⟨x, false⟩] }) ∧
    (l.outQueue.length < 8 → ¬ replaces → l.post x = { l with outQueue := l.outQueue ++ [⟨x, false⟩] }) ∧
    (full → (∃ n, x = .notice n) →
      (∀ (pre post : List OutEntry) (c : Nat), l.outQueue = pre ++ ⟨.overrun c, false⟩ :: post →
        (∀ y ∈ pre, ∀ k, y ≠ ⟨.overrun k, false⟩) →
        l.post x =
          { l with outQueue := pre ++ ⟨.overrun (min 255 (c + 1)), false⟩ :: post, noticesLost := lost 1 }) ∧
      ((∀ y ∈ l.outQueue, ∀ k, y ≠ ⟨.overrun k, false⟩) →
        (∀ (pre post : List OutEntry) (e : OutEntry), l.outQueue = pre ++ e :: post → IdleNotice e →
          (∀ y ∈ post, ¬ IdleNotice y) →
          l.post x = { l with outQueue := pre ++ ⟨.overrun 2, false⟩ :: post, noticesLost := lost 2 }) ∧
        ((∀ y ∈ l.outQueue, ¬ IdleNotice y) → l.post x = { l with noticesLost := lost 1 }))) ∧
    (full → (∀ n, x ≠ .notice n) → (∀ c, x ≠ .overrun c) →
      (∀ (pre post : List OutEntry) (e : OutEntry), l.outQueue = pre ++ e :: post → IdleNotice e →
        (∀ y ∈ pre, ¬ IdleNotice y) →
        l.post x =
          { l with
            outQueue := pre ++ post ++ [⟨x, false⟩]
            noticesLost := lost (match e.frame with | .overrun c => c | _ => 1) }) ∧
      ((∀ y ∈ l.outQueue, ¬ IdleNotice y) →
        l.post x = { l with sendsDropped := min 255 (l.sendsDropped + 1) }))

/-- R160, R162, R163, R165 to R167: a bad frame brings an error flag in FULL, one more on the receive count unless DETACHED,
and a logged error; a good frame is acknowledged and takes one off the receive count unless DETACHED, and is stored as its
kind and destination give, an Ask queue of 8 losing the new frame and a Peer queue of 16 the oldest. The order of LINE_STATE,
CAUTION and LOG_OVERFLOW is log entry 27, and that a notice discarded in UNSET counts as none lost log entry 52. -/
def Obligations.FramesAreReceived : Prop :=
  ∀ (e : BadFrame) (f : RawFrame) (s : State), Running s ∨ Waiting s → LineSound s → FeedSound s →
    let l := s.line
    let up := if l.state = .detached then l else counted l.sendCount (min 127 (l.recvCount + 1)) l
    let down := if l.state = .detached then l else counted l.sendCount (l.recvCount - 1) l
    let flagged : Outputs := { quietOut with flagged := decide (l.state = .full) }
    let acked : Outputs := { quietOut with acknowledged := decide (l.state ≠ .detached) }
    let e' : LineError := match e with | .stuff => .stuff | .shape => .shape | .check => .check
    (∃ t, exec (.frameReceive (.bad e)) s = .next t ∧ t = { s with flags := t.flags, line := t.line, out := flagged } ∧
        Raised (countNotices l up ++ logNotices l) { s with line := logged e' up } t) ∧
    (12 < f.payload.length → exec (.frameReceive (.whole f)) s = exec (.frameReceive (.bad .shape)) s) ∧
    (f.payload.length ≤ 12 →
        ∃ t, exec (.frameReceive (.whole f)) s = .next t ∧
          t = { s with flags := t.flags, line := t.line, out := acked, free := t.free } ∧
          Raised (countNotices l down)
            { s with
              line := match sortFrame s.part s.cfg.station s.free f with
                | .ask a =>
                  if l.askQueue.length < 8 then { down with askQueue := l.askQueue ++ [a] }
                  else { down with asksLost := min 255 (l.asksLost + 1) }
                | .peer a =>
                  if l.peerQueue.length < 16 then { down with peerQueue := l.peerQueue ++ [a] }
                  else { down with
                    peerQueue := l.peerQueue.tail ++ [a], peerLost := min 255 (l.peerLost + 1) }
                | .notStored => down } t)

/-- R159, R161, R163, R165, R168: a send starts, in RUN and not DETACHED, on a line idle for 12 bit times, or 20 in GUARDED, with
the oldest frame of the lowest precedence, its contention word, kind and payload going onto the line; it does not start
otherwise. A lost contention keeps the frame queued; a good send drops it and takes one off the send count; a failed one keeps
it and adds 8, or, beyond 255, takes the part off the line, DETACHED; and each failure is logged. In DETACHED alone each 12 bit
times of a run on an idle line count as one gap: at 100 the part rejoins in FULL with both counts at 0 (R164), LINE_STATE is
raised, and the share follows (R131). That idle bit times come as operands is the model's choice (log entry 18), the order of
the notices is log entry 27, and the bytes of the payload are those of ReceivedFieldsAreThoseSent. -/
def Obligations.FramesAreSentAndPartRejoins : Prop :=
  ∀ (idle n : Nat) (s : State),
    Running s → (∀ b, SetpointSound s.cfg (s.bay b)) → FeedSound s → LineSound s → PlanSound s →
    let l := s.line
    (∀ (pre post : List OutEntry) (e : OutEntry), l.outQueue = pre ++ e :: post → l.sending = none →
      l.state ≠ .detached → (if l.state = .guarded then 20 else 12) ≤ idle →
      (∀ x ∈ pre, e.frame.precedence < x.frame.precedence) → (∀ x ∈ post, e.frame.precedence ≤ x.frame.precedence) →
      ∃ t, exec (.sendStart idle) s = .next t ∧
        t = { s with
          line := { l with outQueue := pre ++ { e with sending := true } :: post, sending := some e.frame }
          free := t.free
          out := { quietOut with
            wire := some ⟨BitVec.ofNat 8 (e.frame.precedence * 16 + s.cfg.station.val), BitVec.ofNat 8 e.frame.kind,
              e.frame.payload s.cfg.station s.free⟩ } }) ∧
    (l.outQueue = [] ∨ l.sending ≠ none ∨ l.state = .detached ∨
        idle < (if l.state = .guarded then 20 else 12) →
      exec (.sendStart idle) s = .next { s with out := quietOut }) ∧
    (∀ f, l.sending = some f →
      let kept : LineController :=
        { l with sending := none, outQueue := l.outQueue.map fun e => { e with sending := false } }
      let sent : LineController := { l with sending := none, outQueue := l.outQueue.filter fun e => !e.sending }
      let done := counted (l.sendCount - 1) l.recvCount sent
      let more := counted (l.sendCount + 8) l.recvCount kept
      let off : LineController :=
        { kept with sendCount := 255, state := .detached, gaps := some 0, caution := true }
      exec (.sendEnd .lostContention) s = .next { s with line := kept, out := quietOut } ∧
      (∃ t, exec (.sendEnd .good) s = .next t ∧ t = { s with flags := t.flags, line := t.line, out := quietOut } ∧
        Raised (countNotices l done) { s with line := done } t) ∧
      ∀ x ∈ [(SendResult.noAcknowledge, LineError.ack), (.bitError, .bit), (.flagHeard, .bit)],
        (l.sendCount ≤ 247 →
          ∃ t, exec (.sendEnd x.1) s = .next t ∧ t = { s with flags := t.flags, line := t.line, out := quietOut } ∧
            Raised (countNotices l more ++ logNotices l) { s with line := logged x.2 more } t) ∧
        (247 < l.sendCount →
          ∃ t, exec (.sendEnd x.1) s = .next t ∧
            t = { s with
              feed := t.feed, bays := t.bays, plan := t.plan, flags := t.flags, line := t.line, out := t.out } ∧
            ShareFollows { s.feed with detached := true } s t ∧
            Raised (countNotices l off ++ logNotices l) { s with line := logged x.2 off } t)) ∧
    (l.state ≠ .detached → exec (.rejoin n) s = .next { s with out := quietOut }) ∧
    ∀ g, l.gaps = some g →
        (g + n / 12 < 100 →
          exec (.rejoin n) s = .next { s with line := { l with gaps := some (g + n / 12) }, out := quietOut }) ∧
        (100 ≤ g + n / 12 →
          ∃ t, exec (.rejoin n) s = .next t ∧
            t = { s with
              feed := t.feed, bays := t.bays, plan := t.plan, flags := t.flags, line := t.line, out := t.out } ∧
            ShareFollows { s.feed with detached := false } s t ∧
            Raised [.lineState .detached .full 0 0]
              { s with
                line := { l with state := .full, sendCount := 0, recvCount := 0, gaps := none, caution := false } } t)

/-! ### Status (R180, R181) -/

/-- R180, R181, R165: a STATUS ASK is answered with the figures of its page, ten bytes for pages 0 to 3, the five bytes of the
flags for page 4 and none above, and sets the last line error to NO_CHANGE. A STATUS CLEAR clears the flags its mask names,
flag n at bit (n - 1) mod 8 of byte (n - 1) div 8, and with LOG_OVERFLOW the error log, whether or not that flag was set (log
entry 32). The code of the part state on page 0 is log entry 39. -/
def Obligations.StatusIsToldAndCleared : Prop :=
  ∀ (src : Station) (rest : List AskFrame) (s : State), Running s → s.ts.contexts[src] = none →
    (∀ page, s.line.askQueue = ⟨src, .statusAsk page⟩ :: rest →
      ∃ t, exec .statusAsk s = .next t ∧ ∃ figures : List Byte,
        t = { popAsk s with
          line := { (popAsk s).line.post (.statusReply src page figures) with lastError := .noChange }
          out := quietOut, free := t.free } ∧
        (page ≤ 3 → figures.length = 10) ∧ (4 < page → figures = []) ∧
        (page = 4 → figures.length = 5 ∧ ∀ n : Nat, 1 ≤ n → n ≤ 34 →
          ((figures.getD ((n - 1) / 8) 0).getLsbD ((n - 1) % 8) = s.flags.getLsbD (n - 1))) ∧
        (page = 0 → figures = [BitVec.ofNat 8 1, BitVec.ofNat 8 s.line.state.code, BitVec.ofNat 8 s.line.sendCount,
          BitVec.ofNat 8 s.line.recvCount, BitVec.ofNat 8 s.line.errorLog, BitVec.ofNat 8 s.line.lastError.code,
          BitVec.ofNat 8 s.book.records.length, BitVec.ofNat 8 s.boost.converter.name.code,
          BitVec.ofNat 8 (match s.boost.converter.holder with | some h => h.val | none => 255),
          BitVec.ofNat 8 s.feed.peers.length]) ∧
        (page = 1 → field figures 0 3 = s.feed.share % 2 ^ 24 ∧ field figures 3 3 = s.feed.limit % 2 ^ 24 ∧
          field figures 6 2 = s.feed.trim % 2 ^ 16 ∧ field figures 8 1 = s.feed.meter.code ∧
          field figures 9 1 = (allTemplates.filter fun i => s.ts.slots[i].isSome).length) ∧
        (page = 2 → figures = [BitVec.ofNat 8 s.line.asksLost, BitVec.ofNat 8 s.line.peerLost,
          BitVec.ofNat 8 s.line.noticesLost, BitVec.ofNat 8 s.line.sendsDropped, BitVec.ofNat 8 s.asks.dropped,
          BitVec.ofNat 8 s.book.unknownReleases, BitVec.ofNat 8 s.book.commit[0], BitVec.ofNat 8 s.book.commit[1],
          BitVec.ofNat 8 s.book.commit[2], BitVec.ofNat 8 s.book.commit[3]]) ∧
        (page = 3 → field figures 6 4 = s.clock.seconds % 2 ^ 32 ∧
          (s.ts.dayOffset = none → field figures 0 1 = 0 ∧ field figures 1 3 = 2 ^ 24 - 1) ∧
          (∀ o, s.ts.dayOffset = some o → field figures 0 1 = 1 ∧
            (field figures 1 3 : Int) = (s.clock.seconds + o) % 86400 ∧
            (field figures 4 2 : Int) = ((s.clock.seconds + o) / 86400) % 2 ^ 16))) ∧
    (∀ mask : List Byte, s.line.askQueue = ⟨src, .statusClear mask⟩ :: rest →
      let named (n : Nat) : Bool := (mask.getD (n / 8) 0).getLsbD (n % 8)
      ∃ t, exec .statusClear s = .next t ∧
        t = { popAsk s with
          flags := t.flags, out := quietOut
          line := if named 25 = true then { (popAsk s).line with errorLog := 0, overflowReported := false }
            else (popAsk s).line } ∧
        ∀ n < 34, t.flags.getLsbD n = (s.flags.getLsbD n && !named n))
end

