-- ==== Sys2Proof/Laws/State.lean ====
section
/-! SUPPORT. What each plain update of State does to each field, one lemma for a field, true by definition; and what
posting a frame and raising a notice change. -/

namespace Sys2Proof.Machine

/-! ### setBay -/

@[simp] theorem State.setBay_pins (s : State) (b : BayNo) (x : Bay) : (s.setBay b x).pins = s.pins := rfl
@[simp] theorem State.setBay_clock (s : State) (b : BayNo) (x : Bay) : (s.setBay b x).clock = s.clock := rfl
@[simp] theorem State.setBay_part (s : State) (b : BayNo) (x : Bay) : (s.setBay b x).part = s.part := rfl
@[simp] theorem State.setBay_store (s : State) (b : BayNo) (x : Bay) : (s.setBay b x).store = s.store := rfl
@[simp] theorem State.setBay_assembly (s : State) (b : BayNo) (x : Bay) : (s.setBay b x).assembly = s.assembly := rfl
@[simp] theorem State.setBay_cfg (s : State) (b : BayNo) (x : Bay) : (s.setBay b x).cfg = s.cfg := rfl
@[simp] theorem State.setBay_bays (s : State) (b : BayNo) (x : Bay) : (s.setBay b x).bays = s.bays.set b x b.isLt := rfl
@[simp] theorem State.setBay_book (s : State) (b : BayNo) (x : Bay) : (s.setBay b x).book = s.book := rfl
@[simp] theorem State.setBay_asks (s : State) (b : BayNo) (x : Bay) : (s.setBay b x).asks = s.asks := rfl
@[simp] theorem State.setBay_plan (s : State) (b : BayNo) (x : Bay) : (s.setBay b x).plan = s.plan := rfl
@[simp] theorem State.setBay_boost (s : State) (b : BayNo) (x : Bay) : (s.setBay b x).boost = s.boost := rfl
@[simp] theorem State.setBay_feed (s : State) (b : BayNo) (x : Bay) : (s.setBay b x).feed = s.feed := rfl
@[simp] theorem State.setBay_ts (s : State) (b : BayNo) (x : Bay) : (s.setBay b x).ts = s.ts := rfl
@[simp] theorem State.setBay_line (s : State) (b : BayNo) (x : Bay) : (s.setBay b x).line = s.line := rfl
@[simp] theorem State.setBay_flags (s : State) (b : BayNo) (x : Bay) : (s.setBay b x).flags = s.flags := rfl
@[simp] theorem State.setBay_out (s : State) (b : BayNo) (x : Bay) : (s.setBay b x).out = s.out := rfl
@[simp] theorem State.setBay_free (s : State) (b : BayNo) (x : Bay) : (s.setBay b x).free = s.free := rfl
@[simp] theorem State.setBay_pending (s : State) (b : BayNo) (x : Bay) : (s.setBay b x).pending = s.pending := rfl

/-! ### request -/

@[simp] theorem State.request_pins (s : State) : s.request.pins = s.pins := rfl
@[simp] theorem State.request_clock (s : State) : s.request.clock = s.clock := rfl
@[simp] theorem State.request_part (s : State) : s.request.part = s.part := rfl
@[simp] theorem State.request_store (s : State) : s.request.store = s.store := rfl
@[simp] theorem State.request_assembly (s : State) : s.request.assembly = s.assembly := rfl
@[simp] theorem State.request_cfg (s : State) : s.request.cfg = s.cfg := rfl
@[simp] theorem State.request_bays (s : State) : s.request.bays = s.bays := rfl
@[simp] theorem State.request_book (s : State) : s.request.book = s.book := rfl
@[simp] theorem State.request_asks (s : State) : s.request.asks = s.asks := rfl
@[simp] theorem State.request_plan (s : State) : s.request.plan = { s.plan with requested := true } := rfl
@[simp] theorem State.request_boost (s : State) : s.request.boost = s.boost := rfl
@[simp] theorem State.request_feed (s : State) : s.request.feed = s.feed := rfl
@[simp] theorem State.request_ts (s : State) : s.request.ts = s.ts := rfl
@[simp] theorem State.request_line (s : State) : s.request.line = s.line := rfl
@[simp] theorem State.request_flags (s : State) : s.request.flags = s.flags := rfl
@[simp] theorem State.request_out (s : State) : s.request.out = s.out := rfl
@[simp] theorem State.request_free (s : State) : s.request.free = s.free := rfl
@[simp] theorem State.request_pending (s : State) : s.request.pending = s.pending := rfl

/-! ### useFree -/

@[simp] theorem State.useFree_pins (s : State) (n : Nat) : (s.useFree n).pins = s.pins := rfl
@[simp] theorem State.useFree_clock (s : State) (n : Nat) : (s.useFree n).clock = s.clock := rfl
@[simp] theorem State.useFree_part (s : State) (n : Nat) : (s.useFree n).part = s.part := rfl
@[simp] theorem State.useFree_store (s : State) (n : Nat) : (s.useFree n).store = s.store := rfl
@[simp] theorem State.useFree_assembly (s : State) (n : Nat) : (s.useFree n).assembly = s.assembly := rfl
@[simp] theorem State.useFree_cfg (s : State) (n : Nat) : (s.useFree n).cfg = s.cfg := rfl
@[simp] theorem State.useFree_bays (s : State) (n : Nat) : (s.useFree n).bays = s.bays := rfl
@[simp] theorem State.useFree_book (s : State) (n : Nat) : (s.useFree n).book = s.book := rfl
@[simp] theorem State.useFree_asks (s : State) (n : Nat) : (s.useFree n).asks = s.asks := rfl
@[simp] theorem State.useFree_plan (s : State) (n : Nat) : (s.useFree n).plan = s.plan := rfl
@[simp] theorem State.useFree_boost (s : State) (n : Nat) : (s.useFree n).boost = s.boost := rfl
@[simp] theorem State.useFree_feed (s : State) (n : Nat) : (s.useFree n).feed = s.feed := rfl
@[simp] theorem State.useFree_ts (s : State) (n : Nat) : (s.useFree n).ts = s.ts := rfl
@[simp] theorem State.useFree_line (s : State) (n : Nat) : (s.useFree n).line = s.line := rfl
@[simp] theorem State.useFree_flags (s : State) (n : Nat) : (s.useFree n).flags = s.flags := rfl
@[simp] theorem State.useFree_out (s : State) (n : Nat) : (s.useFree n).out = s.out := rfl
@[simp] theorem State.useFree_free (s : State) (n : Nat) : (s.useFree n).free = s.free + n := rfl
@[simp] theorem State.useFree_pending (s : State) (n : Nat) : (s.useFree n).pending = s.pending := rfl

/-! ### quiet -/

@[simp] theorem State.quiet_pins (s : State) : s.quiet.pins = s.pins := rfl
@[simp] theorem State.quiet_clock (s : State) : s.quiet.clock = s.clock := rfl
@[simp] theorem State.quiet_part (s : State) : s.quiet.part = s.part := rfl
@[simp] theorem State.quiet_store (s : State) : s.quiet.store = s.store := rfl
@[simp] theorem State.quiet_assembly (s : State) : s.quiet.assembly = s.assembly := rfl
@[simp] theorem State.quiet_cfg (s : State) : s.quiet.cfg = s.cfg := rfl
@[simp] theorem State.quiet_bays (s : State) : s.quiet.bays = s.bays := rfl
@[simp] theorem State.quiet_book (s : State) : s.quiet.book = s.book := rfl
@[simp] theorem State.quiet_asks (s : State) : s.quiet.asks = s.asks := rfl
@[simp] theorem State.quiet_plan (s : State) : s.quiet.plan = s.plan := rfl
@[simp] theorem State.quiet_boost (s : State) : s.quiet.boost = s.boost := rfl
@[simp] theorem State.quiet_feed (s : State) : s.quiet.feed = s.feed := rfl
@[simp] theorem State.quiet_ts (s : State) : s.quiet.ts = s.ts := rfl
@[simp] theorem State.quiet_line (s : State) : s.quiet.line = s.line := rfl
@[simp] theorem State.quiet_flags (s : State) : s.quiet.flags = s.flags := rfl
@[simp] theorem State.quiet_out (s : State) : s.quiet.out = .quiet := rfl
@[simp] theorem State.quiet_free (s : State) : s.quiet.free = s.free := rfl
@[simp] theorem State.quiet_pending (s : State) : s.quiet.pending = s.pending := rfl

/-! ### updateRecord -/

@[simp] theorem State.updateRecord_pins (s : State) (id : Nat) (f : Reservation → Reservation) : (s.updateRecord id f).pins = s.pins := rfl
@[simp] theorem State.updateRecord_clock (s : State) (id : Nat) (f : Reservation → Reservation) : (s.updateRecord id f).clock = s.clock := rfl
@[simp] theorem State.updateRecord_part (s : State) (id : Nat) (f : Reservation → Reservation) : (s.updateRecord id f).part = s.part := rfl
@[simp] theorem State.updateRecord_store (s : State) (id : Nat) (f : Reservation → Reservation) : (s.updateRecord id f).store = s.store := rfl
@[simp] theorem State.updateRecord_assembly (s : State) (id : Nat) (f : Reservation → Reservation) : (s.updateRecord id f).assembly = s.assembly := rfl
@[simp] theorem State.updateRecord_cfg (s : State) (id : Nat) (f : Reservation → Reservation) : (s.updateRecord id f).cfg = s.cfg := rfl
@[simp] theorem State.updateRecord_bays (s : State) (id : Nat) (f : Reservation → Reservation) : (s.updateRecord id f).bays = s.bays := rfl
@[simp] theorem State.updateRecord_book (s : State) (id : Nat) (f : Reservation → Reservation) : (s.updateRecord id f).book = { s.book with records := s.book.records.map fun r => if r.id == id then f r else r } := rfl
@[simp] theorem State.updateRecord_asks (s : State) (id : Nat) (f : Reservation → Reservation) : (s.updateRecord id f).asks = s.asks := rfl
@[simp] theorem State.updateRecord_plan (s : State) (id : Nat) (f : Reservation → Reservation) : (s.updateRecord id f).plan = s.plan := rfl
@[simp] theorem State.updateRecord_boost (s : State) (id : Nat) (f : Reservation → Reservation) : (s.updateRecord id f).boost = s.boost := rfl
@[simp] theorem State.updateRecord_feed (s : State) (id : Nat) (f : Reservation → Reservation) : (s.updateRecord id f).feed = s.feed := rfl
@[simp] theorem State.updateRecord_ts (s : State) (id : Nat) (f : Reservation → Reservation) : (s.updateRecord id f).ts = s.ts := rfl
@[simp] theorem State.updateRecord_line (s : State) (id : Nat) (f : Reservation → Reservation) : (s.updateRecord id f).line = s.line := rfl
@[simp] theorem State.updateRecord_flags (s : State) (id : Nat) (f : Reservation → Reservation) : (s.updateRecord id f).flags = s.flags := rfl
@[simp] theorem State.updateRecord_out (s : State) (id : Nat) (f : Reservation → Reservation) : (s.updateRecord id f).out = s.out := rfl
@[simp] theorem State.updateRecord_free (s : State) (id : Nat) (f : Reservation → Reservation) : (s.updateRecord id f).free = s.free := rfl
@[simp] theorem State.updateRecord_pending (s : State) (id : Nat) (f : Reservation → Reservation) : (s.updateRecord id f).pending = s.pending := rfl

/-! ### setSlot -/

@[simp] theorem State.setSlot_pins (s : State) (i : SlotNo) (x : Option Slot) : (s.setSlot i x).pins = s.pins := rfl
@[simp] theorem State.setSlot_clock (s : State) (i : SlotNo) (x : Option Slot) : (s.setSlot i x).clock = s.clock := rfl
@[simp] theorem State.setSlot_part (s : State) (i : SlotNo) (x : Option Slot) : (s.setSlot i x).part = s.part := rfl
@[simp] theorem State.setSlot_store (s : State) (i : SlotNo) (x : Option Slot) : (s.setSlot i x).store = s.store := rfl
@[simp] theorem State.setSlot_assembly (s : State) (i : SlotNo) (x : Option Slot) : (s.setSlot i x).assembly = s.assembly := rfl
@[simp] theorem State.setSlot_cfg (s : State) (i : SlotNo) (x : Option Slot) : (s.setSlot i x).cfg = s.cfg := rfl
@[simp] theorem State.setSlot_bays (s : State) (i : SlotNo) (x : Option Slot) : (s.setSlot i x).bays = s.bays := rfl
@[simp] theorem State.setSlot_book (s : State) (i : SlotNo) (x : Option Slot) : (s.setSlot i x).book = s.book := rfl
@[simp] theorem State.setSlot_asks (s : State) (i : SlotNo) (x : Option Slot) : (s.setSlot i x).asks = { s.asks with slots := s.asks.slots.set i x i.isLt } := rfl
@[simp] theorem State.setSlot_plan (s : State) (i : SlotNo) (x : Option Slot) : (s.setSlot i x).plan = s.plan := rfl
@[simp] theorem State.setSlot_boost (s : State) (i : SlotNo) (x : Option Slot) : (s.setSlot i x).boost = s.boost := rfl
@[simp] theorem State.setSlot_feed (s : State) (i : SlotNo) (x : Option Slot) : (s.setSlot i x).feed = s.feed := rfl
@[simp] theorem State.setSlot_ts (s : State) (i : SlotNo) (x : Option Slot) : (s.setSlot i x).ts = s.ts := rfl
@[simp] theorem State.setSlot_line (s : State) (i : SlotNo) (x : Option Slot) : (s.setSlot i x).line = s.line := rfl
@[simp] theorem State.setSlot_flags (s : State) (i : SlotNo) (x : Option Slot) : (s.setSlot i x).flags = s.flags := rfl
@[simp] theorem State.setSlot_out (s : State) (i : SlotNo) (x : Option Slot) : (s.setSlot i x).out = s.out := rfl
@[simp] theorem State.setSlot_free (s : State) (i : SlotNo) (x : Option Slot) : (s.setSlot i x).free = s.free := rfl
@[simp] theorem State.setSlot_pending (s : State) (i : SlotNo) (x : Option Slot) : (s.setSlot i x).pending = s.pending := rfl

/-! ### setTemplate -/

@[simp] theorem State.setTemplate_pins (s : State) (t : TemplateNo) (x : Option Template) : (s.setTemplate t x).pins = s.pins := rfl
@[simp] theorem State.setTemplate_clock (s : State) (t : TemplateNo) (x : Option Template) : (s.setTemplate t x).clock = s.clock := rfl
@[simp] theorem State.setTemplate_part (s : State) (t : TemplateNo) (x : Option Template) : (s.setTemplate t x).part = s.part := rfl
@[simp] theorem State.setTemplate_store (s : State) (t : TemplateNo) (x : Option Template) : (s.setTemplate t x).store = s.store := rfl
@[simp] theorem State.setTemplate_assembly (s : State) (t : TemplateNo) (x : Option Template) : (s.setTemplate t x).assembly = s.assembly := rfl
@[simp] theorem State.setTemplate_cfg (s : State) (t : TemplateNo) (x : Option Template) : (s.setTemplate t x).cfg = s.cfg := rfl
@[simp] theorem State.setTemplate_bays (s : State) (t : TemplateNo) (x : Option Template) : (s.setTemplate t x).bays = s.bays := rfl
@[simp] theorem State.setTemplate_book (s : State) (t : TemplateNo) (x : Option Template) : (s.setTemplate t x).book = s.book := rfl
@[simp] theorem State.setTemplate_asks (s : State) (t : TemplateNo) (x : Option Template) : (s.setTemplate t x).asks = s.asks := rfl
@[simp] theorem State.setTemplate_plan (s : State) (t : TemplateNo) (x : Option Template) : (s.setTemplate t x).plan = s.plan := rfl
@[simp] theorem State.setTemplate_boost (s : State) (t : TemplateNo) (x : Option Template) : (s.setTemplate t x).boost = s.boost := rfl
@[simp] theorem State.setTemplate_feed (s : State) (t : TemplateNo) (x : Option Template) : (s.setTemplate t x).feed = s.feed := rfl
@[simp] theorem State.setTemplate_ts (s : State) (t : TemplateNo) (x : Option Template) : (s.setTemplate t x).ts = { s.ts with slots := s.ts.slots.set t x t.isLt } := rfl
@[simp] theorem State.setTemplate_line (s : State) (t : TemplateNo) (x : Option Template) : (s.setTemplate t x).line = s.line := rfl
@[simp] theorem State.setTemplate_flags (s : State) (t : TemplateNo) (x : Option Template) : (s.setTemplate t x).flags = s.flags := rfl
@[simp] theorem State.setTemplate_out (s : State) (t : TemplateNo) (x : Option Template) : (s.setTemplate t x).out = s.out := rfl
@[simp] theorem State.setTemplate_free (s : State) (t : TemplateNo) (x : Option Template) : (s.setTemplate t x).free = s.free := rfl
@[simp] theorem State.setTemplate_pending (s : State) (t : TemplateNo) (x : Option Template) : (s.setTemplate t x).pending = s.pending := rfl

/-! ### setContext -/

@[simp] theorem State.setContext_pins (s : State) (st : Station) (x : Option Context) : (s.setContext st x).pins = s.pins := rfl
@[simp] theorem State.setContext_clock (s : State) (st : Station) (x : Option Context) : (s.setContext st x).clock = s.clock := rfl
@[simp] theorem State.setContext_part (s : State) (st : Station) (x : Option Context) : (s.setContext st x).part = s.part := rfl
@[simp] theorem State.setContext_store (s : State) (st : Station) (x : Option Context) : (s.setContext st x).store = s.store := rfl
@[simp] theorem State.setContext_assembly (s : State) (st : Station) (x : Option Context) : (s.setContext st x).assembly = s.assembly := rfl
@[simp] theorem State.setContext_cfg (s : State) (st : Station) (x : Option Context) : (s.setContext st x).cfg = s.cfg := rfl
@[simp] theorem State.setContext_bays (s : State) (st : Station) (x : Option Context) : (s.setContext st x).bays = s.bays := rfl
@[simp] theorem State.setContext_book (s : State) (st : Station) (x : Option Context) : (s.setContext st x).book = s.book := rfl
@[simp] theorem State.setContext_asks (s : State) (st : Station) (x : Option Context) : (s.setContext st x).asks = s.asks := rfl
@[simp] theorem State.setContext_plan (s : State) (st : Station) (x : Option Context) : (s.setContext st x).plan = s.plan := rfl
@[simp] theorem State.setContext_boost (s : State) (st : Station) (x : Option Context) : (s.setContext st x).boost = s.boost := rfl
@[simp] theorem State.setContext_feed (s : State) (st : Station) (x : Option Context) : (s.setContext st x).feed = s.feed := rfl
@[simp] theorem State.setContext_ts (s : State) (st : Station) (x : Option Context) : (s.setContext st x).ts = { s.ts with contexts := s.ts.contexts.set st x st.isLt } := rfl
@[simp] theorem State.setContext_line (s : State) (st : Station) (x : Option Context) : (s.setContext st x).line = s.line := rfl
@[simp] theorem State.setContext_flags (s : State) (st : Station) (x : Option Context) : (s.setContext st x).flags = s.flags := rfl
@[simp] theorem State.setContext_out (s : State) (st : Station) (x : Option Context) : (s.setContext st x).out = s.out := rfl
@[simp] theorem State.setContext_free (s : State) (st : Station) (x : Option Context) : (s.setContext st x).free = s.free := rfl
@[simp] theorem State.setContext_pending (s : State) (st : Station) (x : Option Context) : (s.setContext st x).pending = s.pending := rfl

/-! ### Reading a bay record after an update -/

@[simp] theorem State.setBay_bay (s : State) (b d : BayNo) (x : Bay) :
    (s.setBay b x).bay d = if b = d then x else s.bay d := by
  simp only [State.bay, State.setBay, Fin.getElem_fin, Vector.getElem_set, Fin.ext_iff]

theorem State.setBay_bay_self (s : State) (b : BayNo) (x : Bay) : (s.setBay b x).bay b = x := by simp

theorem State.setBay_bay_of_ne (s : State) {b d : BayNo} (x : Bay) (h : d ≠ b) : (s.setBay b x).bay d = s.bay d := by
  simp [h.symm]

@[simp] theorem State.request_bay (s : State) (d : BayNo) : s.request.bay d = s.bay d := rfl
@[simp] theorem State.useFree_bay (s : State) (n : Nat) (d : BayNo) : (s.useFree n).bay d = s.bay d := rfl
@[simp] theorem State.quiet_bay (s : State) (d : BayNo) : s.quiet.bay d = s.bay d := rfl
@[simp] theorem State.updateRecord_bay (s : State) (id : Nat) (f : Reservation → Reservation) (d : BayNo) : (s.updateRecord id f).bay d = s.bay d := rfl
@[simp] theorem State.setSlot_bay (s : State) (i : SlotNo) (x : Option Slot) (d : BayNo) : (s.setSlot i x).bay d = s.bay d := rfl
@[simp] theorem State.setTemplate_bay (s : State) (t : TemplateNo) (x : Option Template) (d : BayNo) : (s.setTemplate t x).bay d = s.bay d := rfl
@[simp] theorem State.setContext_bay (s : State) (st : Station) (x : Option Context) (d : BayNo) : (s.setContext st x).bay d = s.bay d := rfl

/-- Two bay tables that agree at every bay are equal. -/
theorem bays_ext {v w : Vector Bay 12} (h : ∀ b : BayNo, v[b] = w[b]) : v = w := by
  ext i hi
  exact h ⟨i, hi⟩

/-- Writing back the record a bay holds changes nothing. -/
theorem State.setBay_same (s : State) (b : BayNo) : s.setBay b (s.bay b) = s := by
  simp [State.setBay, State.bay]

/-- Two states with the same fields are equal. -/
theorem State.eq_of_fields {s t : State} (h1 : s.pins = t.pins) (h2 : s.clock = t.clock) (h3 : s.part = t.part)
    (h4 : s.store = t.store) (h5 : s.assembly = t.assembly) (h6 : s.cfg = t.cfg) (h7 : s.bays = t.bays)
    (h8 : s.book = t.book) (h9 : s.asks = t.asks) (h10 : s.plan = t.plan) (h11 : s.boost = t.boost)
    (h12 : s.feed = t.feed) (h13 : s.ts = t.ts) (h14 : s.line = t.line) (h15 : s.flags = t.flags)
    (h16 : s.out = t.out) (h17 : s.free = t.free) (h18 : s.pending = t.pending) : s = t := by
  cases s; cases t; simp_all

/-! ### Posting and raising -/

@[simp] theorem State.post_pins (s : State) (f : OutFrame) : (s.post f).pins = s.pins := by
  unfold State.post; split <;> rfl
@[simp] theorem State.post_clock (s : State) (f : OutFrame) : (s.post f).clock = s.clock := by
  unfold State.post; split <;> rfl
@[simp] theorem State.post_part (s : State) (f : OutFrame) : (s.post f).part = s.part := by
  unfold State.post; split <;> rfl
@[simp] theorem State.post_store (s : State) (f : OutFrame) : (s.post f).store = s.store := by
  unfold State.post; split <;> rfl
@[simp] theorem State.post_assembly (s : State) (f : OutFrame) : (s.post f).assembly = s.assembly := by
  unfold State.post; split <;> rfl
@[simp] theorem State.post_cfg (s : State) (f : OutFrame) : (s.post f).cfg = s.cfg := by
  unfold State.post; split <;> rfl
@[simp] theorem State.post_bays (s : State) (f : OutFrame) : (s.post f).bays = s.bays := by
  unfold State.post; split <;> rfl
@[simp] theorem State.post_book (s : State) (f : OutFrame) : (s.post f).book = s.book := by
  unfold State.post; split <;> rfl
@[simp] theorem State.post_asks (s : State) (f : OutFrame) : (s.post f).asks = s.asks := by
  unfold State.post; split <;> rfl
@[simp] theorem State.post_plan (s : State) (f : OutFrame) : (s.post f).plan = s.plan := by
  unfold State.post; split <;> rfl
@[simp] theorem State.post_boost (s : State) (f : OutFrame) : (s.post f).boost = s.boost := by
  unfold State.post; split <;> rfl
@[simp] theorem State.post_feed (s : State) (f : OutFrame) : (s.post f).feed = s.feed := by
  unfold State.post; split <;> rfl
@[simp] theorem State.post_ts (s : State) (f : OutFrame) : (s.post f).ts = s.ts := by
  unfold State.post; split <;> rfl
@[simp] theorem State.post_flags (s : State) (f : OutFrame) : (s.post f).flags = s.flags := by
  unfold State.post; split <;> rfl
@[simp] theorem State.post_out (s : State) (f : OutFrame) : (s.post f).out = s.out := by
  unfold State.post; split <;> rfl
@[simp] theorem State.post_free (s : State) (f : OutFrame) : (s.post f).free = s.free := by
  unfold State.post; split <;> rfl
@[simp] theorem State.post_pending (s : State) (f : OutFrame) : (s.post f).pending = s.pending := by
  unfold State.post; split <;> rfl
@[simp] theorem State.post_bay (s : State) (f : OutFrame) (d : BayNo) : (s.post f).bay d = s.bay d := by
  simp [State.bay]

@[simp] theorem State.raise_pins (s : State) (n : Notice) : (s.raise n).pins = s.pins := by
  unfold State.raise; dsimp only; split <;> simp
@[simp] theorem State.raise_clock (s : State) (n : Notice) : (s.raise n).clock = s.clock := by
  unfold State.raise; dsimp only; split <;> simp
@[simp] theorem State.raise_part (s : State) (n : Notice) : (s.raise n).part = s.part := by
  unfold State.raise; dsimp only; split <;> simp
@[simp] theorem State.raise_store (s : State) (n : Notice) : (s.raise n).store = s.store := by
  unfold State.raise; dsimp only; split <;> simp
@[simp] theorem State.raise_assembly (s : State) (n : Notice) : (s.raise n).assembly = s.assembly := by
  unfold State.raise; dsimp only; split <;> simp
@[simp] theorem State.raise_cfg (s : State) (n : Notice) : (s.raise n).cfg = s.cfg := by
  unfold State.raise; dsimp only; split <;> simp
@[simp] theorem State.raise_bays (s : State) (n : Notice) : (s.raise n).bays = s.bays := by
  unfold State.raise; dsimp only; split <;> simp
@[simp] theorem State.raise_book (s : State) (n : Notice) : (s.raise n).book = s.book := by
  unfold State.raise; dsimp only; split <;> simp
@[simp] theorem State.raise_asks (s : State) (n : Notice) : (s.raise n).asks = s.asks := by
  unfold State.raise; dsimp only; split <;> simp
@[simp] theorem State.raise_plan (s : State) (n : Notice) : (s.raise n).plan = s.plan := by
  unfold State.raise; dsimp only; split <;> simp
@[simp] theorem State.raise_boost (s : State) (n : Notice) : (s.raise n).boost = s.boost := by
  unfold State.raise; dsimp only; split <;> simp
@[simp] theorem State.raise_feed (s : State) (n : Notice) : (s.raise n).feed = s.feed := by
  unfold State.raise; dsimp only; split <;> simp
@[simp] theorem State.raise_ts (s : State) (n : Notice) : (s.raise n).ts = s.ts := by
  unfold State.raise; dsimp only; split <;> simp
@[simp] theorem State.raise_out (s : State) (n : Notice) : (s.raise n).out = s.out := by
  unfold State.raise; dsimp only; split <;> simp
@[simp] theorem State.raise_free (s : State) (n : Notice) : (s.raise n).free = s.free := by
  unfold State.raise; dsimp only; split <;> simp
@[simp] theorem State.raise_pending (s : State) (n : Notice) : (s.raise n).pending = s.pending := by
  unfold State.raise; dsimp only; split <;> simp
@[simp] theorem State.raise_bay (s : State) (n : Notice) (d : BayNo) : (s.raise n).bay d = s.bay d := by
  simp [State.bay]

@[simp] theorem State.raise_flags (s : State) (n : Notice) : (s.raise n).flags = setFlag n.code s.flags := by
  unfold State.raise; dsimp only; split <;> simp

/-! ### A write of the store cut short (R174) -/

@[simp] theorem State.cutWrite_part (s : State) : s.cutWrite.part = .unset := rfl
@[simp] theorem State.cutWrite_pins (s : State) :
    s.cutWrite.pins = { s.pins with restart := true, select := true } := rfl
@[simp] theorem State.cutWrite_pending (s : State) : s.cutWrite.pending = s.pending := rfl
@[simp] theorem State.cutWrite_valid (s : State) : s.cutWrite.store.valid = false := rfl

/-- All that a write cut short leaves of a state: its restart values, with RESTART asserted and a store not valid. -/
theorem State.cutWrite_eq (s : State) :
    s.cutWrite =
      { State.reset with
        store := s.cutWrite.store, pins := { s.pins with restart := true, select := true }, free := s.free + 44
        pending := s.pending } := rfl

end Sys2Proof.Machine
end

