-- ==== Sys2Proof/Laws/Bays.lean ====
section
/-! SUPPORT. What the operations of the Boost Arbiter and the Bay Table can change: the fields each leaves alone, and the
bay record, arbiter and pass request each leaves behind; and the lock of a bay that changes state. -/

namespace Sys2Proof.Machine

/-! ### The end of a grant and a grant (R102, R111, R112) -/

@[simp] theorem State.setBoost_pins (s : State) (b : BayNo) (v : Bool) : (s.setBoost b v).pins = s.pins := by
  rfl
@[simp] theorem State.setBoost_clock (s : State) (b : BayNo) (v : Bool) : (s.setBoost b v).clock = s.clock := by
  rfl
@[simp] theorem State.setBoost_part (s : State) (b : BayNo) (v : Bool) : (s.setBoost b v).part = s.part := by
  rfl
@[simp] theorem State.setBoost_store (s : State) (b : BayNo) (v : Bool) : (s.setBoost b v).store = s.store := by
  rfl
@[simp] theorem State.setBoost_assembly (s : State) (b : BayNo) (v : Bool) : (s.setBoost b v).assembly = s.assembly := by
  rfl
@[simp] theorem State.setBoost_cfg (s : State) (b : BayNo) (v : Bool) : (s.setBoost b v).cfg = s.cfg := by
  rfl
@[simp] theorem State.setBoost_book (s : State) (b : BayNo) (v : Bool) : (s.setBoost b v).book = s.book := by
  rfl
@[simp] theorem State.setBoost_asks (s : State) (b : BayNo) (v : Bool) : (s.setBoost b v).asks = s.asks := by
  rfl
@[simp] theorem State.setBoost_plan (s : State) (b : BayNo) (v : Bool) : (s.setBoost b v).plan = s.plan := by
  rfl
@[simp] theorem State.setBoost_boost (s : State) (b : BayNo) (v : Bool) : (s.setBoost b v).boost = s.boost := by
  rfl
@[simp] theorem State.setBoost_feed (s : State) (b : BayNo) (v : Bool) : (s.setBoost b v).feed = s.feed := by
  rfl
@[simp] theorem State.setBoost_ts (s : State) (b : BayNo) (v : Bool) : (s.setBoost b v).ts = s.ts := by
  rfl
@[simp] theorem State.setBoost_line (s : State) (b : BayNo) (v : Bool) : (s.setBoost b v).line = s.line := by
  rfl
@[simp] theorem State.setBoost_flags (s : State) (b : BayNo) (v : Bool) : (s.setBoost b v).flags = s.flags := by
  rfl
@[simp] theorem State.setBoost_out (s : State) (b : BayNo) (v : Bool) : (s.setBoost b v).out = s.out := by
  rfl
@[simp] theorem State.setBoost_free (s : State) (b : BayNo) (v : Bool) : (s.setBoost b v).free = s.free := by
  rfl
@[simp] theorem State.setBoost_pending (s : State) (b : BayNo) (v : Bool) : (s.setBoost b v).pending = s.pending := by
  rfl
@[simp] theorem State.clampBoostEnd_pins (s : State) (b : BayNo) : (s.clampBoostEnd b).pins = s.pins := by
  rfl
@[simp] theorem State.clampBoostEnd_clock (s : State) (b : BayNo) : (s.clampBoostEnd b).clock = s.clock := by
  rfl
@[simp] theorem State.clampBoostEnd_part (s : State) (b : BayNo) : (s.clampBoostEnd b).part = s.part := by
  rfl
@[simp] theorem State.clampBoostEnd_store (s : State) (b : BayNo) : (s.clampBoostEnd b).store = s.store := by
  rfl
@[simp] theorem State.clampBoostEnd_assembly (s : State) (b : BayNo) : (s.clampBoostEnd b).assembly = s.assembly := by
  rfl
@[simp] theorem State.clampBoostEnd_cfg (s : State) (b : BayNo) : (s.clampBoostEnd b).cfg = s.cfg := by
  rfl
@[simp] theorem State.clampBoostEnd_book (s : State) (b : BayNo) : (s.clampBoostEnd b).book = s.book := by
  rfl
@[simp] theorem State.clampBoostEnd_asks (s : State) (b : BayNo) : (s.clampBoostEnd b).asks = s.asks := by
  rfl
@[simp] theorem State.clampBoostEnd_plan (s : State) (b : BayNo) : (s.clampBoostEnd b).plan = s.plan := by
  rfl
@[simp] theorem State.clampBoostEnd_boost (s : State) (b : BayNo) : (s.clampBoostEnd b).boost = s.boost := by
  rfl
@[simp] theorem State.clampBoostEnd_feed (s : State) (b : BayNo) : (s.clampBoostEnd b).feed = s.feed := by
  rfl
@[simp] theorem State.clampBoostEnd_ts (s : State) (b : BayNo) : (s.clampBoostEnd b).ts = s.ts := by
  rfl
@[simp] theorem State.clampBoostEnd_line (s : State) (b : BayNo) : (s.clampBoostEnd b).line = s.line := by
  rfl
@[simp] theorem State.clampBoostEnd_flags (s : State) (b : BayNo) : (s.clampBoostEnd b).flags = s.flags := by
  rfl
@[simp] theorem State.clampBoostEnd_out (s : State) (b : BayNo) : (s.clampBoostEnd b).out = s.out := by
  rfl
@[simp] theorem State.clampBoostEnd_free (s : State) (b : BayNo) : (s.clampBoostEnd b).free = s.free := by
  rfl
@[simp] theorem State.clampBoostEnd_pending (s : State) (b : BayNo) : (s.clampBoostEnd b).pending = s.pending := by
  rfl
@[simp] theorem State.endGrant_pins (s : State) (c : Converter) : (s.endGrant c).pins = s.pins := by
  unfold State.endGrant; split <;> simp
@[simp] theorem State.endGrant_clock (s : State) (c : Converter) : (s.endGrant c).clock = s.clock := by
  unfold State.endGrant; split <;> simp
@[simp] theorem State.endGrant_part (s : State) (c : Converter) : (s.endGrant c).part = s.part := by
  unfold State.endGrant; split <;> simp
@[simp] theorem State.endGrant_store (s : State) (c : Converter) : (s.endGrant c).store = s.store := by
  unfold State.endGrant; split <;> simp
@[simp] theorem State.endGrant_assembly (s : State) (c : Converter) : (s.endGrant c).assembly = s.assembly := by
  unfold State.endGrant; split <;> simp
@[simp] theorem State.endGrant_cfg (s : State) (c : Converter) : (s.endGrant c).cfg = s.cfg := by
  unfold State.endGrant; split <;> simp
@[simp] theorem State.endGrant_book (s : State) (c : Converter) : (s.endGrant c).book = s.book := by
  unfold State.endGrant; split <;> simp
@[simp] theorem State.endGrant_asks (s : State) (c : Converter) : (s.endGrant c).asks = s.asks := by
  unfold State.endGrant; split <;> simp
@[simp] theorem State.endGrant_feed (s : State) (c : Converter) : (s.endGrant c).feed = s.feed := by
  unfold State.endGrant; split <;> simp
@[simp] theorem State.endGrant_ts (s : State) (c : Converter) : (s.endGrant c).ts = s.ts := by
  unfold State.endGrant; split <;> simp
@[simp] theorem State.endGrant_line (s : State) (c : Converter) : (s.endGrant c).line = s.line := by
  unfold State.endGrant; split <;> simp
@[simp] theorem State.endGrant_flags (s : State) (c : Converter) : (s.endGrant c).flags = s.flags := by
  unfold State.endGrant; split <;> simp
@[simp] theorem State.endGrant_out (s : State) (c : Converter) : (s.endGrant c).out = s.out := by
  unfold State.endGrant; split <;> simp
@[simp] theorem State.endGrant_free (s : State) (c : Converter) : (s.endGrant c).free = s.free := by
  unfold State.endGrant; split <;> simp
@[simp] theorem State.endGrant_pending (s : State) (c : Converter) : (s.endGrant c).pending = s.pending := by
  unfold State.endGrant; split <;> simp
@[simp] theorem State.grant_pins (s : State) (b : BayNo) : (s.grant b).pins = s.pins := by
  simp [State.grant]
@[simp] theorem State.grant_clock (s : State) (b : BayNo) : (s.grant b).clock = s.clock := by
  simp [State.grant]
@[simp] theorem State.grant_part (s : State) (b : BayNo) : (s.grant b).part = s.part := by
  simp [State.grant]
@[simp] theorem State.grant_store (s : State) (b : BayNo) : (s.grant b).store = s.store := by
  simp [State.grant]
@[simp] theorem State.grant_assembly (s : State) (b : BayNo) : (s.grant b).assembly = s.assembly := by
  simp [State.grant]
@[simp] theorem State.grant_cfg (s : State) (b : BayNo) : (s.grant b).cfg = s.cfg := by
  simp [State.grant]
@[simp] theorem State.grant_book (s : State) (b : BayNo) : (s.grant b).book = s.book := by
  simp [State.grant]
@[simp] theorem State.grant_asks (s : State) (b : BayNo) : (s.grant b).asks = s.asks := by
  simp [State.grant]
@[simp] theorem State.grant_feed (s : State) (b : BayNo) : (s.grant b).feed = s.feed := by
  simp [State.grant]
@[simp] theorem State.grant_ts (s : State) (b : BayNo) : (s.grant b).ts = s.ts := by
  simp [State.grant]
@[simp] theorem State.grant_line (s : State) (b : BayNo) : (s.grant b).line = s.line := by
  simp [State.grant]
@[simp] theorem State.grant_flags (s : State) (b : BayNo) : (s.grant b).flags = s.flags := by
  simp [State.grant]
@[simp] theorem State.grant_out (s : State) (b : BayNo) : (s.grant b).out = s.out := by
  simp [State.grant]
@[simp] theorem State.grant_free (s : State) (b : BayNo) : (s.grant b).free = s.free := by
  simp [State.grant]
@[simp] theorem State.grant_pending (s : State) (b : BayNo) : (s.grant b).pending = s.pending := by
  simp [State.grant]
@[simp] theorem State.bayChanged_pins (s : State) (b : BayNo) (n : BayState) : (s.bayChanged b n).pins = s.pins := by
  unfold State.bayChanged; dsimp only; split <;> simp
@[simp] theorem State.bayChanged_clock (s : State) (b : BayNo) (n : BayState) : (s.bayChanged b n).clock = s.clock := by
  unfold State.bayChanged; dsimp only; split <;> simp
@[simp] theorem State.bayChanged_part (s : State) (b : BayNo) (n : BayState) : (s.bayChanged b n).part = s.part := by
  unfold State.bayChanged; dsimp only; split <;> simp
@[simp] theorem State.bayChanged_store (s : State) (b : BayNo) (n : BayState) : (s.bayChanged b n).store = s.store := by
  unfold State.bayChanged; dsimp only; split <;> simp
@[simp] theorem State.bayChanged_assembly (s : State) (b : BayNo) (n : BayState) : (s.bayChanged b n).assembly = s.assembly := by
  unfold State.bayChanged; dsimp only; split <;> simp
@[simp] theorem State.bayChanged_cfg (s : State) (b : BayNo) (n : BayState) : (s.bayChanged b n).cfg = s.cfg := by
  unfold State.bayChanged; dsimp only; split <;> simp
@[simp] theorem State.bayChanged_book (s : State) (b : BayNo) (n : BayState) : (s.bayChanged b n).book = s.book := by
  unfold State.bayChanged; dsimp only; split <;> simp
@[simp] theorem State.bayChanged_asks (s : State) (b : BayNo) (n : BayState) : (s.bayChanged b n).asks = s.asks := by
  unfold State.bayChanged; dsimp only; split <;> simp
@[simp] theorem State.bayChanged_feed (s : State) (b : BayNo) (n : BayState) : (s.bayChanged b n).feed = s.feed := by
  unfold State.bayChanged; dsimp only; split <;> simp
@[simp] theorem State.bayChanged_ts (s : State) (b : BayNo) (n : BayState) : (s.bayChanged b n).ts = s.ts := by
  unfold State.bayChanged; dsimp only; split <;> simp
@[simp] theorem State.bayChanged_line (s : State) (b : BayNo) (n : BayState) : (s.bayChanged b n).line = s.line := by
  unfold State.bayChanged; dsimp only; split <;> simp
@[simp] theorem State.bayChanged_flags (s : State) (b : BayNo) (n : BayState) : (s.bayChanged b n).flags = s.flags := by
  unfold State.bayChanged; dsimp only; split <;> simp
@[simp] theorem State.bayChanged_out (s : State) (b : BayNo) (n : BayState) : (s.bayChanged b n).out = s.out := by
  unfold State.bayChanged; dsimp only; split <;> simp
@[simp] theorem State.bayChanged_free (s : State) (b : BayNo) (n : BayState) : (s.bayChanged b n).free = s.free := by
  unfold State.bayChanged; dsimp only; split <;> simp
@[simp] theorem State.bayChanged_pending (s : State) (b : BayNo) (n : BayState) : (s.bayChanged b n).pending = s.pending := by
  unfold State.bayChanged; dsimp only; split <;> simp
@[simp] theorem State.decideGrant_pins (s : State) : (s.decideGrant).pins = s.pins := by
  unfold State.decideGrant; split <;> simp
@[simp] theorem State.decideGrant_clock (s : State) : (s.decideGrant).clock = s.clock := by
  unfold State.decideGrant; split <;> simp
@[simp] theorem State.decideGrant_part (s : State) : (s.decideGrant).part = s.part := by
  unfold State.decideGrant; split <;> simp
@[simp] theorem State.decideGrant_store (s : State) : (s.decideGrant).store = s.store := by
  unfold State.decideGrant; split <;> simp
@[simp] theorem State.decideGrant_assembly (s : State) : (s.decideGrant).assembly = s.assembly := by
  unfold State.decideGrant; split <;> simp
@[simp] theorem State.decideGrant_cfg (s : State) : (s.decideGrant).cfg = s.cfg := by
  unfold State.decideGrant; split <;> simp
@[simp] theorem State.decideGrant_book (s : State) : (s.decideGrant).book = s.book := by
  unfold State.decideGrant; split <;> simp
@[simp] theorem State.decideGrant_asks (s : State) : (s.decideGrant).asks = s.asks := by
  unfold State.decideGrant; split <;> simp
@[simp] theorem State.decideGrant_feed (s : State) : (s.decideGrant).feed = s.feed := by
  unfold State.decideGrant; split <;> simp
@[simp] theorem State.decideGrant_ts (s : State) : (s.decideGrant).ts = s.ts := by
  unfold State.decideGrant; split <;> simp
@[simp] theorem State.decideGrant_line (s : State) : (s.decideGrant).line = s.line := by
  unfold State.decideGrant; split <;> simp
@[simp] theorem State.decideGrant_flags (s : State) : (s.decideGrant).flags = s.flags := by
  unfold State.decideGrant; split <;> simp
@[simp] theorem State.decideGrant_out (s : State) : (s.decideGrant).out = s.out := by
  unfold State.decideGrant; split <;> simp
@[simp] theorem State.decideGrant_free (s : State) : (s.decideGrant).free = s.free := by
  unfold State.decideGrant; split <;> simp
@[simp] theorem State.decideGrant_pending (s : State) : (s.decideGrant).pending = s.pending := by
  unfold State.decideGrant; split <;> simp
@[simp] theorem State.takeSets_pins (s : State) (h l : List BayNo) : (s.takeSets h l).pins = s.pins := by
  unfold State.takeSets; dsimp only; split <;> (try split) <;> simp
@[simp] theorem State.takeSets_clock (s : State) (h l : List BayNo) : (s.takeSets h l).clock = s.clock := by
  unfold State.takeSets; dsimp only; split <;> (try split) <;> simp
@[simp] theorem State.takeSets_part (s : State) (h l : List BayNo) : (s.takeSets h l).part = s.part := by
  unfold State.takeSets; dsimp only; split <;> (try split) <;> simp
@[simp] theorem State.takeSets_store (s : State) (h l : List BayNo) : (s.takeSets h l).store = s.store := by
  unfold State.takeSets; dsimp only; split <;> (try split) <;> simp
@[simp] theorem State.takeSets_assembly (s : State) (h l : List BayNo) : (s.takeSets h l).assembly = s.assembly := by
  unfold State.takeSets; dsimp only; split <;> (try split) <;> simp
@[simp] theorem State.takeSets_cfg (s : State) (h l : List BayNo) : (s.takeSets h l).cfg = s.cfg := by
  unfold State.takeSets; dsimp only; split <;> (try split) <;> simp
@[simp] theorem State.takeSets_book (s : State) (h l : List BayNo) : (s.takeSets h l).book = s.book := by
  unfold State.takeSets; dsimp only; split <;> (try split) <;> simp
@[simp] theorem State.takeSets_asks (s : State) (h l : List BayNo) : (s.takeSets h l).asks = s.asks := by
  unfold State.takeSets; dsimp only; split <;> (try split) <;> simp
@[simp] theorem State.takeSets_feed (s : State) (h l : List BayNo) : (s.takeSets h l).feed = s.feed := by
  unfold State.takeSets; dsimp only; split <;> (try split) <;> simp
@[simp] theorem State.takeSets_ts (s : State) (h l : List BayNo) : (s.takeSets h l).ts = s.ts := by
  unfold State.takeSets; dsimp only; split <;> (try split) <;> simp
@[simp] theorem State.takeSets_line (s : State) (h l : List BayNo) : (s.takeSets h l).line = s.line := by
  unfold State.takeSets; dsimp only; split <;> (try split) <;> simp
@[simp] theorem State.takeSets_flags (s : State) (h l : List BayNo) : (s.takeSets h l).flags = s.flags := by
  unfold State.takeSets; dsimp only; split <;> (try split) <;> simp
@[simp] theorem State.takeSets_out (s : State) (h l : List BayNo) : (s.takeSets h l).out = s.out := by
  unfold State.takeSets; dsimp only; split <;> (try split) <;> simp
@[simp] theorem State.takeSets_free (s : State) (h l : List BayNo) : (s.takeSets h l).free = s.free := by
  unfold State.takeSets; dsimp only; split <;> (try split) <;> simp
@[simp] theorem State.takeSets_pending (s : State) (h l : List BayNo) : (s.takeSets h l).pending = s.pending := by
  unfold State.takeSets; dsimp only; split <;> (try split) <;> simp
@[simp] theorem State.takeBoostFault_pins (s : State) (b : BayNo) : (s.takeBoostFault b).pins = s.pins := by
  unfold State.takeBoostFault; split <;> (try (dsimp only; split)) <;> simp
@[simp] theorem State.takeBoostFault_clock (s : State) (b : BayNo) : (s.takeBoostFault b).clock = s.clock := by
  unfold State.takeBoostFault; split <;> (try (dsimp only; split)) <;> simp
@[simp] theorem State.takeBoostFault_part (s : State) (b : BayNo) : (s.takeBoostFault b).part = s.part := by
  unfold State.takeBoostFault; split <;> (try (dsimp only; split)) <;> simp
@[simp] theorem State.takeBoostFault_store (s : State) (b : BayNo) : (s.takeBoostFault b).store = s.store := by
  unfold State.takeBoostFault; split <;> (try (dsimp only; split)) <;> simp
@[simp] theorem State.takeBoostFault_assembly (s : State) (b : BayNo) : (s.takeBoostFault b).assembly = s.assembly := by
  unfold State.takeBoostFault; split <;> (try (dsimp only; split)) <;> simp
@[simp] theorem State.takeBoostFault_cfg (s : State) (b : BayNo) : (s.takeBoostFault b).cfg = s.cfg := by
  unfold State.takeBoostFault; split <;> (try (dsimp only; split)) <;> simp
@[simp] theorem State.takeBoostFault_book (s : State) (b : BayNo) : (s.takeBoostFault b).book = s.book := by
  unfold State.takeBoostFault; split <;> (try (dsimp only; split)) <;> simp
@[simp] theorem State.takeBoostFault_asks (s : State) (b : BayNo) : (s.takeBoostFault b).asks = s.asks := by
  unfold State.takeBoostFault; split <;> (try (dsimp only; split)) <;> simp
@[simp] theorem State.takeBoostFault_feed (s : State) (b : BayNo) : (s.takeBoostFault b).feed = s.feed := by
  unfold State.takeBoostFault; split <;> (try (dsimp only; split)) <;> simp
@[simp] theorem State.takeBoostFault_ts (s : State) (b : BayNo) : (s.takeBoostFault b).ts = s.ts := by
  unfold State.takeBoostFault; split <;> (try (dsimp only; split)) <;> simp
@[simp] theorem State.takeBoostFault_out (s : State) (b : BayNo) : (s.takeBoostFault b).out = s.out := by
  unfold State.takeBoostFault; split <;> (try (dsimp only; split)) <;> simp
@[simp] theorem State.takeBoostFault_free (s : State) (b : BayNo) : (s.takeBoostFault b).free = s.free := by
  unfold State.takeBoostFault; split <;> (try (dsimp only; split)) <;> simp
@[simp] theorem State.takeBoostFault_pending (s : State) (b : BayNo) : (s.takeBoostFault b).pending = s.pending := by
  unfold State.takeBoostFault; split <;> (try (dsimp only; split)) <;> simp
@[simp] theorem State.enterBay_pins (s : State) (b : BayNo) (n : BayState) : (s.enterBay b n).pins = s.pins := by
  simp [State.enterBay]
@[simp] theorem State.enterBay_clock (s : State) (b : BayNo) (n : BayState) : (s.enterBay b n).clock = s.clock := by
  simp [State.enterBay]
@[simp] theorem State.enterBay_part (s : State) (b : BayNo) (n : BayState) : (s.enterBay b n).part = s.part := by
  simp [State.enterBay]
@[simp] theorem State.enterBay_store (s : State) (b : BayNo) (n : BayState) : (s.enterBay b n).store = s.store := by
  simp [State.enterBay]
@[simp] theorem State.enterBay_assembly (s : State) (b : BayNo) (n : BayState) : (s.enterBay b n).assembly = s.assembly := by
  simp [State.enterBay]
@[simp] theorem State.enterBay_cfg (s : State) (b : BayNo) (n : BayState) : (s.enterBay b n).cfg = s.cfg := by
  simp [State.enterBay]
@[simp] theorem State.enterBay_book (s : State) (b : BayNo) (n : BayState) : (s.enterBay b n).book = s.book := by
  simp [State.enterBay]
@[simp] theorem State.enterBay_asks (s : State) (b : BayNo) (n : BayState) : (s.enterBay b n).asks = s.asks := by
  simp [State.enterBay]
@[simp] theorem State.enterBay_feed (s : State) (b : BayNo) (n : BayState) : (s.enterBay b n).feed = s.feed := by
  simp [State.enterBay]
@[simp] theorem State.enterBay_ts (s : State) (b : BayNo) (n : BayState) : (s.enterBay b n).ts = s.ts := by
  simp [State.enterBay]
@[simp] theorem State.enterBay_line (s : State) (b : BayNo) (n : BayState) : (s.enterBay b n).line = s.line := by
  simp [State.enterBay]
@[simp] theorem State.enterBay_flags (s : State) (b : BayNo) (n : BayState) : (s.enterBay b n).flags = s.flags := by
  simp [State.enterBay]
@[simp] theorem State.enterBay_out (s : State) (b : BayNo) (n : BayState) : (s.enterBay b n).out = s.out := by
  simp [State.enterBay]
@[simp] theorem State.enterBay_free (s : State) (b : BayNo) (n : BayState) : (s.enterBay b n).free = s.free := by
  simp [State.enterBay]
@[simp] theorem State.enterBay_pending (s : State) (b : BayNo) (n : BayState) : (s.enterBay b n).pending = s.pending := by
  simp [State.enterBay]
@[simp] theorem State.changeBay_pins (s : State) (b : BayNo) (f : Bay → Bay) : (s.changeBay b f).pins = s.pins := by
  rfl
@[simp] theorem State.changeBay_clock (s : State) (b : BayNo) (f : Bay → Bay) : (s.changeBay b f).clock = s.clock := by
  rfl
@[simp] theorem State.changeBay_part (s : State) (b : BayNo) (f : Bay → Bay) : (s.changeBay b f).part = s.part := by
  rfl
@[simp] theorem State.changeBay_store (s : State) (b : BayNo) (f : Bay → Bay) : (s.changeBay b f).store = s.store := by
  rfl
@[simp] theorem State.changeBay_assembly (s : State) (b : BayNo) (f : Bay → Bay) : (s.changeBay b f).assembly = s.assembly := by
  rfl
@[simp] theorem State.changeBay_cfg (s : State) (b : BayNo) (f : Bay → Bay) : (s.changeBay b f).cfg = s.cfg := by
  rfl
@[simp] theorem State.changeBay_book (s : State) (b : BayNo) (f : Bay → Bay) : (s.changeBay b f).book = s.book := by
  rfl
@[simp] theorem State.changeBay_asks (s : State) (b : BayNo) (f : Bay → Bay) : (s.changeBay b f).asks = s.asks := by
  rfl
@[simp] theorem State.changeBay_plan (s : State) (b : BayNo) (f : Bay → Bay) : (s.changeBay b f).plan = s.plan := by
  rfl
@[simp] theorem State.changeBay_boost (s : State) (b : BayNo) (f : Bay → Bay) : (s.changeBay b f).boost = s.boost := by
  rfl
@[simp] theorem State.changeBay_feed (s : State) (b : BayNo) (f : Bay → Bay) : (s.changeBay b f).feed = s.feed := by
  rfl
@[simp] theorem State.changeBay_ts (s : State) (b : BayNo) (f : Bay → Bay) : (s.changeBay b f).ts = s.ts := by
  rfl
@[simp] theorem State.changeBay_line (s : State) (b : BayNo) (f : Bay → Bay) : (s.changeBay b f).line = s.line := by
  rfl
@[simp] theorem State.changeBay_flags (s : State) (b : BayNo) (f : Bay → Bay) : (s.changeBay b f).flags = s.flags := by
  rfl
@[simp] theorem State.changeBay_out (s : State) (b : BayNo) (f : Bay → Bay) : (s.changeBay b f).out = s.out := by
  rfl
@[simp] theorem State.changeBay_free (s : State) (b : BayNo) (f : Bay → Bay) : (s.changeBay b f).free = s.free := by
  rfl
@[simp] theorem State.changeBay_pending (s : State) (b : BayNo) (f : Bay → Bay) : (s.changeBay b f).pending = s.pending := by
  rfl
@[simp] theorem State.bindBay_pins (s : State) (b : BayNo) (id : Nat) : (s.bindBay b id).pins = s.pins := by
  simp [State.bindBay]
@[simp] theorem State.bindBay_clock (s : State) (b : BayNo) (id : Nat) : (s.bindBay b id).clock = s.clock := by
  simp [State.bindBay]
@[simp] theorem State.bindBay_part (s : State) (b : BayNo) (id : Nat) : (s.bindBay b id).part = s.part := by
  simp [State.bindBay]
@[simp] theorem State.bindBay_store (s : State) (b : BayNo) (id : Nat) : (s.bindBay b id).store = s.store := by
  simp [State.bindBay]
@[simp] theorem State.bindBay_assembly (s : State) (b : BayNo) (id : Nat) : (s.bindBay b id).assembly = s.assembly := by
  simp [State.bindBay]
@[simp] theorem State.bindBay_cfg (s : State) (b : BayNo) (id : Nat) : (s.bindBay b id).cfg = s.cfg := by
  simp [State.bindBay]
@[simp] theorem State.bindBay_book (s : State) (b : BayNo) (id : Nat) : (s.bindBay b id).book = s.book := by
  simp [State.bindBay]
@[simp] theorem State.bindBay_asks (s : State) (b : BayNo) (id : Nat) : (s.bindBay b id).asks = s.asks := by
  simp [State.bindBay]
@[simp] theorem State.bindBay_feed (s : State) (b : BayNo) (id : Nat) : (s.bindBay b id).feed = s.feed := by
  simp [State.bindBay]
@[simp] theorem State.bindBay_ts (s : State) (b : BayNo) (id : Nat) : (s.bindBay b id).ts = s.ts := by
  simp [State.bindBay]
@[simp] theorem State.bindBay_line (s : State) (b : BayNo) (id : Nat) : (s.bindBay b id).line = s.line := by
  simp [State.bindBay]
@[simp] theorem State.bindBay_flags (s : State) (b : BayNo) (id : Nat) : (s.bindBay b id).flags = s.flags := by
  simp [State.bindBay]
@[simp] theorem State.bindBay_out (s : State) (b : BayNo) (id : Nat) : (s.bindBay b id).out = s.out := by
  simp [State.bindBay]
@[simp] theorem State.bindBay_free (s : State) (b : BayNo) (id : Nat) : (s.bindBay b id).free = s.free := by
  simp [State.bindBay]
@[simp] theorem State.bindBay_pending (s : State) (b : BayNo) (id : Nat) : (s.bindBay b id).pending = s.pending := by
  simp [State.bindBay]
@[simp] theorem State.releaseBay_pins (s : State) (b : BayNo) : (s.releaseBay b).pins = s.pins := by
  unfold State.releaseBay; split <;> simp
@[simp] theorem State.releaseBay_clock (s : State) (b : BayNo) : (s.releaseBay b).clock = s.clock := by
  unfold State.releaseBay; split <;> simp
@[simp] theorem State.releaseBay_part (s : State) (b : BayNo) : (s.releaseBay b).part = s.part := by
  unfold State.releaseBay; split <;> simp
@[simp] theorem State.releaseBay_store (s : State) (b : BayNo) : (s.releaseBay b).store = s.store := by
  unfold State.releaseBay; split <;> simp
@[simp] theorem State.releaseBay_assembly (s : State) (b : BayNo) : (s.releaseBay b).assembly = s.assembly := by
  unfold State.releaseBay; split <;> simp
@[simp] theorem State.releaseBay_cfg (s : State) (b : BayNo) : (s.releaseBay b).cfg = s.cfg := by
  unfold State.releaseBay; split <;> simp
@[simp] theorem State.releaseBay_book (s : State) (b : BayNo) : (s.releaseBay b).book = s.book := by
  unfold State.releaseBay; split <;> simp
@[simp] theorem State.releaseBay_asks (s : State) (b : BayNo) : (s.releaseBay b).asks = s.asks := by
  unfold State.releaseBay; split <;> simp
@[simp] theorem State.releaseBay_feed (s : State) (b : BayNo) : (s.releaseBay b).feed = s.feed := by
  unfold State.releaseBay; split <;> simp
@[simp] theorem State.releaseBay_ts (s : State) (b : BayNo) : (s.releaseBay b).ts = s.ts := by
  unfold State.releaseBay; split <;> simp
@[simp] theorem State.releaseBay_line (s : State) (b : BayNo) : (s.releaseBay b).line = s.line := by
  unfold State.releaseBay; split <;> simp
@[simp] theorem State.releaseBay_flags (s : State) (b : BayNo) : (s.releaseBay b).flags = s.flags := by
  unfold State.releaseBay; split <;> simp
@[simp] theorem State.releaseBay_out (s : State) (b : BayNo) : (s.releaseBay b).out = s.out := by
  unfold State.releaseBay; split <;> simp
@[simp] theorem State.releaseBay_free (s : State) (b : BayNo) : (s.releaseBay b).free = s.free := by
  unfold State.releaseBay; split <;> simp
@[simp] theorem State.releaseBay_pending (s : State) (b : BayNo) : (s.releaseBay b).pending = s.pending := by
  unfold State.releaseBay; split <;> simp
@[simp] theorem State.copyFigures_pins (s : State) (b : BayNo) (r : Report) : (s.copyFigures b r).pins = s.pins := by
  unfold State.copyFigures; split <;> (try dsimp only) <;> repeat' split <;> simp
@[simp] theorem State.copyFigures_clock (s : State) (b : BayNo) (r : Report) : (s.copyFigures b r).clock = s.clock := by
  unfold State.copyFigures; split <;> (try dsimp only) <;> repeat' split <;> simp
@[simp] theorem State.copyFigures_part (s : State) (b : BayNo) (r : Report) : (s.copyFigures b r).part = s.part := by
  unfold State.copyFigures; split <;> (try dsimp only) <;> repeat' split <;> simp
@[simp] theorem State.copyFigures_store (s : State) (b : BayNo) (r : Report) : (s.copyFigures b r).store = s.store := by
  unfold State.copyFigures; split <;> (try dsimp only) <;> repeat' split <;> simp
@[simp] theorem State.copyFigures_assembly (s : State) (b : BayNo) (r : Report) : (s.copyFigures b r).assembly = s.assembly := by
  unfold State.copyFigures; split <;> (try dsimp only) <;> repeat' split <;> simp
@[simp] theorem State.copyFigures_cfg (s : State) (b : BayNo) (r : Report) : (s.copyFigures b r).cfg = s.cfg := by
  unfold State.copyFigures; split <;> (try dsimp only) <;> repeat' split <;> simp
@[simp] theorem State.copyFigures_book (s : State) (b : BayNo) (r : Report) : (s.copyFigures b r).book = s.book := by
  unfold State.copyFigures; split <;> (try dsimp only) <;> repeat' split <;> simp
@[simp] theorem State.copyFigures_asks (s : State) (b : BayNo) (r : Report) : (s.copyFigures b r).asks = s.asks := by
  unfold State.copyFigures; split <;> (try dsimp only) <;> repeat' split <;> simp
@[simp] theorem State.copyFigures_boost (s : State) (b : BayNo) (r : Report) : (s.copyFigures b r).boost = s.boost := by
  unfold State.copyFigures; split <;> (try dsimp only) <;> repeat' split <;> simp
@[simp] theorem State.copyFigures_feed (s : State) (b : BayNo) (r : Report) : (s.copyFigures b r).feed = s.feed := by
  unfold State.copyFigures; split <;> (try dsimp only) <;> repeat' split <;> simp
@[simp] theorem State.copyFigures_ts (s : State) (b : BayNo) (r : Report) : (s.copyFigures b r).ts = s.ts := by
  unfold State.copyFigures; split <;> (try dsimp only) <;> repeat' split <;> simp
@[simp] theorem State.copyFigures_out (s : State) (b : BayNo) (r : Report) : (s.copyFigures b r).out = s.out := by
  unfold State.copyFigures; split <;> (try dsimp only) <;> repeat' split <;> simp
@[simp] theorem State.copyFigures_free (s : State) (b : BayNo) (r : Report) : (s.copyFigures b r).free = s.free := by
  unfold State.copyFigures; split <;> (try dsimp only) <;> repeat' split <;> simp
@[simp] theorem State.copyFigures_pending (s : State) (b : BayNo) (r : Report) : (s.copyFigures b r).pending = s.pending := by
  unfold State.copyFigures; split <;> (try dsimp only) <;> repeat' split <;> simp
@[simp] theorem State.doorStep_pins (s : State) (b : BayNo) (r : Report) : (s.doorStep b r).pins = s.pins := by
  unfold State.doorStep; dsimp only; split <;> simp
@[simp] theorem State.doorStep_clock (s : State) (b : BayNo) (r : Report) : (s.doorStep b r).clock = s.clock := by
  unfold State.doorStep; dsimp only; split <;> simp
@[simp] theorem State.doorStep_part (s : State) (b : BayNo) (r : Report) : (s.doorStep b r).part = s.part := by
  unfold State.doorStep; dsimp only; split <;> simp
@[simp] theorem State.doorStep_store (s : State) (b : BayNo) (r : Report) : (s.doorStep b r).store = s.store := by
  unfold State.doorStep; dsimp only; split <;> simp
@[simp] theorem State.doorStep_assembly (s : State) (b : BayNo) (r : Report) : (s.doorStep b r).assembly = s.assembly := by
  unfold State.doorStep; dsimp only; split <;> simp
@[simp] theorem State.doorStep_cfg (s : State) (b : BayNo) (r : Report) : (s.doorStep b r).cfg = s.cfg := by
  unfold State.doorStep; dsimp only; split <;> simp
@[simp] theorem State.doorStep_book (s : State) (b : BayNo) (r : Report) : (s.doorStep b r).book = s.book := by
  unfold State.doorStep; dsimp only; split <;> simp
@[simp] theorem State.doorStep_asks (s : State) (b : BayNo) (r : Report) : (s.doorStep b r).asks = s.asks := by
  unfold State.doorStep; dsimp only; split <;> simp
@[simp] theorem State.doorStep_plan (s : State) (b : BayNo) (r : Report) : (s.doorStep b r).plan = s.plan := by
  unfold State.doorStep; dsimp only; split <;> simp
@[simp] theorem State.doorStep_boost (s : State) (b : BayNo) (r : Report) : (s.doorStep b r).boost = s.boost := by
  unfold State.doorStep; dsimp only; split <;> simp
@[simp] theorem State.doorStep_feed (s : State) (b : BayNo) (r : Report) : (s.doorStep b r).feed = s.feed := by
  unfold State.doorStep; dsimp only; split <;> simp
@[simp] theorem State.doorStep_ts (s : State) (b : BayNo) (r : Report) : (s.doorStep b r).ts = s.ts := by
  unfold State.doorStep; dsimp only; split <;> simp
@[simp] theorem State.doorStep_out (s : State) (b : BayNo) (r : Report) : (s.doorStep b r).out = s.out := by
  unfold State.doorStep; dsimp only; split <;> simp
@[simp] theorem State.doorStep_free (s : State) (b : BayNo) (r : Report) : (s.doorStep b r).free = s.free := by
  unfold State.doorStep; dsimp only; split <;> simp
@[simp] theorem State.doorStep_pending (s : State) (b : BayNo) (r : Report) : (s.doorStep b r).pending = s.pending := by
  unfold State.doorStep; dsimp only; split <;> simp

/-! ### A bay enters a state, said once -/

@[simp] theorem Bay.writeSetpoint_state (cfg : Setup) (p : Nat) (b : Bay) : (b.writeSetpoint cfg p).state = b.state := rfl

@[simp] theorem Bay.entering_state (cfg : Setup) (n : BayState) (b : Bay) : (b.entering cfg n).state = n := rfl

@[simp] theorem Bay.entering_boost (cfg : Setup) (n : BayState) (b : Bay) : (b.entering cfg n).boost = b.boost := rfl

/-- A bay that is neither HELD nor STOCK is not chargeable (R3). -/
theorem Bay.chargeable_of_not_eligible {cfg : Setup} {b : Bay} (h : b.state.eligible = false) :
    b.chargeable cfg = false := by
  unfold Bay.chargeable
  split <;> simp_all [BayState.eligible]

/-- A bay that enters a state other than HELD and STOCK has setpoint 0 (R21). -/
theorem Bay.entering_setpoint {cfg : Setup} {n : BayState} {b : Bay} (h : n.eligible = false) :
    (b.entering cfg n).setpoint = 0 := by
  have := Bay.chargeable_of_not_eligible (cfg := cfg) (b := b.entering cfg n) (by simpa using h)
  simp only [Bay.entering, Bay.writeSetpoint] at this ⊢
  rw [if_neg]
  exact Bool.eq_false_iff.1 this

/-- Whether a grant ends as a bay enters a state (R106, R115). -/
def endsGrant (b : BayNo) (n : BayState) (a : Arbiter) : Bool := decide (a.converter.holder = some b) && !n.eligible

/-- The end of a grant, said of its holder (R112). -/
theorem State.endGrant_eq {s : State} {h : BayNo} (c : Converter) (hh : s.boost.converter.holder = some h) :
    s.endGrant c =
      { s with
        boost := { s.boost with converter := c }
        plan := { s.plan with requested := true }
        bays := s.bays.set h
          { s.bay h with
            boost := false
            setpoint :=
              if (s.bay h).chargeable s.cfg = true then min (s.bay h).setpoint (s.normalCapOf h) else 0 } h.isLt } := by
  simp only [State.endGrant, hh]
  have hc : ∀ (x : Bay), Bay.chargeable s.cfg { x with boost := false } = x.chargeable s.cfg := fun _ => rfl
  have hn : State.normalCapOf (State.setBoost h false { s with boost := { s.boost with converter := c } }) h =
      s.normalCapOf h := by
    simp only [State.normalCapOf, State.setBoost, State.setBay_bay_self]
    rfl
  simp only [State.clampBoostEnd, hn]
  simp [State.setBoost, Bay.writeSetpoint, State.setBay, State.request, State.bay, hc]
  rfl

/-- The record, the arbiter and the request that a bay entering a state leaves (R7, R106, R115): everything it can do. -/
theorem State.enterBay_eq (s : State) (b : BayNo) (n : BayState) :
    s.enterBay b n =
      { s with
        bays := s.bays.set b
          { (s.bay b).entering s.cfg n with boost := (s.bay b).boost && !endsGrant b n s.boost } b.isLt
        plan := { s.plan with requested := true }
        boost := { s.boost with
          eligible := s.boost.eligible.set b n.eligible b.isLt
          converter := if endsGrant b n s.boost then .switching switchMillis else s.boost.converter } } := by
  unfold State.enterBay State.bayChanged
  by_cases h : s.boost.converter.holder = some b ∧ n.eligible = false
  · have he : endsGrant b n s.boost = true := by simp [endsGrant, h]
    refine Eq.trans (if_pos (by exact h)) ?_
    rw [State.endGrant_eq (h := b) _ (by exact h.1), he]
    have hs := Bay.entering_setpoint (cfg := s.cfg) (b := s.bay b) h.2
    have hc := Bay.chargeable_of_not_eligible (cfg := s.cfg) (b := (s.bay b).entering s.cfg n) (by simpa using h.2)
    generalize (s.bay b).entering s.cfg n = y at *
    generalize (s.bay b).boost = v
    apply State.eq_of_fields <;> dsimp only <;> try rfl
    simp [State.bay, State.setBay, State.request, hc, hs]
  · refine Eq.trans (if_neg (by exact h)) ?_
    have he : endsGrant b n s.boost = false := by
      simp only [endsGrant, Bool.and_eq_false_iff, decide_eq_false_iff_not, Bool.not_eq_false']
      by_cases h1 : s.boost.converter.holder = some b
      · exact .inr (by simpa using fun h2 => h ⟨h1, h2⟩)
      · exact .inl h1
    rw [he]
    simp [State.setBay, State.request, Bay.entering, Bay.writeSetpoint]

/-! ### The lock (R22) -/

/-- Everything that can become of the lock as a bay changes state (R22, R142, R144, R146). -/
theorem lockEntering_cases (old new : BayState) (door : Door) (locked lockPending : Bool) :
    (new.atDoor = true ∧ lockEntering old new door locked lockPending = (false, false)) ∨
    (new.atDoor = false ∧ (new.isOff = true ∨ (old.atDoor = true ∧ door = .closed) ∨
        (old.atDoor = false ∧ new.outOfUse = true)) ∧
      lockEntering old new door locked lockPending = (true, false)) ∨
    (new.atDoor = false ∧ new.isOff = false ∧ old.atDoor = true ∧ door = .opened ∧
      lockEntering old new door locked lockPending = (locked, true)) ∨
    (new.atDoor = false ∧ new.isOff = false ∧ old.atDoor = false ∧ new.outOfUse = false ∧
      lockEntering old new door locked lockPending = (locked, lockPending)) := by
  unfold lockEntering
  cases new.atDoor <;> cases new.isOff <;> cases old.atDoor <;> cases door <;> cases new.outOfUse <;> simp

end Sys2Proof.Machine
end

