-- ==== Sys2Proof/Laws/Book.lean ====
section
/-! SUPPORT. What the operations of the Reservation Book can do, said once for each: book order and ids at creation, and
for each request of chapter 3 whether it is applied and what it then leaves. -/

namespace Sys2Proof.Machine

/-! ### Lookups -/

theorem Book.byId_some {k : Book} {id : Nat} {r : Reservation} (h : k.byId id = some r) :
    r ∈ k.records ∧ r.id = id := by
  refine ⟨List.mem_of_find?_eq_some h, ?_⟩
  simpa using List.find?_some h

theorem Book.byId_none {k : Book} {id : Nat} : k.byId id = none ↔ ∀ r ∈ k.records, r.id ≠ id := by
  simp [Book.byId]

theorem Book.byToken_some {k : Book} {t : Nat} {r : Reservation} (h : k.byToken t = some r) :
    r ∈ k.records ∧ r.token = t := by
  refine ⟨List.mem_of_find?_eq_some h, ?_⟩
  simpa using List.find?_some h

theorem Book.byToken_none {k : Book} {t : Nat} : k.byToken t = none ↔ ∀ r ∈ k.records, r.token ≠ t := by
  simp [Book.byToken]

/-- Where ids are distinct, the lookup by id gives each record of the book. -/
theorem Book.byId_of_mem {k : Book} (hn : (k.records.map (·.id)).Nodup) {r : Reservation} (h : r ∈ k.records) :
    k.byId r.id = some r := by
  unfold Book.byId
  generalize k.records = l at *
  induction l with
  | nil => simp at h
  | cons x xs ih =>
    simp only [List.map_cons, List.nodup_cons, List.mem_map, not_exists, not_and] at hn
    rcases List.mem_cons.1 h with rfl | hx
    · simp
    · have : (x.id == r.id) = false := by simpa using fun e => hn.1 r hx e.symm
      rw [List.find?_cons, this]
      exact ih hn.2 hx

/-! ### Creation (R38, R39, R41) -/

theorem insertRecord_perm (r : Reservation) (l : List Reservation) : (insertRecord r l).Perm (r :: l) := by
  induction l with
  | nil => exact .refl _
  | cons x xs ih =>
    unfold insertRecord
    split
    · exact .refl _
    · exact (ih.cons x).trans (.swap r x xs)

theorem insertRecord_length (r : Reservation) (l : List Reservation) : (insertRecord r l).length = l.length + 1 :=
  (insertRecord_perm r l).length_eq

@[simp] theorem mem_insertRecord {r x : Reservation} {l : List Reservation} :
    x ∈ insertRecord r l ↔ x = r ∨ x ∈ l := by
  rw [(insertRecord_perm r l).mem_iff]; simp

theorem nextAfter_range (id : Nat) : 1 ≤ nextAfter id ∧ nextAfter id ≤ 65535 := by
  unfold nextAfter; split <;> omega

theorem Book.freeId_range {k : Book} {fuel id : Nat} (h : 1 ≤ id ∧ id ≤ 65535) :
    1 ≤ k.freeId fuel id ∧ k.freeId fuel id ≤ 65535 := by
  induction fuel generalizing id with
  | zero => exact h
  | succ n ih =>
    unfold Book.freeId
    split
    · exact ih (nextAfter_range id)
    · exact h

/-- Everything a creation request can do (R41). -/
theorem State.createRecord_cases (q : Request) (s : State) :
    (∃ why, s.book.check s.cfg q = some why ∧ s.createRecord q = (.refused why, s)) ∨
    (s.book.check s.cfg q = none ∧ ∃ id, id = s.book.freeId (s.book.records.length + 1) s.book.nextId ∧
      s.createRecord q = (.ok id, { s with book := s.book.insert id q }.request)) := by
  unfold State.createRecord
  split
  · exact .inl ⟨_, ‹_›, rfl⟩
  · exact .inr ⟨‹_›, _, rfl, rfl⟩

/-- When every check of R41 passes. -/
theorem Book.check_none {k : Book} {cfg : Setup} {q : Request} :
    k.check cfg q = none ↔ q.token ≠ 0 ∧ (∀ r ∈ k.records, r.token ≠ q.token) ∧ k.records.length < 32 ∧
      k.commit[q.cls] < cfg.commitLimit[q.cls] := by
  unfold Book.check bookSize
  cases hb : k.byToken q.token with
  | none =>
    have ht := Book.byToken_none.1 hb
    by_cases h1 : q.token = 0
    · simp [h1]
    · by_cases h2 : k.records.length < 32
      · by_cases h3 : k.commit[q.cls] < cfg.commitLimit[q.cls]
        · have h2' : ¬ k.records.length ≥ 32 := by omega
          have h3' : ¬ k.commit[q.cls] ≥ cfg.commitLimit[q.cls] := by omega
          rw [if_neg h1, if_neg (by simp), if_neg h2', if_neg h3']
          exact iff_of_true rfl ⟨h1, ht, h2, h3⟩
        · have h2' : ¬ k.records.length ≥ 32 := by omega
          rw [if_neg h1, if_neg (by simp), if_neg h2', if_pos (by omega)]
          exact iff_of_false (by simp) fun h => h3 h.2.2.2
      · rw [if_neg h1, if_neg (by simp), if_pos (by omega)]
        exact iff_of_false (by simp) fun h => h2 h.2.2.1
  | some r =>
    have hr := Book.byToken_some hb
    refine iff_of_false ?_ fun h => h.2.1 r hr.1 hr.2
    by_cases h1 : q.token = 0 <;> simp [h1]

/-! ### Changes of state -/

/-- Everything an unbind can do (R46). -/
theorem State.unbind_cases (id : Nat) (b : BayNo) (s : State) :
    ((∀ r, s.book.byId id = some r → r.state ≠ .bound b ∧ r.state ≠ .ready b) ∧ s.unbind id b = s) ∨
    (∃ r, s.book.byId id = some r ∧ (r.state = .bound b ∨ r.state = .ready b) ∧
      s.unbind id b =
        let u := (s.updateRecord id fun r => { r with state := .pending, late := false, atDoor := false }).request
        if r.atDoor then u.expiryCheck id else u) := by
  unfold State.unbind
  cases h : s.book.byId id with
  | none => exact .inl ⟨fun _ h => (by cases h), rfl⟩
  | some r =>
    dsimp only
    split
    · exact .inr ⟨r, rfl, ‹_›, rfl⟩
    · refine .inl ⟨fun x hx => ?_, rfl⟩
      obtain rfl : r = x := by simpa using hx
      tauto

/-- Everything the passing on of a soc can do (R47, R48). -/
theorem State.passSoc_cases (b : BayNo) (soc : Nat) (s : State) :
    s.passSoc b soc = s ∨
    (∃ id r, (s.bay b).reservation = some id ∧ s.book.byId id = some r ∧
      (((s.bay b).state = .held ∧ r.state = .bound b ∧ r.target ≤ soc ∧
        s.passSoc b soc =
          (s.enterBay b .ready).updateRecord r.id fun r => { r with state := .ready b, late := false }) ∨
      ((s.bay b).state = .ready ∧ r.state = .ready b ∧ soc + 30 < r.target ∧
        s.passSoc b soc =
          (s.enterBay b .held).updateRecord r.id fun r => { r with state := .bound b, late := false }))) := by
  unfold State.passSoc
  cases h1 : (s.bay b).reservation with
  | none => exact .inl rfl
  | some id =>
    simp only [Option.bind_some]
    cases h2 : s.book.byId id with
    | none => exact .inl rfl
    | some r =>
      cases h3 : (s.bay b).state with
      | held =>
        by_cases h : r.state = .bound b ∧ soc ≥ r.target
        · exact .inr ⟨id, r, rfl, h2, .inl ⟨rfl, h.1, h.2, if_pos h⟩⟩
        · exact .inl (if_neg h)
      | ready =>
        by_cases h : r.state = .ready b ∧ soc + 30 < r.target
        · exact .inr ⟨id, r, rfl, h2, .inr ⟨rfl, h.1, h.2, if_pos h⟩⟩
        · exact .inl (if_neg h)
      | _ => exact .inl rfl

/-- Everything a bind request can do (R44). -/
theorem State.bindRecord_cases (id : Nat) (b : BayNo) (s : State) :
    s.bindRecord id b = s ∨
    (∃ r, s.book.byId id = some r ∧ r.state = .pending ∧ (s.bay b).state = .stock ∧
      s.bindRecord id b = (s.bindBay b id).updateRecord id fun r => { r with state := .bound b, late := false }) := by
  unfold State.bindRecord
  cases h : s.book.byId id with
  | none => exact .inl rfl
  | some r =>
    dsimp only
    split
    · rename_i hc; exact .inr ⟨r, rfl, hc.1, hc.2, rfl⟩
    · exact .inl rfl

/-- Everything a rebind request can do (R45). -/
theorem State.rebindRecord_cases (id : Nat) (old new : BayNo) (s : State) :
    s.rebindRecord id old new = s ∨
    (∃ r, s.book.byId id = some r ∧ r.state = .bound old ∧ r.atDoor = false ∧ (s.bay old).state = .held ∧
      (s.bay old).reservation = some id ∧ (s.bay new).state = .stock ∧
      s.rebindRecord id old new =
        ((s.enterBay old .stock).bindBay new id).updateRecord id fun r => { r with state := .bound new }) := by
  unfold State.rebindRecord
  cases h : s.book.byId id with
  | none => exact .inl rfl
  | some r =>
    dsimp only
    split
    · rename_i hc; exact .inr ⟨r, rfl, hc.1, hc.2.1, hc.2.2.1, hc.2.2.2.1, hc.2.2.2.2, rfl⟩
    · exact .inl rfl

/-- Everything a written late flag can do (R49). -/
theorem State.writeLate_cases (id : Nat) (b : BayNo) (late : Bool) (s : State) :
    s.writeLate id b late = s ∨
    (∃ r, s.book.byId id = some r ∧ r.state = .bound b ∧
      s.writeLate id b late =
        let u := s.updateRecord id fun r => { r with late }
        if late && !r.late then u.raise (.resLate id b) else u) := by
  unfold State.writeLate
  cases h : s.book.byId id with
  | none => exact .inl rfl
  | some r =>
    dsimp only
    split
    · exact .inr ⟨r, rfl, ‹_›, rfl⟩
    · exact .inl rfl

/-! ### The door, discard and release -/

/-- Everything a return request can do (R51). -/
theorem State.returnRecord_cases (id : Nat) (s : State) :
    s.returnRecord id = s ∨
    (∃ r b p, s.book.byId id = some r ∧ r.state = .handover b p ∧
      s.returnRecord id = (s.updateRecord id fun r => { r with state := p.state b, late := false }).request) := by
  unfold State.returnRecord
  cases h : s.book.byId id with
  | none => exact .inl rfl
  | some r =>
    cases hr : r.state with
    | handover b p => exact .inr ⟨r, b, p, rfl, hr, by simp [hr]⟩
    | _ => exact .inl (by simp [hr])

/-- Everything a door clear can do (R51). -/
theorem State.doorClear_cases (id : Nat) (s : State) :
    s.doorClear id = s ∨
    (∃ r, s.book.byId id = some r ∧ r.atDoor = true ∧
      s.doorClear id = (s.updateRecord id fun r => { r with atDoor := false }).expiryCheck id) := by
  unfold State.doorClear
  cases h : s.book.byId id with
  | none => exact .inl rfl
  | some r =>
    dsimp only
    split
    · exact .inr ⟨r, rfl, ‹_›, rfl⟩
    · exact .inl rfl

/-- Everything a done request can do (R59). -/
theorem State.doneRecord_cases (id : Nat) (s : State) :
    s.doneRecord id = s ∨
    (∃ r b p, s.book.byId id = some r ∧ r.state = .handover b p ∧ s.doneRecord id = s.removeRecord r) := by
  unfold State.doneRecord
  cases h : s.book.byId id with
  | none => exact .inl rfl
  | some r =>
    cases hr : r.state with
    | handover b p => exact .inr ⟨r, b, p, rfl, hr, by simp [hr]⟩
    | _ => exact .inl (by simp [hr])

/-- Everything a discard request can do (R58). -/
theorem State.discardRecord_cases (id : Nat) (s : State) :
    s.discardRecord id = (false, s) ∨
    (∃ r, s.book.byId id = some r ∧ r.atDoor = false ∧ s.discardRecord id = (true, s.removeRecord r)) := by
  unfold State.discardRecord
  cases h : s.book.byId id with
  | none => exact .inl rfl
  | some r =>
    cases hr : r.atDoor with
    | true => exact .inl (by simp [hr])
    | false => exact .inr ⟨r, rfl, hr, by simp [hr]⟩

/-- Everything an expiry check can do (R52). -/
theorem State.expiryCheck_cases (id : Nat) (s : State) :
    s.expiryCheck id = s ∨
    (∃ r, s.book.byId id = some r ∧ r.expiry s.cfg ≤ s.clock.seconds ∧ r.atDoor = false ∧
      s.expiryCheck id = s.expire r) := by
  unfold State.expiryCheck
  cases h : s.book.byId id with
  | none => exact .inl rfl
  | some r =>
    dsimp only
    split
    · rename_i hd
      simp only [Reservation.expiryDue, Bool.and_eq_true, decide_eq_true_eq, Bool.not_eq_true'] at hd
      exact .inr ⟨r, rfl, hd.1, hd.2, rfl⟩
    · exact .inl rfl

/-! ### The expired-token list (R54) -/

theorem pushExpired_length (t : Nat) (l : List Nat) : (pushExpired t l).length ≤ 8 := by
  simp only [pushExpired, List.length_drop, expiredSize]; omega

/-- The token put on the list is on it, however full it was. -/
theorem mem_pushExpired_self (t : Nat) (l : List Nat) : t ∈ pushExpired t l := by
  unfold pushExpired expiredSize
  dsimp only
  rw [List.drop_append_of_le_length]
  · simp
  · simp

end Sys2Proof.Machine
end

