-- ==== Sys2Proof/Laws/Events.lean ====
section
/-! SUPPORT. How an event begins and ends: what the end of an event makes of a state with and without a request for a
plan pass, and what a block's taking of a frame comes to. -/

namespace Sys2Proof.Machine

/-- The planner after a request is met at the end of an event in RUN (R84). -/
def Planner.asked (n : Snapshot) (p : Planner) : Planner :=
  match p.pass with
  | none => { p with pass := some ⟨n, 0⟩, again := false, period := some periodMillis, requested := false }
  | some _ => { p with again := true, requested := false }

theorem State.settlePass_none {s : State} (h : s.plan.requested = false) : s.settlePass = s := by
  simp [State.settlePass, h]

theorem State.settlePass_some {s : State} (h : s.plan.requested = true) (hp : s.part = .run) :
    s.settlePass = { s with plan := s.plan.asked s.snapshot } := by
  unfold State.settlePass Planner.asked
  simp only [h, hp, if_true]
  split <;> simp_all [State.startPass]

/-- An event while RESTART is released. -/
theorem State.take_live {s : State} (h : s.pins.restart = false) (reply : Option BayNo) (body : State → State) :
    s.take reply body = State.finish reply s (body s.quiet) := by
  simp [State.take, h]

/-- The end of an event that requested no pass. -/
theorem State.finish_none {s u : State} (reply : Option BayNo) (h : u.plan.requested = false) :
    State.finish reply s u = { u with out.orders := ordersOf reply s u } := by
  simp [State.finish, State.settlePass_none h]

/-- The bays after the end of an event are those before it. -/
@[simp] theorem State.settlePass_bays (s : State) : s.settlePass.bays = s.bays := by
  unfold State.settlePass; split <;> (try split) <;> rfl

theorem ordersOf_congr {reply : Option BayNo} {s t u : State} (h : t.bays = u.bays) :
    ordersOf reply s t = ordersOf reply s u := by
  simp [ordersOf, State.orderFor, commandChanged, State.bay, h]

/-- The end of an event in RUN that requested a pass. -/
theorem State.finish_some {s u : State} (reply : Option BayNo) (h : u.plan.requested = true) (hp : u.part = .run) :
    State.finish reply s u = { u with plan := u.plan.asked u.snapshot, out.orders := ordersOf reply s u } := by
  simp only [State.finish, State.settlePass_some h hp]
  congr 2

/-- No order goes out for bays whose commanded values are as they were. -/
theorem ordersOf_same {s t : State} (h : t.bays = s.bays) : ordersOf none s t = [] := by
  simp [ordersOf, commandChanged, baysWhere, State.bay, h]

/-- A block's taking of the frame at the front of the Ask queue. -/
theorem State.fromAsk_cons {s : State} {x : AskFrame} {rest : List AskFrame} {body : State → State}
    {f : AskFrame → Option (State → State)} (h : s.line.askQueue = x :: rest) (hf : f x = some body) :
    State.fromAsk f s = body { s with line.askQueue := rest } := by
  simp [State.fromAsk, h, hf]

/-- A block's taking of the frame at the front of the Peer queue. -/
theorem State.fromPeer_cons {s : State} {x : PeerFrame} {rest : List PeerFrame} {body : State → State}
    {f : PeerFrame → Option (State → State)} (h : s.line.peerQueue = x :: rest) (hf : f x = some body) :
    State.fromPeer f s = body { s with line.peerQueue := rest } := by
  simp [State.fromPeer, h, hf]

theorem inRun_run {s : State} (body : State → State) (h : s.part = .run) : inRun body s = body s := by
  simp [inRun, h]

/-- An addressed frame of a terminal without an open context (R152). -/
theorem addressed_run {s : State} {st : Station} (body : State → State) (h : s.part = .run)
    (hc : s.ts.contexts[st] = none) : addressed st body s = body s := by
  simp only [addressed, inRun, h, State.cancelContext, hc]

end Sys2Proof.Machine
end

