-- ==== Sys2Proof/Laws/Feed.lean ====
section
/-! SUPPORT. What the Feed Share Unit's operations can do, said once for each: the share within the demand and the limit,
the clamp that writes setpoints and nothing else, and the recomputation of the share. -/

namespace Sys2Proof.Machine

/-! ### Rounding -/

theorem roundTen_le (p : Nat) : roundTen p ≤ p := Nat.div_mul_le_self p 10

theorem roundTen_mod (p : Nat) : roundTen p % 10 = 0 := by unfold roundTen; omega

theorem noTrickle_le (p : Nat) : noTrickle p ≤ p := by unfold noTrickle; split <;> omega

theorem noTrickle_mod {p : Nat} (h : p % 10 = 0) : noTrickle p % 10 = 0 := by unfold noTrickle; split <;> omega

theorem siteDraw_mono {p q : Nat} (h : p ≤ q) : siteDraw p ≤ siteDraw q := by
  unfold siteDraw ceilDiv; omega

@[simp] theorem siteDraw_zero : siteDraw 0 = 0 := rfl

/-- A setpoint scaled by a fall of the share is no higher and a multiple of 10 W (R100). -/
theorem scaleSetpoint_le {old new p : Nat} (h : new ≤ old) : scaleSetpoint old new p ≤ p := by
  unfold scaleSetpoint
  refine (noTrickle_le _).trans ((roundTen_le _).trans ?_)
  rcases Nat.eq_zero_or_pos old with rfl | ho
  · simp
  · exact Nat.div_le_of_le_mul (by rw [Nat.mul_comm old p]; exact Nat.mul_le_mul_left p h)

theorem scaleSetpoint_mod (old new p : Nat) : scaleSetpoint old new p % 10 = 0 := noTrickle_mod (roundTen_mod _)

/-! ### The share (R130, R131) -/

theorem sum_le_sum {α : Type} {f g : α → Nat} {l : List α} (h : ∀ x ∈ l, f x ≤ g x) : (l.map f).sum ≤ (l.map g).sum := by
  induction l with
  | nil => simp
  | cons x xs ih =>
    have := h x (by simp)
    have := ih fun y hy => h y (by simp [hy])
    simp only [List.map_cons, List.sum_cons]; omega

/-- The raw share is never above the limit in force (R130). -/
theorem Feed.rawShare_le_limit (f : Feed) (h : f.ownPriority ≤ f.ownDemand) (hq : ∀ p ∈ f.peers, p.priority ≤ p.demand) :
    f.rawShare ≤ f.limit := by
  have hs : (f.peers.map (·.priority)).sum ≤ (f.peers.map (·.demand)).sum := sum_le_sum hq
  have hdef : f.totalDemand = f.ownDemand + (f.peers.map (·.demand)).sum := rfl
  have pdef : f.totalPriority = f.ownPriority + (f.peers.map (·.priority)).sum := rfl
  unfold Feed.rawShare
  have hd : f.ownDemand ≤ f.totalDemand := Nat.le_add_right _ _
  have hp : f.ownPriority ≤ f.totalPriority := Nat.le_add_right _ _
  dsimp only
  split
  · omega
  · split
    · split
      · omega
      · rename_i h0
        exact Nat.div_le_of_le_mul (by rw [Nat.mul_comm]; exact Nat.mul_le_mul_right _ hp)
    · rename_i h1 h2
      by_cases hpos : f.totalDemand - f.totalPriority = 0
      · omega
      · by_cases hle : f.ownDemand - f.ownPriority ≤ f.totalDemand - f.totalPriority
        · have : (f.limit - f.totalPriority) * (f.ownDemand - f.ownPriority) / (f.totalDemand - f.totalPriority) ≤
              f.limit - f.totalPriority :=
            Nat.div_le_of_le_mul (by rw [Nat.mul_comm]; exact Nat.mul_le_mul_right _ hle)
          omega
        · omega

/-- The share is a multiple of 10 W (R130). -/
theorem Feed.shareNow_mod {cfg : Setup} {f : Feed} (h : f.detached = false) : f.shareNow cfg % 10 = 0 := by
  simp [Feed.shareNow, h, roundTen_mod]

/-! ### The clamp (R100, R101) -/

theorem Bay.setpoint_same (x : Bay) : x = { x with setpoint := x.setpoint } := rfl

/-- One lowering: none, or 10 W off the setpoint of one bay (R101). -/
theorem lowerToShare_step (cfg : Setup) (share : Nat) (order : List BayNo) (n : Nat) (bays : Vector Bay 12) :
    lowerToShare cfg share order (n + 1) bays = bays ∨
    ∃ c : BayNo, lowerToShare cfg share order (n + 1) bays = lowerToShare cfg share order n
      (bays.set c (bays[c].writeSetpoint cfg (noTrickle (bays[c].setpoint - 10))) c.isLt) := by
  rw [lowerToShare]
  by_cases hd : totalDraw bays ≤ share
  · exact .inl (if_pos hd)
  · refine (em (clampVictim order bays = none)).imp (fun h => ?_) fun h => ?_
    · simp only [hd, h, if_false]
    · obtain ⟨c, h⟩ := Option.ne_none_iff_exists'.1 h
      exact ⟨c, by simp only [hd, h, if_false]⟩

/-- The clamp's lowering writes setpoints and nothing else, and raises none. -/
theorem lowerToShare_bay (cfg : Setup) (share : Nat) (order : List BayNo) (fuel : Nat) (bays : Vector Bay 12) (b : BayNo) :
    ∃ p, p ≤ bays[b].setpoint ∧ (lowerToShare cfg share order fuel bays)[b] = { bays[b] with setpoint := p } := by
  induction fuel generalizing bays with
  | zero => exact ⟨_, le_refl _, Bay.setpoint_same _⟩
  | succ n ih =>
    rcases lowerToShare_step cfg share order n bays with h | ⟨c, h⟩ <;> rw [h]
    · exact ⟨_, le_refl _, Bay.setpoint_same _⟩
    · obtain ⟨p, hp, he⟩ := ih (bays.set c (bays[c].writeSetpoint cfg (noTrickle (bays[c].setpoint - 10))) c.isLt)
      by_cases hc : c = b
      · subst hc
        rw [show (bays.set c.val (bays[c].writeSetpoint cfg (noTrickle (bays[c].setpoint - 10))) c.isLt)[c] =
          bays[c].writeSetpoint cfg (noTrickle (bays[c].setpoint - 10)) from Vector.getElem_set_self _] at hp he
        refine ⟨p, hp.trans ?_, he⟩
        unfold Bay.writeSetpoint
        dsimp only
        split
        · exact (noTrickle_le _).trans (Nat.sub_le _ _)
        · exact Nat.zero_le _
      · rw [show (bays.set c.val (bays[c].writeSetpoint cfg (noTrickle (bays[c].setpoint - 10))) c.isLt)[b] =
          bays[b] from Vector.getElem_set_ne _ _ fun h => hc (Fin.ext h)] at hp he
        exact ⟨p, hp, he⟩

/-- The clamp, said of the bays alone: the rest of the state but the pass request is as it was (R100). -/
theorem State.clampShare_eq (old new : Nat) (s : State) :
    ∃ v : Vector Bay 12, s.clampShare old new = { s with bays := v, plan := { s.plan with requested := true } } ∧
      (new ≤ old → ∀ b : BayNo, ∃ p, p ≤ (s.bay b).setpoint ∧ v[b] = { s.bay b with setpoint := p }) := by
  unfold State.clampShare State.request
  dsimp only
  generalize hv : (Vector.ofFn fun i => (s.bays[i]).writeSetpoint s.cfg (scaleSetpoint old new s.bays[i].setpoint)) = v
  refine ⟨_, rfl, fun h b => ?_⟩
  obtain ⟨p, hp, he⟩ := lowerToShare_bay s.cfg new s.plan.lastOrder (allBays.map fun b => v[b].setpoint).sum v b
  have hb : v[b] = (s.bay b).writeSetpoint s.cfg (scaleSetpoint old new (s.bay b).setpoint) := by
    rw [← hv]; simp [Fin.getElem_fin, State.bay]
  rw [hb] at hp he
  refine ⟨p, hp.trans ?_, he⟩
  unfold Bay.writeSetpoint
  dsimp only
  split
  · exact scaleSetpoint_le h
  · exact Nat.zero_le _

/-- Everything a recomputation of the share can do (R132). -/
theorem State.recomputeShare_cases (s : State) :
    (s.feed.shareNow s.cfg = s.feed.share ∧ s.recomputeShare = s) ∨
    (s.feed.share < s.feed.shareNow s.cfg ∧
      s.recomputeShare = { s with feed := { s.feed with share := s.feed.shareNow s.cfg } }.request) ∨
    (s.feed.shareNow s.cfg < s.feed.share ∧
      s.recomputeShare =
        { s with feed := { s.feed with share := s.feed.shareNow s.cfg } }.clampShare s.feed.share
          (s.feed.shareNow s.cfg)) := by
  unfold State.recomputeShare
  rcases Nat.lt_trichotomy (s.feed.shareNow s.cfg) s.feed.share with h | h | h
  · exact .inr (.inr ⟨h, by simp [h, Nat.ne_of_lt h]⟩)
  · exact .inl ⟨h, by simp [h]⟩
  · exact .inr (.inl ⟨h, by simp [Nat.ne_of_gt h, Nat.not_lt.2 (Nat.le_of_lt h)]⟩)

/-- A recomputation leaves all but setpoints, the share and the pass request as they are, and raises no setpoint. -/
theorem State.recomputeShare_eq (s : State) :
    ∃ (v : Vector Bay 12) (q : Bool),
      s.recomputeShare = { s with bays := v, feed := { s.feed with share := s.feed.shareNow s.cfg }
                                  plan := { s.plan with requested := q } } ∧
      ∀ b : BayNo, ∃ p, p ≤ (s.bay b).setpoint ∧ v[b] = { s.bay b with setpoint := p } := by
  rcases s.recomputeShare_cases with ⟨h, e⟩ | ⟨h, e⟩ | ⟨h, e⟩
  · exact ⟨s.bays, s.plan.requested, by rw [e, h], fun b => ⟨_, le_refl _, rfl⟩⟩
  · exact ⟨s.bays, true, e, fun b => ⟨_, le_refl _, rfl⟩⟩
  · obtain ⟨v, hv, hb⟩ := State.clampShare_eq s.feed.share (s.feed.shareNow s.cfg)
      { s with feed := { s.feed with share := s.feed.shareNow s.cfg } }
    exact ⟨v, true, e.trans hv, hb (Nat.le_of_lt h)⟩

/-- After a recomputation the share is that of R130 and R131. -/
@[simp] theorem State.recomputeShare_share (s : State) : s.recomputeShare.feed.share = s.feed.shareNow s.cfg := by
  obtain ⟨v, q, h, -⟩ := s.recomputeShare_eq
  rw [h]

end Sys2Proof.Machine
end

