-- ==== Sys2Proof/Laws/Line.lean ====
section
/-! SUPPORT. What the Line Controller's operations can do, said once for each: posting to the Outbound queue, storing a
received frame, logging an error, starting a send and counting idle gaps. -/

namespace Sys2Proof.Machine

/-! ### The queues -/

theorem changeFirst_length {α : Type} (p : α → Bool) (f : α → α) (l : List α) :
    (changeFirst p f l).length = l.length := by
  induction l with
  | nil => rfl
  | cons x xs ih => unfold changeFirst; split <;> simp [ih]

/-- Posting keeps the Outbound queue within its 8 frames (R168, R169). -/
theorem LineController.post_length {l : LineController} (f : OutFrame) (h : l.outQueue.length ≤ 8) :
    (l.post f).outQueue.length ≤ 8 := by
  unfold LineController.post
  split
  · rename_i hc
    simp only [Bool.and_eq_true, List.any_eq_true] at hc
    obtain ⟨e, he, hd⟩ := hc.2
    have := List.length_eraseP_of_mem (p := fun e => e.frame.isDrawClaim) he hd
    have := List.length_pos_of_mem he
    simp only [List.length_append, List.length_singleton]; omega
  · split
    · rename_i hl; simp only [outboundSize] at hl; simp only [List.length_append, List.length_singleton]; omega
    · split
      · unfold LineController.postNoticeFull
        split
        · simpa [changeFirst_length] using h
        · split
          · simpa [changeFirst_length] using h
          · exact h
      · unfold LineController.postOtherFull
        split
        · rename_i e he
          have hm := List.mem_of_find?_eq_some he
          have := List.length_eraseP_of_mem hm (List.find?_some he)
          have := List.length_pos_of_mem hm
          simp only [List.length_append, List.length_singleton]; omega
        · exact h

/-- Posting touches the Outbound queue and its two lost counts alone. -/
theorem LineController.post_eq (l : LineController) (f : OutFrame) :
    l.post f = { l with outQueue := (l.post f).outQueue, noticesLost := (l.post f).noticesLost
                        sendsDropped := (l.post f).sendsDropped } := by
  unfold LineController.post LineController.postNoticeFull LineController.postOtherFull
  repeat' split
  all_goals rfl

/-- A good Ask frame is stored in a queue with room and counted in a full one (R166). -/
theorem LineController.storeAsk_cases (f : AskFrame) (l : LineController) :
    (l.askQueue.length < 8 ∧ l.storeAsk f = { l with askQueue := l.askQueue ++ [f] }) ∨
    (8 ≤ l.askQueue.length ∧ l.storeAsk f = { l with asksLost := min 255 (l.asksLost + 1) }) := by
  unfold LineController.storeAsk askQueueSize
  split
  · exact .inl ⟨‹_›, rfl⟩
  · exact .inr ⟨by omega, rfl⟩

/-- A good Peer frame is always stored, the oldest going from a full queue (R167). -/
theorem LineController.storePeer_cases (f : PeerFrame) (l : LineController) :
    (l.peerQueue.length < 16 ∧ l.storePeer f = { l with peerQueue := l.peerQueue ++ [f] }) ∨
    (16 ≤ l.peerQueue.length ∧
      l.storePeer f = { l with peerQueue := l.peerQueue.drop 1 ++ [f], peerLost := min 255 (l.peerLost + 1) }) := by
  unfold LineController.storePeer peerQueueSize
  split
  · exact .inl ⟨‹_›, rfl⟩
  · exact .inr ⟨by omega, rfl⟩

/-! ### Sending -/

theorem firstToSend_mem {l : List OutEntry} {e : OutEntry} (h : firstToSend l = some e) : e ∈ l := by
  induction l generalizing e with
  | nil => simp [firstToSend] at h
  | cons x xs ih =>
    unfold firstToSend at h
    split at h
    · simp_all
    · split at h
      · simp_all
      · rename_i f hf _
        obtain rfl : f = e := by simpa using h
        exact List.mem_cons_of_mem _ (ih hf)

/-- No queued frame has a lower precedence than the one that is sent (R168). -/
theorem firstToSend_least {l : List OutEntry} {e : OutEntry} (h : firstToSend l = some e) :
    ∀ x ∈ l, e.frame.precedence ≤ x.frame.precedence := by
  induction l generalizing e with
  | nil => simp
  | cons y ys ih =>
    unfold firstToSend at h
    split at h
    · rename_i hn
      have : ys = [] := by
        cases ys with
        | nil => rfl
        | cons z zs => unfold firstToSend at hn; split at hn <;> (try split at hn) <;> simp at hn
      simp_all
    · rename_i f hf
      have hys := ih hf
      split at h
      · obtain rfl : y = e := by simpa using h
        intro x hx
        rcases List.mem_cons.1 hx with rfl | hx
        · exact le_refl _
        · exact le_trans ‹_› (hys x hx)
      · obtain rfl : f = e := by simpa using h
        intro x hx
        rcases List.mem_cons.1 hx with rfl | hx
        · omega
        · exact hys x hx

/-- Everything the start of a send can do (R161). -/
theorem State.startSend_cases (idleBits : Nat) (s : State) :
    s.startSend idleBits = s ∨
    (s.maySend idleBits = true ∧ ∃ e ∈ s.line.outQueue,
      (∀ x ∈ s.line.outQueue, e.frame.precedence ≤ x.frame.precedence) ∧
      s.startSend idleBits =
        { s with
          line := { s.line with outQueue := markSending e.frame.precedence s.line.outQueue, sending := some e.frame }
          out := { s.out with wire := some (e.frame.wire s.cfg.station s.free) }, free := s.free + 2 }) := by
  unfold State.startSend
  cases hm : s.maySend idleBits with
  | false => exact .inl rfl
  | true =>
    cases he : firstToSend s.line.outQueue with
    | none => exact .inl rfl
    | some e => exact .inr ⟨rfl, e, firstToSend_mem he, firstToSend_least he, rfl⟩

/-! ### The error log (R165) -/

/-- Everything the logging of an error can do (R165). -/
theorem State.logError_cases (e : LineError) (s : State) :
    (s.line.errorLog < 255 ∧
      s.logError e = { s with line := { s.line with lastError := e, errorLog := s.line.errorLog + 1 } }) ∨
    (255 ≤ s.line.errorLog ∧ s.line.overflowReported = true ∧
      s.logError e = { s with line := { s.line with lastError := e } }) ∨
    (255 ≤ s.line.errorLog ∧ s.line.overflowReported = false ∧
      s.logError e =
        { s with line := { s.line with lastError := e, overflowReported := true } }.raise .logOverflow) := by
  unfold State.logError
  by_cases h : s.line.errorLog < 255
  · exact .inl ⟨h, by simp [h]⟩
  · cases ho : s.line.overflowReported with
    | true => exact .inr (.inl ⟨by omega, rfl, by simp [h, ho]⟩)
    | false => exact .inr (.inr ⟨by omega, rfl, by simp [h, ho]⟩)

/-! ### Rejoining (R164) -/

/-- Everything a run of idle bit times can do (R164). -/
theorem State.countGaps_cases (idleBits : Nat) (s : State) :
    (s.line.gaps = none ∧ s.countGaps idleBits = s) ∨
    ∃ g, s.line.gaps = some g ∧
      ((g + idleBits / 12 < 100 ∧
          s.countGaps idleBits = { s with line := { s.line with gaps := some (g + idleBits / 12) } }) ∨
        (100 ≤ g + idleBits / 12 ∧ s.countGaps idleBits = (s.setLine 0 0 .full none).setCaution)) := by
  unfold State.countGaps
  cases hg : s.line.gaps with
  | none => exact .inl ⟨rfl, rfl⟩
  | some g =>
    refine .inr ⟨g, rfl, ?_⟩
    by_cases h : g + idleBits / 12 < 100
    · exact .inl ⟨h, by simp [gapsIn, gapBits, rejoinGaps, h]⟩
    · exact .inr ⟨by omega, by simp [gapsIn, gapBits, rejoinGaps, Nat.le_of_not_lt h]⟩

end Sys2Proof.Machine
end

