-- ==== Sys2Proof/Tests/Slice0.lean ====
section
/-! SUPPORT. Tests: the ill-formed commands that WellFormed refuses, the manual's worked figures and one step of each
command on a small part, and for each obligation with hypotheses a state and operands that meet them all. -/

namespace Sys2Proof.Tests

open Sys2Proof Sys2Proof.Machine Sys2Proof.Machine.Safety

/-! ### WellFormed -/

/-- A report of a good pack, in the order of the fields of 1.2. -/
def report (serial soc : Nat) : Report :=
  { checkOk := true, door := .closed, present := true, serial, cls := 0, soc, temperature := 250, health := 900
    packFault := false, stageFault := false, boostFault := false }

theorem test_wellFormed_refuses_wide_serial : (Instr.bayReport 0 (report (2 ^ 32) 500)).wellFormed = false := by decide

theorem test_wellFormed_refuses_id_zero : (Instr.recordExpiry 0).wellFormed = false := by decide

theorem test_wellFormed_refuses_id_65536 : (Instr.recordExpiry 65536).wellFormed = false := by decide

theorem test_wellFormed_accepts_last_id : (Instr.recordExpiry 65535).wellFormed = true := by decide

/-! ### Figures the manual works out -/

/-- Worked Example of chapter 4, station 2: class with K = 3200 Wh, soc 820, health 900, temperature 280, target 900. -/
theorem test_estimate_station2 : estimate 820 900 3200 900 280 1200 = 1047 := by decide

/-- Worked Example of chapter 4, station 3: soc 860, health 800, temperature 250, target 900. -/
theorem test_estimate_station3 : estimate 860 900 3200 800 250 1200 = 515 := by decide

/-! ### The parts the tests start from -/

/-- Loaded values within R174's ranges. -/
def cfg : Setup where
  station := 4
  capacity := #v[3200, 2400, 1600, 3200]
  discardTime := 20
  commitLimit := #v[8, 4, 4, 4]
  reserveMargin := 500
  meterLostLimit := 6000
  isolatedShare := 3000
  retireThreshold := 700
  stockTarget := 900
  handoverTime := 120
  expiryGrace := 300
  boostSlice := 300
  templateLead := 1800
  disableMask := 0

/-- A bay that may hold every class, linked and with nothing in it. -/
def bay (state : BayState) : Bay :=
  { Bay.restart with state := state, mask := 15, reportAge := 3000, lastPresent := some true }

/-- A pack of class 0. -/
def pack (serial soc : Nat) : Pack := ⟨serial, 0, soc, 250, 900, false⟩

/-- A handover whose timer has run out, the original pack still in its bay. -/
def door (id : Nat) : Handover := ⟨0, false, none, id⟩

/-- A bay in each state. -/
def bays : Vector Bay 12 :=
  #v[{ bay .held with pack := some (pack 11 820), reservation := some 1, setpoint := 500, boost := true },
     { bay .stock with pack := some (pack 12 600), setpoint := 300 },
     { bay .opened with
       pack := some (pack 13 950), reservation := some 2, handover := some (door 2), locked := false, door := .opened },
     { bay .ajar with
       pack := some (pack 14 800), reservation := some 3, handover := some (door 3), locked := false, door := .opened },
     { bay .ready with pack := some (pack 15 950), reservation := some 4 },
     { bay (.fault .packHot) with pack := some (pack 16 500) },
     bay (.off .link), { bay (.off .service) with reportAge := 2999 }, { bay (.off .unused) with mask := 0 },
     bay .empty, { bay .checking with dataTimer := some 0 }, { bay .stock with pack := some (pack 17 950) }]

/-- A record of class 0 with target 900. -/
def record (id windowOpen : Nat) (state : RecordState) (atDoor : Bool) : Reservation :=
  ⟨id, 100 + id, 0, 900, windowOpen, windowOpen + 120, state, .ask, false, atDoor⟩

/-- A record in each state, the first of them past its expiry. -/
def book : Book where
  records := [record 5 100 .pending false, record 1 2000 (.bound 0) false, record 2 2000 (.handover 2 .ready) true,
    record 3 2000 (.bound 3) true, record 4 2000 (.ready 4) false]
  commit := #v[5, 0, 0, 0]
  nextId := 6
  expired := [900]
  unknownReleases := 254

/-- An occupied slot whose timer has run out. -/
def slot (ask : Nat) (state : SlotState) (own : Option Offer) (reason : Option NoneReason) : Slot :=
  ⟨9, ask, 104, 0, 900, 600, 600, 500, state, own, reason, none⟩

/-- A peer's entry. -/
def peer (station : Station) (age : Nat) (stale : Bool) : Peer := ⟨station, 2000, 1000, age, stale⟩

/-- A template whose instant has been passed. -/
def template : Template := ⟨777, 0, 900, 3600, 600, false, none, some 3⟩

/-- A part in RUN with a bay, a record and a slot in each state, every timer run out, and these frames received. -/
def sample (asks : List AskFrame) (peers : List PeerFrame) : State :=
  { State.reset with
    clock := ⟨1000, 0⟩, part := .run, cfg := cfg, bays := bays, book := book
    asks := ⟨#v[some (slot 1 (.won 4 515 .new 0) (some ⟨515, false⟩) none), some (slot 2 (.lost 0) (some ⟨515, false⟩) none),
      some (slot 3 (.bidding 0) (some ⟨0, true⟩) none), some (slot 4 (.none 0) none (some .noPack))], 254⟩
    plan := ⟨some ⟨⟨990, bays, book.records, 3000⟩, 50⟩, false, some 0, [0, 1], false⟩
    boost := ⟨.granted 0 0, 0, 11, [0], [1],
      #v[true, true, false, false, false, false, false, false, false, false, false, true]⟩
    feed := { Feed.restart with
      meter := .present, siteLimit := some 30000, measuredDraw := some 100, meterAge := 10001, ownDemand := 3000
      ownPriority := 1000, peers := [peer 7 30000 true, peer 9 6001 false], limit := 29500, share := 3000
      claimTimer := some 0 }
    ts := { TemplateStore.restart with
      slots := TemplateStore.restart.slots.set 0 (some template)
      contexts := TemplateStore.restart.contexts.set 3 (some ⟨0, 0⟩), dayOffset := some 0, rollDue := true }
    line := { LineController.restart with askQueue := asks, peerQueue := peers } }

/-- The state after an outcome. -/
def after : Host.Outcome State Fault Refusal → State
  | .next t => t
  | _ => State.reset

/-! ### The sample is sound -/

theorem all_bays {p : BayNo → Prop} (h0 : p 0) (h1 : p 1) (h2 : p 2) (h3 : p 3) (h4 : p 4) (h5 : p 5) (h6 : p 6)
    (h7 : p 7) (h8 : p 8) (h9 : p 9) (h10 : p 10) (h11 : p 11) : ∀ b, p b := by
  intro b; fin_cases b <;> assumption

theorem all_slots {p : SlotNo → Prop} (h0 : p 0) (h1 : p 1) (h2 : p 2) (h3 : p 3) : ∀ i, p i := by
  intro i; fin_cases i <;> assumption

theorem sample_bays : BaysSound (sample [] []) := by
  unfold BaysSound
  apply all_bays <;> refine ⟨?_, ?_, ?_, ?_, ?_, ?_⟩ <;>
    simp [BayFields, PackPresence, SetpointSound, LockSound, PackSound, sample, State.bay, bays, bay, Bay.restart, door,
      pack, BayState.atDoor, BayState.accepted, BayState.reserved, cfg, Bay.chargeable,
      Pack.chargeable]

theorem sample_book : BookSound (sample [] []) := by
  refine ⟨by decide, ?_, by decide, by decide, ?_, by decide, by decide, by decide, by decide, by decide, by decide⟩
  · simp [sample, book, record, Before]
  · simp [sample, book, record, RecordSound]

theorem sample_bindings : BindingsAgree (sample [] []) := by
  constructor
  · simp [sample, book, record, RecordAgrees, State.bay, bays, bay]
  · apply all_bays <;> intro id h <;> simp [sample, State.bay, bays, bay, Bay.restart] at h <;> subst h <;> decide

theorem sample_slots : SlotsSound (sample [] []) := by
  refine ⟨?_, ?_, by decide⟩
  · apply all_slots <;> apply all_slots <;> intro x y h1 h2 <;> simp [sample, slot] at h1 h2 <;> subst h1 h2 <;> simp
  · apply all_slots <;> intro x h <;> simp [sample, slot] at h <;> subst h <;> simp
    rintro _ _ _ _ rfl - - -; decide

theorem sample_plan : PlanSound (sample [] []) := by unfold PlanSound; decide

theorem sample_draw : DrawWithinShare (sample [] []) := by unfold DrawWithinShare; decide

theorem sample_boost : BoostSound (sample [] []) := by unfold BoostSound; decide

theorem sample_feed : FeedSound (sample [] []) := by unfold FeedSound; decide

theorem sample_templates : TemplatesSound (sample [] []) := by
  intro t x h
  fin_cases t <;> simp [sample, TemplateStore.restart, template] at h
  subst h; simp

theorem sample_line (a : List AskFrame) (p : List PeerFrame) (ha : a.length ≤ 8) (hp : p.length ≤ 16) :
    LineSound (sample a p) := by
  simp [LineSound, sample, LineController.restart, stateOfCounts, guardedCount, ha, hp]

theorem sample_sound (a : List AskFrame) (p : List PeerFrame) (ha : a.length ≤ 8) (hp : p.length ≤ 16) :
    Sound (sample a p) where
  start := by constructor <;> intro h <;> cases h
  bays := sample_bays
  book := sample_book
  bindings := sample_bindings
  slots := sample_slots
  plan := sample_plan
  draw := sample_draw
  boost := sample_boost
  feed := sample_feed
  line := sample_line a p ha hp
  templates := sample_templates

theorem sample_running (a : List AskFrame) (p : List PeerFrame) : Running (sample a p) := ⟨rfl, rfl, rfl⟩

/-- A part UNSET under SELECT with these frames received and this much of a record taken. -/
def unset (asks : List AskFrame) (assembly : Option Assembly) : State :=
  { State.reset with
    pins := ⟨false, true, false⟩, assembly := assembly, line := { LineController.restart with askQueue := asks } }

theorem unset_waiting (a : List AskFrame) (m : Option Assembly) : Waiting (unset a m) := ⟨rfl, rfl, rfl⟩

theorem unset_start (a : List AskFrame) (m : Option Assembly) : StartSound (unset a m) := by
  constructor
  · intro _
    refine ⟨rfl, rfl, rfl, rfl, rfl, rfl, rfl, rfl, rfl, ?_⟩
    apply all_bays <;> rfl
  · intro h; cases h

/-! ### A state and operands that meet the hypotheses of each obligation -/

/-- The sample with nothing received. -/
abbrev s0 : State := sample [] []

theorem witness_StepTakesFrontCommand : { s0 with pending := [.dayRoll] }.pending = Instr.dayRoll :: [] := rfl

theorem witness_IdleStepIsOneMillisecond :
    (s0.pending = [] ∧ s0.pins.restart = false ∧ s0.part = .run) ∧
    (State.reset.pending = [] ∧ State.reset.pins.restart = false ∧ State.reset.part = .unset) := by decide

/-- For the nine statements of what every step keeps: a sound part takes a step, idle and with a command. -/
theorem witness_every_step :
    (Sound s0 ∧ ∃ t, step s0 = .next t) ∧
    (Sound { s0 with pending := [.claim] } ∧ ∃ t, step { s0 with pending := [.claim] } = .next t) :=
  ⟨⟨sample_sound _ _ (by decide) (by decide), _, rfl⟩,
    ⟨{ start := by constructor <;> intro h <;> cases h
       bays := sample_bays, book := sample_book, bindings := sample_bindings, slots := sample_slots, plan := sample_plan
       draw := sample_draw, boost := sample_boost, feed := sample_feed
       line := sample_line [] [] (by decide) (by decide), templates := sample_templates }, _, rfl⟩⟩

/-- UNSET and restart held both occur. -/
theorem witness_UnsetKeepsRestartValues :
    (unset [] none).part = .unset ∧ StartSound (unset [] none) ∧
    (after (exec .restartAsserted s0)).pins.restart = true := ⟨rfl, unset_start _ _, by decide⟩

theorem witness_BayOrdersFollowCommandedValues :
    isRestart s0 (.linkLoss 0) = false ∧ ∃ t, exec (.linkLoss 0) s0 = .next t ∧ (t.bay 0).setpoint ≠ (s0.bay 0).setpoint :=
  ⟨rfl, _, rfl, by decide⟩

theorem witness_ChangesRequestPlanPass :
    Sound s0 ∧ s0.part = .run ∧ s0.pins.restart = false ∧ isRestart s0 (.linkLoss 0) = false ∧
    Instr.linkLoss 0 ≠ .passCompletion ∧
    ∃ t, exec (.linkLoss 0) s0 = .next t ∧ ∃ b : BayNo, (t.bay b).state.code ≠ (s0.bay b).state.code :=
  ⟨sample_sound _ _ (by decide) (by decide), rfl, rfl, rfl, by decide, _, rfl, 0, by decide⟩

theorem witness_RunStandsUntilRestart :
    isRestart s0 .dayRoll = false ∧ s0.part = .run ∧ (∃ t, exec .dayRoll s0 = .next t) ∧
    ({ s0 with boost.converter := .faulted }.boost.converter = .faulted) ∧
    ({ s0 with flags := 1 }.flags.getLsbD 0 = true) ∧
    ((after (exec (.sendStart 12) { s0 with line.outQueue := [⟨.notice .logOverflow, false⟩] })).out.wire ≠ none) :=
  ⟨rfl, rfl, ⟨_, rfl⟩, rfl, by decide, by decide⟩

/-- The premises at station 2 of chapter 4's example, and each clause at the edge of its range. -/
theorem witness_EstimateFollowsItsInputs :
    (820 ≤ 860 ∧ 860 ≤ 1000 ∧ 900 ≤ 1000 ∧ 1000 ≤ 1000 ∧ 700 ≤ 900 ∧ 900 ≤ 1000 ∧ 3200 * 700 / 1000 ≠ 0 ∧
      tempFactor 450 ≤ tempFactor 280 ∧ (s0.bay 0).pack = some (pack 11 820)) ∧
    (3200 * 0 / 1000 = 0 ∧ tempFactor (-1) = 0 ∧ tempFactor 500 = 0 ∧ tempFactor 0 = 300 ∧ tempFactor 499 = 200) ∧
    (∀ x ∈ bandTable, x.1 < x.2.1 ∧ x.2.1 ≤ 1000) ∧ (799 < 800 ∧ 800 < 801 ∧ 949 < 950 ∧ 950 < 951) ∧
    (s0.bay 0).chargeable cfg = true ∧ ¬ ((s0.bay 0).state = .held ∧ 900 ≤ 820) ∧ ((s0.bay 0).state = .held ∧ 820 ≤ 820) ∧
    (s0.bay 9).chargeable cfg = false := by decide

/-- The first PENDING record of the sample, and its best candidate: bay 11, whose pack stands at the target. -/
theorem witness_PlanKeepsUrgencyAndShare :
    s0.snapshot.records = [] ++ record 5 100 .pending false :: s0.snapshot.records.tail ∧
    FreshCandidate s0.snapshot (record 5 100 .pending false) 11 ∧
    normalEstimate cfg 900 s0.snapshot.bays[(11 : BayNo)] < normalEstimate cfg 900 s0.snapshot.bays[(1 : BayNo)] ∧
    ∀ a : BayNo, (s0.bay a).state = .stock → a = 1 ∨ a = 11 :=
  ⟨rfl, ⟨by decide, pack 17 950, rfl, rfl, rfl⟩, by decide, by decide⟩

/-- The record BOUND to bay 0 is behind there, and bay 11, still free while no record is PENDING, could be ready in time. -/
theorem witness_PlanKeepsUrgencyAndShare_rebinds :
    let n := { s0.snapshot with records := s0.snapshot.records.tail }
    let r := record 1 2000 (.bound 0) false
    r ∈ n.records ∧ BehindAt cfg n r 0 ∧ InTime cfg n n.view r 11 ∧ ¬ InTime cfg n n.view r 1 ∧ CandidateIn n.view r 1 ∧
    BestFor cfg n.view r (InTime cfg n n.view r) 11 := by
  have late : ¬ InTime cfg { s0.snapshot with records := s0.snapshot.records.tail }
      { s0.snapshot with records := s0.snapshot.records.tail }.view (record 1 2000 (.bound 0) false) 1 :=
    fun h => absurd h.2 (by decide)
  have free : ∀ a : BayNo, (s0.bay a).state = .stock → a = 1 ∨ a = 11 := by decide
  have fit : InTime cfg { s0.snapshot with records := s0.snapshot.records.tail }
      { s0.snapshot with records := s0.snapshot.records.tail }.view (record 1 2000 (.bound 0) false) 11 :=
    ⟨⟨by decide, by decide, pack 17 950, rfl, rfl, rfl⟩, by decide⟩
  refine ⟨by decide, ⟨rfl, by decide, by decide⟩, fit, late, ⟨by decide, by decide, pack 12 600, rfl, rfl, rfl⟩, fit, ?_⟩
  intro a h
  obtain rfl | rfl := free a h.1.1
  · exact absurd h late
  · exact .inr ⟨rfl, le_rfl⟩

/-- Two cabinets that know one another's claim. -/
def twoFeeds : List (Setup × Feed) :=
  [(cfg, { Feed.restart with limit := 5000, ownDemand := 4000, ownPriority := 1000, peers := [⟨5, 3000, 500, 0, false⟩] }),
   (cfg, { Feed.restart with limit := 5000, ownDemand := 3000, ownPriority := 500, peers := [⟨4, 4000, 1000, 0, false⟩] })]

theorem witness_SharesOfOneKioskFitItsLimit :
    ∀ x ∈ twoFeeds, x.2.limit = 5000 ∧ x.2.trim ≤ 1000 ∧ x.2.ownPriority ≤ x.2.ownDemand ∧
      x.2.ownDemand + (x.2.peers.map (·.demand)).sum = (twoFeeds.map (·.2.ownDemand)).sum ∧
      x.2.ownPriority + (x.2.peers.map (·.priority)).sum = (twoFeeds.map (·.2.ownPriority)).sum := by decide

/-- A store whose check does not match, one whose write was cut short, and a valid one. -/
theorem witness_RestartFollowsTheStore :
    checkOf State.reset.store.record ≠ State.reset.store.check ∧
    { s0 with store := ⟨List.replicate 42 0, 4660, false⟩ }.store.ended = false ∧
    checkOf { s0 with store := ⟨List.replicate 42 0, 4660, true⟩ }.store.record = 4660 := by decide

/-- A record whose items hold both ends of their ranges, values beyond them and, where an item has a default, 65,535. -/
def itemBytes : List Byte :=
  bytesOf 1 15 ++ List.replicate 6 0 ++ bytesOf 2 500 ++ bytesOf 2 8000 ++ bytesOf 2 499 ++ bytesOf 2 8001 ++
    bytesOf 1 1 ++ bytesOf 1 0 ++ bytesOf 1 32 ++ bytesOf 1 33 ++ bytesOf 1 255 ++ bytesOf 3 0 ++ bytesOf 3 250000 ++
    bytesOf 3 250001 ++ bytesOf 2 65535 ++ bytesOf 2 500 ++ bytesOf 2 300 ++ bytesOf 2 901 ++ bytesOf 2 119 ++
    bytesOf 2 7200 ++ [0]

theorem witness_LoadedValuesLieInTheirRanges :
    itemBytes.length = 42 ∧ field itemBytes 0 1 = 15 ∧ field itemBytes 7 2 = 500 ∧ field itemBytes 9 2 = 8000 ∧
    field itemBytes 11 2 < 500 ∧ 8000 < field itemBytes 13 2 ∧ field itemBytes 15 1 ≠ 0 ∧ field itemBytes 16 1 = 0 ∧
    field itemBytes 17 1 = 32 ∧ 32 < field itemBytes 18 1 ∧ field itemBytes 20 3 = 0 ∧ field itemBytes 23 3 = 250000 ∧
    250000 < field itemBytes 26 3 ∧ field itemBytes 29 2 = 65535 ∧ field itemBytes 31 2 = 500 ∧ field itemBytes 33 2 = 300 ∧
    field itemBytes 35 2 > 900 ∧ field itemBytes 37 2 < 120 ∧ field itemBytes 39 2 = 7200 := by decide

theorem witness_SetupInRunIsIgnored :
    Running (sample [⟨9, .setup 0 []⟩] []) ∧ (sample [⟨9, .setup 0 []⟩] []).line.askQueue = ⟨9, .setup 0 []⟩ :: [] :=
  ⟨sample_running _ _, rfl⟩

/-- The last piece of a record of zeros, with its check 4660. -/
def lastPiece : List Byte := List.replicate 5 0 ++ bytesOf 2 4660

theorem witness_SetupPiecesAreAssembled :
    Waiting (unset [⟨9, .setup 4 (List.replicate 7 0)⟩] (some ⟨4, List.replicate 37 0⟩)) ∧
    checkOf ((List.replicate 37 (0 : Byte) ++ List.replicate 7 0).take 42) ≠
      BitVec.ofNat 16 (field (List.replicate 37 (0 : Byte) ++ List.replicate 7 0) 42 2) ∧
    (after (exec .restartAsserted s0)).pins.restart = true :=
  ⟨unset_waiting _ _, by decide, by decide⟩

theorem witness_SetupCompletesIntoRun :
    let s := unset [⟨9, .setup 4 lastPiece⟩] (some ⟨4, List.replicate 37 0⟩)
    Waiting s ∧ UnsetHeld s ∧ s.line.askQueue = ⟨9, .setup 4 lastPiece⟩ :: [] ∧
    s.assembly = some ⟨4, List.replicate 37 0⟩ ∧ lastPiece.length = 7 ∧
    checkOf ((List.replicate 37 0 ++ lastPiece).take 42) =
      BitVec.ofNat 16 (field (List.replicate 37 0 ++ lastPiece) 42 2) :=
  ⟨unset_waiting _ _, (unset_start _ _).1, rfl, rfl, by decide, by decide⟩

theorem witness_ReportThatMovesNoBay :
    (Running s0 ∧ { report 16 500 with checkOk := false }.checkOk = false) ∧
    (Waiting (unset [] none) ∧ (report 16 500).checkOk = true) ∧
    (Running s0 ∧ (report 16 500).boostFault = false ∧ (s0.bay 7).state = .off .service ∧ (s0.bay 8).state = .off .unused) :=
  ⟨⟨sample_running _ _, rfl⟩, ⟨unset_waiting _ _, rfl⟩, sample_running _ _, rfl, rfl, rfl⟩

theorem witness_ReportTakesPackIn :
    Running s0 ∧ BoostSound s0 ∧ (∀ b, SetpointSound s0.cfg (s0.bay b)) ∧ (∀ b, PackPresence (s0.bay b)) ∧
    (report 20 500).checkOk = true ∧ (report 20 500).boostFault = false ∧
    (s0.bay 9).state = .empty ∧ (s0.bay 10).state = .checking ∧ (s0.bay 6).state = .off .link :=
  ⟨sample_running _ _, sample_boost, fun b => (sample_bays b).2.2.1, fun b => (sample_bays b).2.1, rfl, rfl, rfl, rfl, rfl⟩

/-- Each case of R10 that takes a bay away from its pack, at the HELD bay 0. -/
theorem witness_ReportTakesPackAway :
    Running s0 ∧ BoostSound s0 ∧ BindingsAgree s0 ∧ (s0.book.records.map (·.id)).Nodup ∧ BayFields (s0.bay 0) ∧
    (s0.bay 0).state ∈ [BayState.stock, .held, .ready] ∧ (s0.bay 0).pack = some (pack 11 820) ∧
    takenAway 15 { report 11 820 with stageFault := true } (pack 11 820) = some (.fault .stageFault) ∧
    takenAway 15 { report 0 0 with present := false } (pack 11 820) = some .empty ∧
    takenAway 15 (report 12 820) (pack 11 820) = some .stock ∧
    takenAway 15 { report 11 820 with packFault := true } (pack 11 820) = some (.fault .packFault) ∧
    takenAway 15 { report 11 820 with temperature := 600 } (pack 11 820) = some (.fault .packHot) :=
  ⟨sample_running _ _, sample_boost, sample_bindings, by decide, (sample_bays 0).1, by decide, rfl, by decide, by decide,
    by decide, by decide, by decide⟩

theorem witness_ReportKeepsStockPack :
    Running s0 ∧ (s0.bay 1).state = .stock ∧ (s0.bay 1).pack = some (pack 12 600) ∧
    takenAway 15 (report 12 900) (pack 12 600) = none ∧ takenAway 15 (report 0 0) (pack 12 600) = none :=
  ⟨sample_running _ _, rfl, rfl, by decide, by decide⟩

/-- Up at the target itself, down at 31 below it, and neither at 30 below it. -/
theorem witness_ReportCrossesTarget :
    Running s0 ∧ BoostSound s0 ∧ (∀ b, BayFields (s0.bay b)) ∧ (∀ b, SetpointSound s0.cfg (s0.bay b)) ∧
    (s0.book.records.map (·.id)).Nodup ∧ record 1 2000 (.bound 0) false ∈ s0.book.records ∧
    record 4 2000 (.ready 4) false ∈ s0.book.records ∧ (s0.bay 0).reservation = some 1 ∧ (s0.bay 4).reservation = some 4 ∧
    (s0.bay 0).state = .held ∧ (s0.bay 4).state = .ready ∧
    takenAway 15 (report 11 900) (pack 11 820) = none ∧ 900 ≤ (report 11 900).soc ∧
    takenAway 15 (report 15 869) (pack 15 950) = none ∧ (report 15 869).soc + 30 < 900 ∧
    ¬ (report 15 870).soc + 30 < 900 :=
  ⟨sample_running _ _, sample_boost, fun b => (sample_bays b).1, fun b => (sample_bays b).2.2.1, by decide, by decide,
    by decide, rfl, rfl, rfl, rfl, by decide, by decide, by decide, by decide, by decide⟩

/-- A part whose bay 5 is in FAULT(STAGE_FAULT). -/
def staged : State := s0.setBay 5 { bay (.fault .stageFault) with pack := some (pack 16 500) }

theorem witness_ReportInFault :
    Running s0 ∧ BoostSound s0 ∧ BayFields (s0.bay 5) ∧ BayFields (staged.bay 5) ∧
    SetpointSound s0.cfg (s0.bay 5) ∧ (s0.bay 5).state = .fault .packHot ∧
    (staged.bay 5).state = .fault .stageFault ∧
    faultEnds .packHot (some (pack 16 500)) 15 { report 0 0 with present := false } = some .empty ∧
    faultEnds .packHot (some (pack 16 500)) 15 (report 16 500) = none ∧
    faultEnds .stageFault (some (pack 16 500)) 15 { report 16 500 with stageFault := true } = none :=
  ⟨sample_running _ _, sample_boost, (sample_bays 5).1, by unfold BayFields; decide, (sample_bays 5).2.2.1, rfl, rfl,
    by decide, by decide, by decide⟩

theorem witness_ReportWithBoostFault :
    Running s0 ∧ { report 11 820 with boostFault := true }.checkOk = true ∧ s0.boost.converter = .granted 0 0 ∧
    { s0 with boost.converter := .idle }.boost.converter = .idle := ⟨sample_running _ _, rfl, rfl, rfl⟩

theorem witness_ReportInOpenNotesRemoval :
    Running s0 ∧ BayFields (s0.bay 2) ∧ SetpointSound s0.cfg (s0.bay 2) ∧ LockSound (s0.bay 2) ∧
    (s0.bay 2).state = .opened ∧ (s0.bay 2).handover = some (door 2) ∧
    removesPack { report 0 0 with present := false } (s0.bay 2) (door 2) = true ∧
    removesPack (report 13 950) (s0.bay 2) (door 2) = false :=
  ⟨sample_running _ _, (sample_bays 2).1, (sample_bays 2).2.2.1, (sample_bays 2).2.2.2.1, rfl, rfl, by decide, by decide⟩

/-- The report that shows another pack behind a closing door. -/
theorem witness_ReportCompletesSwap :
    Running s0 ∧ BoostSound s0 ∧ BayFields (s0.bay 2) ∧ SetpointSound s0.cfg (s0.bay 2) ∧ LockSound (s0.bay 2) ∧
    (s0.book.records.map (·.id)).Nodup ∧ (s0.bay 2).state = .opened ∧ (s0.bay 2).handover = some (door 2) ∧
    record 2 2000 (.handover 2 .ready) true ∈ s0.book.records ∧ (s0.bay 2).door = .opened ∧
    (report 30 400).door = .closed ∧ (report 30 400).present = true ∧
    removesPack (report 30 400) (s0.bay 2) (door 2) = true :=
  ⟨sample_running _ _, sample_boost, (sample_bays 2).1, (sample_bays 2).2.2.1, (sample_bays 2).2.2.2.1, by decide, rfl,
    rfl, by decide, rfl, rfl, rfl, by decide⟩

theorem witness_ReportInAjar :
    Running s0 ∧ BoostSound s0 ∧ BayFields (s0.bay 3) ∧ SetpointSound s0.cfg (s0.bay 3) ∧ LockSound (s0.bay 3) ∧
    (s0.book.records.map (·.id)).Nodup ∧ (s0.bay 3).state = .ajar ∧ (s0.bay 3).handover = some (door 3) ∧
    (s0.bay 3).pack = some (pack 14 800) ∧ record 3 2000 (.bound 3) true ∈ s0.book.records ∧
    s0.clock.seconds < (record 3 2000 (.bound 3) true).expiry s0.cfg ∧
    pendingAfter (s0.bay 3) (report 14 800) = none ∧
    pendingAfter (s0.bay 3) { report 14 800 with packFault := true } = some .packFault :=
  ⟨sample_running _ _, sample_boost, (sample_bays 3).1, (sample_bays 3).2.2.1, (sample_bays 3).2.2.2.1, by decide, rfl,
    rfl, rfl, by decide, by decide, by decide, by decide⟩

/-- The pack of bay 2 taken out, its handover's timer at 0. -/
def removed : State :=
  s0.setBay 2 { s0.bay 2 with pack := none, handover := some ⟨0, true, some 13, 2⟩ }

theorem witness_HandoverTimerEndsHandover :
    Running s0 ∧ BoostSound s0 ∧ BayFields (s0.bay 2) ∧ SetpointSound s0.cfg (s0.bay 2) ∧ LockSound (s0.bay 2) ∧
    (s0.book.records.map (·.id)).Nodup ∧ (s0.bay 2).state = .opened ∧ (s0.bay 2).handover = some (door 2) ∧
    (door 2).timer = 0 ∧ record 2 2000 (.handover 2 .ready) true ∈ s0.book.records ∧
    (s0.bay 2).lastPresent = some true ∧ (s0.bay 2).pendingFault = none ∧ (s0.bay 2).door = .opened ∧
    s0.clock.seconds < (record 2 2000 (.handover 2 .ready) true).expiry s0.cfg ∧
    (removed.bay 2).handover = some ⟨0, true, some 13, 2⟩ ∧ (removed.bay 2).pack = none :=
  ⟨sample_running _ _, sample_boost, (sample_bays 2).1, (sample_bays 2).2.2.1, (sample_bays 2).2.2.2.1, by decide, rfl,
    rfl, rfl, by decide, rfl, rfl, rfl, by decide, rfl, rfl⟩

theorem witness_DoorAjarTimerRepeatsNotice :
    Running s0 ∧ (s0.bay 3).state = .ajar ∧ (s0.bay 3).handover = some (door 3) ∧ (door 3).timer = 0 :=
  ⟨sample_running _ _, rfl, rfl, rfl⟩

/-- The sample long after the windows of its records. -/
def late : State := { s0 with clock := ⟨5000, 0⟩ }

theorem late_sound : Sound late where
  start := by constructor <;> intro h <;> cases h
  bays := sample_bays
  book := sample_book
  bindings := sample_bindings
  slots := sample_slots
  plan := sample_plan
  draw := sample_draw
  boost := sample_boost
  feed := sample_feed
  line := sample_line [] [] (by decide) (by decide)
  templates := sample_templates

theorem witness_AtDoorRecordExpiresAsDoorClears :
    Sound late ∧ (∃ t, exec (.bayReport 3 (report 14 800)) late = .next t) ∧
    record 3 2000 (.bound 3) true ∈ late.book.records ∧ (record 3 2000 (.bound 3) true).expiry late.cfg ≤ 5000 :=
  ⟨late_sound, ⟨_, rfl⟩, by decide, by decide⟩

theorem witness_BayTakenOutOfUse :
    Running s0 ∧ BoostSound s0 ∧ BindingsAgree s0 ∧ (s0.book.records.map (·.id)).Nodup ∧ (∀ b, BayFields (s0.bay b)) ∧
    (∀ b, SetpointSound s0.cfg (s0.bay b)) ∧
    (∀ r ∈ s0.book.records, r.atDoor = true → s0.clock.seconds < r.expiry s0.cfg) ∧
    ((s0.bay 0).state = .held ∧ 3000 ≤ (s0.bay 0).reportAge) ∧ ((s0.bay 3).state = .ajar ∧ 3000 ≤ (s0.bay 3).reportAge) ∧
    ((s0.bay 10).state = .checking ∧ (s0.bay 10).dataTimer = some 0) ∧
    (sample [⟨9, .service 0 0⟩] []).line.askQueue = ⟨9, .service (0 : BayNo).val 0⟩ :: [] :=
  ⟨sample_running _ _, sample_boost, sample_bindings, by decide, fun b => (sample_bays b).1,
    fun b => (sample_bays b).2.2.1, by decide, ⟨rfl, by decide⟩, ⟨rfl, by decide⟩, ⟨rfl, rfl⟩, rfl⟩

theorem witness_LinkLossEndsHandover :
    Running s0 ∧ BoostSound s0 ∧ BayFields (s0.bay 2) ∧ SetpointSound s0.cfg (s0.bay 2) ∧ LockSound (s0.bay 2) ∧
    (s0.book.records.map (·.id)).Nodup ∧ 3000 ≤ (s0.bay 2).reportAge ∧ (s0.bay 2).state = .opened ∧
    (s0.bay 2).handover = some (door 2) ∧ (door 2).packRemoved = false ∧
    record 2 2000 (.handover 2 .ready) true ∈ s0.book.records ∧
    s0.clock.seconds < (record 2 2000 (.handover 2 .ready) true).expiry s0.cfg ∧
    (removed.bay 2).handover = some ⟨0, true, some 13, 2⟩ ∧ (removed.bay 2).pack = none :=
  ⟨sample_running _ _, sample_boost, (sample_bays 2).1, (sample_bays 2).2.2.1, (sample_bays 2).2.2.2.1, by decide,
    by decide, rfl, rfl, rfl, by decide, by decide, rfl, rfl⟩

theorem witness_ServiceOtherCases :
    Running (sample [⟨9, .service 7 1⟩] []) ∧ BoostSound (sample [⟨9, .service 7 1⟩] []) ∧
    (sample [⟨9, .service 7 1⟩] []).line.askQueue = ⟨9, .service 7 1⟩ :: [] ∧
    (sample [⟨9, .service 7 1⟩] []).ts.contexts[(9 : Station)] = none ∧
    (s0.bay 7).state = .off .service ∧ (s0.bay 7).lastPresent = some true ∧ (s0.bay 7).reportAge < 3000 ∧
    BayFields (s0.bay 7) ∧ SetpointSound s0.cfg (s0.bay 7) ∧ (s0.bay 7).pack = none ∧
    (s0.bay 2).state = .opened ∧ (s0.bay 6).state = .off .link ∧ (s0.bay 8).state = .off .unused ∧ 11 < 12 :=
  ⟨sample_running _ _, sample_boost, rfl, rfl, rfl, rfl, by decide, (sample_bays 7).1, (sample_bays 7).2.2.1, rfl, rfl, rfl,
    rfl, by decide⟩

theorem witness_AddressedFrameCancelsContext :
    Running (sample [⟨3, .statusAsk 0⟩] []) ∧ (sample [⟨3, .statusAsk 0⟩] []).line.askQueue = ⟨3, .statusAsk 0⟩ :: [] ∧
    (sample [⟨3, .statusAsk 0⟩] []).ts.contexts[(3 : Station)] = some ⟨0, 0⟩ := ⟨sample_running _ _, rfl, rfl⟩

/-- The sample with its first slot free, and a new ask. -/
def asking : State :=
  { sample [⟨2, .swapAsk 1 70321 0 900 600 600⟩] [] with asks.slots := s0.asks.slots.set 0 none }

theorem witness_NewAskOpensSlotOrIsDropped :
    Running asking ∧ asking.line.askQueue = ⟨2, .swapAsk 1 70321 0 900 600 600⟩ :: [] ∧
    (∀ (i : SlotNo) (x : Slot), asking.asks.slots[i] = some x → ¬ (x.terminal = 2 ∧ x.ask = 1)) ∧
    asking.asks.slots[(0 : SlotNo)] = none ∧ (∀ i : SlotNo, s0.asks.slots[i] ≠ none) := by
  refine ⟨⟨rfl, rfl, rfl⟩, rfl, ?_, rfl, by decide⟩
  apply all_slots <;> intro x h <;> simp [asking, sample, slot] at h <;> subst h <;> simp

/-- A repeat of the ask in a slot that matches it, and one that does not. -/
theorem witness_RepeatIsAnsweredByItsSlot :
    let s := sample [⟨9, .swapAsk 1 104 0 900 600 600⟩] []
    Running s ∧ SlotsSound s ∧ s.line.askQueue = ⟨9, .swapAsk 1 104 0 900 600 600⟩ :: [] ∧
    s.asks.slots[(0 : SlotNo)] = some (slot 1 (.won 4 515 .new 0) (some ⟨515, false⟩) none) ∧
    s.asks.slots[(1 : SlotNo)] = some (slot 2 (.lost 0) (some ⟨515, false⟩) none) ∧
    s.asks.slots[(2 : SlotNo)] = some (slot 3 (.bidding 0) (some ⟨0, true⟩) none) ∧
    s.asks.slots[(3 : SlotNo)] = some (slot 4 (.none 0) none (some .noPack)) ∧
    max 500 (min 1000 900) = 900 ∧ max 120 (min 3600 600) = 600 :=
  ⟨sample_running _ _, sample_slots, rfl, rfl, rfl, rfl, rfl, by decide, by decide⟩

theorem witness_OfferIsHeardByRank :
    let s := sample [] [⟨5, .offer 9 3 515 false⟩]
    Running s ∧ SlotsSound s ∧ s.line.peerQueue = ⟨5, .offer 9 3 515 false⟩ :: [] ∧ (5 : Station) ≠ s.cfg.station ∧
    s.asks.slots[(2 : SlotNo)] = some (slot 3 (.bidding 0) (some ⟨0, true⟩) none) ∧
    (slot 3 (.bidding 0) (some ⟨0, true⟩) none).heard = none ∧
    Ranked ⟨0, true, 9⟩ ⟨0, false, 2⟩ ∧ Ranked ⟨0, true, 2⟩ ⟨0, true, 9⟩ ∧ ¬ Ranked ⟨515, false, 5⟩ ⟨515, false, 5⟩ :=
  ⟨sample_running _ _, sample_slots, rfl, by decide, rfl, rfl, by unfold Ranked; decide, by unfold Ranked; decide,
    by unfold Ranked; decide⟩

/-- A new offer of the sample's third slot, for a rider without a record. -/
def bidding : State :=
  { s0 with
    asks.slots := s0.asks.slots.set 2 (some { slot 3 (.bidding 0) (some ⟨515, false⟩) none with token := 70321 }) }

theorem witness_BidWindowEndResolves :
    Running s0 ∧ BookSound s0 ∧ s0.asks.slots[(2 : SlotNo)] = some (slot 3 (.bidding 0) (some ⟨0, true⟩) none) ∧
    record 4 2000 (.ready 4) false ∈ s0.book.records ∧ (record 4 2000 (.ready 4) false).token = 104 ∧
    bidding.asks.slots[(2 : SlotNo)] =
      some { slot 3 (.bidding 0) (some ⟨515, false⟩) none with token := 70321 } ∧
    (∀ r ∈ bidding.book.records, r.token ≠ 70321) ∧ RoomFor bidding 0 :=
  ⟨sample_running _ _, sample_book, rfl, by decide, rfl, rfl, by decide, by unfold RoomFor; decide⟩

/-- One record due, one not, one at the door, and a slot won by a new offer. -/
theorem witness_ExpiryAndDiscardRemoveRecord :
    Running s0 ∧ BookSound s0 ∧ BindingsAgree s0 ∧ BoostSound s0 ∧ (∀ b, BayFields (s0.bay b)) ∧
    (record 5 100 .pending false ∈ s0.book.records ∧ (record 5 100 .pending false).expiry s0.cfg ≤ s0.clock.seconds) ∧
    (record 3 2000 (.bound 3) true ∈ s0.book.records ∧
      s0.clock.seconds < (record 3 2000 (.bound 3) true).expiry s0.cfg) ∧
    (record 4 2000 (.ready 4) false ∈ s0.book.records ∧
      s0.asks.slots[(0 : SlotNo)] = some (slot 1 (.won 4 515 .new 0) (some ⟨515, false⟩) none)) ∧
    s0.asks.slots[(1 : SlotNo)] = some (slot 2 (.lost 0) (some ⟨515, false⟩) none) :=
  ⟨sample_running _ _, sample_book, sample_bindings, sample_boost, fun b => (sample_bays b).1, ⟨by decide, by decide⟩,
    ⟨by decide, by decide⟩, ⟨by decide, rfl⟩, rfl⟩

theorem witness_ReleaseRemovesRecord :
    let s := sample [⟨9, .release 4⟩] []
    Running s ∧ BookSound s ∧ BindingsAgree s ∧ BoostSound s ∧ (∀ b, BayFields (s.bay b)) ∧
    s.line.askQueue = ⟨9, .release 4⟩ :: [] ∧ s.ts.contexts[(9 : Station)] = none ∧
    record 4 2000 (.ready 4) false ∈ s.book.records ∧ record 3 2000 (.bound 3) true ∈ s.book.records ∧
    (∀ r ∈ s.book.records, r.id ≠ 6) :=
  ⟨sample_running _ _, sample_book, sample_bindings, sample_boost, fun b => (sample_bays b).1, rfl, rfl, by decide,
    by decide, by decide⟩

/-- GO at the READY bay 4; the other replies by the other records and tokens. -/
theorem witness_ClaimGoesOrIsAnswered :
    let s := sample [⟨9, .claim 104⟩] []
    Running s ∧ BookSound s ∧ BoostSound s ∧ s.line.askQueue = ⟨9, .claim 104⟩ :: [] ∧
    (record 4 2000 (.ready 4) false ∈ s.book.records ∧ (s.bay 4).pack = some (pack 15 950) ∧ (s.bay 4).state = .ready ∧
      (s.bay 4).reservation = some 4 ∧ BayFields (s.bay 4)) ∧
    (record 1 2000 (.bound 0) false ∈ s.book.records ∧ (pack 11 799).soc < max 500 (900 - 100) ∧
      max 500 (900 - 100) ≤ (pack 11 800).soc) ∧
    record 5 100 .pending false ∈ s.book.records ∧ record 3 2000 (.bound 3) true ∈ s.book.records ∧
    (900 ∈ s.book.expired ∧ ∀ r ∈ s.book.records, r.token ≠ 900) :=
  ⟨sample_running _ _, sample_book, sample_boost, rfl, ⟨by decide, rfl, rfl, rfl, (sample_bays 4).1⟩,
    ⟨by decide, by decide, by decide⟩, by decide, by decide, by decide, by decide⟩

theorem witness_PeriodAndFallenShareStartPass :
    Running s0 ∧ s0.plan.period = some 0 ∧ (∃ p, s0.plan.pass = some p) ∧
    { s0 with feed.share := 2990 }.feed.share < 3000 := ⟨sample_running _ _, rfl, ⟨_, rfl⟩, by decide⟩

theorem witness_CompletionAppliesResults :
    Running s0 ∧ Sound s0 ∧ s0.plan.pass = some ⟨⟨990, bays, book.records, 3000⟩, 50⟩ ∧ 3000 ≤ s0.feed.share ∧
    (book.records.map (·.id)).Nodup ∧
    BindingsAgree { s0 with bays := bays, book := { s0.book with records := book.records } } :=
  ⟨sample_running _ _, sample_sound _ _ (by decide) (by decide), rfl, by decide, by decide, sample_bindings⟩

/-- The sample with its converter IDLE. -/
def idle : State :=
  { s0 with bays := bays.set 0 { bays[0] with boost := false }, boost := { s0.boost with converter := .idle } }

theorem idle_sound : Sound idle where
  start := by constructor <;> intro h <;> cases h
  bays := by
    unfold BaysSound
    apply all_bays <;> refine ⟨?_, ?_, ?_, ?_, ?_, ?_⟩ <;>
      simp [BayFields, PackPresence, SetpointSound, LockSound, PackSound, idle, sample, State.bay, bays, bay, Bay.restart,
        door, pack, BayState.atDoor, BayState.accepted, BayState.reserved, cfg, Bay.chargeable,
        Pack.chargeable]
  book := sample_book
  bindings := by
    constructor
    · simp [idle, sample, book, record, RecordAgrees, State.bay, bays, bay]
    · apply all_bays <;> intro id h <;> simp [idle, sample, State.bay, bays, bay, Bay.restart] at h <;> subst h <;> decide
  slots := sample_slots
  plan := sample_plan
  draw := by unfold DrawWithinShare; decide
  boost := by unfold BoostSound; decide
  feed := sample_feed
  line := sample_line [] [] (by decide) (by decide)
  templates := sample_templates

/-- The sets of the sample's pass: HIGH has bay 0, whose pack is behind its window. -/
theorem witness_CompletionAppliesResults_arbiter :
    let p := (Snapshot.mk 990 bays book.records 3000).plan cfg
    (Running idle ∧ Sound idle) ∧
    (idle.boost.converter = .idle ∧ idle.plan.pass = some ⟨⟨990, bays, book.records, 3000⟩, 50⟩) ∧
    (s0.boost.converter.holder = some 0 ∧ 0 ∈ p.high) ∧
    ({ s0 with boost.converter := .switching 7 }.boost.converter ≠ .idle ∧
      { s0 with boost.converter := .switching 7 }.boost.converter.holder = none) ∧
    (∃ m ∈ p.moves, moveFits s0 m = some 11) :=
  ⟨⟨⟨rfl, rfl, rfl⟩, idle_sound⟩, by decide, by decide, by decide, by decide⟩

/-- A rival for the holder, and a decision between a HIGH bay and a LOW one that the high ring's pointer settles. -/
theorem witness_SliceAndSwitchTimers :
    Running s0 ∧ s0.boost.converter = .granted 0 0 ∧ (1 ∈ s0.boost.low ∧ s0.boost.eligible[(1 : BayNo)] = true) ∧
    (∀ b : BayNo, b ≠ 0 → { s0.boost with low := [] }.eligible[b] = true → b ∉ s0.boost.high) ∧
    Decided s0.boost { s0.boost with highPtr := 12, lowPtr := 1 } (some 1) ∧
    Decided { s0.boost with highPtr := 12 } { s0.boost with highPtr := 0 } (some 0) ∧
    Decided { s0.boost with high := [], low := [] } { s0.boost with high := [], low := [] } none := by
  refine ⟨sample_running _ _, rfl, ⟨by decide, by decide⟩, by decide, ⟨?_, ?_, ?_⟩, ⟨?_, ?_, ?_⟩, ⟨?_, ?_, ?_⟩⟩
  · exact fun h => absurd (Or.inr ⟨rfl, 1, by decide, by decide⟩) (h 12 (by decide))
  · unfold Requests; decide
  · intro b hb; simp [sample] at hb; subst hb; exact fun _ _ _ => ⟨rfl, rfl⟩
  · exact fun h => absurd (Or.inl ⟨0, rfl, by decide, by decide⟩) (h 0 (by decide))
  · unfold Requests; decide
  · exact fun b _ _ h => absurd (h 0 (by decide) (Or.inl ⟨0, rfl, by decide, by decide⟩)) (by decide)
  · exact fun _ => ⟨rfl, rfl⟩
  · unfold Requests; decide
  · exact fun b hb => by simp at hb

theorem witness_SiteFeedAndMeterLoss :
    let s := sample [] [⟨0, .siteFeed 20000 19001⟩]
    Running s ∧ (∀ b, SetpointSound s.cfg (s.bay b)) ∧ FeedSound s ∧ PlanSound s ∧
    s.line.peerQueue = ⟨0, .siteFeed 20000 19001⟩ :: [] ∧ s.feed.meter ≠ .lost ∧ 10000 < s.feed.meterAge :=
  ⟨sample_running _ _, fun b => (sample_bays b).2.2.1, sample_feed, sample_plan, rfl, by decide, by decide⟩

/-- A refresh, a new entry, an own claim, the two ages and the claim timer; and a full table with a STALE entry. -/
theorem witness_DrawClaimsAndTheirAges :
    let s := sample [] [⟨7, .drawClaim 500 600⟩]
    Running s ∧ (∀ b, SetpointSound s.cfg (s.bay b)) ∧ FeedSound s ∧ PlanSound s ∧
    s.line.peerQueue = ⟨7, .drawClaim 500 600⟩ :: [] ∧ (7 : Station) ∈ s.feed.peers.map (·.station) ∧
    (8 : Station) ∉ s.feed.peers.map (·.station) ∧ s.feed.peers.length < 7 ∧ s.cfg.station = 4 ∧
    (peer 9 6001 false ∈ s.feed.peers ∧ peer 7 30000 true ∈ s.feed.peers) ∧ s.feed.claimTimer = some 0 ∧
    ([peer 7 30000 true, peer 9 1 false, peer 10 1 false, peer 11 1 false, peer 12 1 false, peer 13 1 false,
      peer 14 1 false].length = 7) :=
  ⟨sample_running _ _, fun b => (sample_bays b).2.2.1, sample_feed, sample_plan, rfl, by decide, by decide, by decide, rfl,
    ⟨by decide, by decide⟩, rfl, rfl⟩

theorem witness_TemplatesAreDefined :
    Running (sample [⟨3, .templateBody 777 0 true 86399 900 600⟩] []) ∧
    (sample [⟨3, .templateBody 777 0 true 86399 900 600⟩] []).line.askQueue =
      ⟨3, .templateBody 777 0 true 86399 900 600⟩ :: [] ∧
    s0.ts.contexts[(3 : Station)] = some ⟨0, 0⟩ ∧
    (sample [⟨2, .templateOpen 8⟩] []).line.askQueue = ⟨2, .templateOpen ((7 : TemplateNo).val + 1)⟩ :: [] ∧
    s0.ts.contexts[(2 : Station)] = none := ⟨sample_running _ _, rfl, rfl, rfl, rfl⟩

theorem witness_TemplatesAreDropped :
    Running (sample [⟨2, .templateDrop 0 8⟩] []) ∧
    (sample [⟨2, .templateDrop 0 8⟩] []).line.askQueue = ⟨2, .templateDrop 0 8⟩ :: [] ∧
    (sample [⟨2, .templateDrop 0 8⟩] []).ts.contexts[(2 : Station)] = none := ⟨sample_running _ _, rfl, rfl⟩

theorem witness_InstantAndDayRoll :
    Running s0 ∧ BookSound s0 ∧ s0.ts.slots[(0 : TemplateNo)] = some template ∧ template.passed = some 3 ∧
    template.token ≠ 0 ∧ template.lastDay ≠ some 3 ∧ (∀ r ∈ s0.book.records, r.token ≠ template.token) ∧
    RoomFor s0 template.cls ∧ s0.ts.rollDue = true :=
  ⟨sample_running _ _, sample_book, rfl, rfl, by decide, by decide, by decide, by unfold RoomFor; decide, rfl⟩

/-- The clock at 1000 s of day 0: a jump of 900 s passes the template's instant of 1800, with room for its record. The other
cases at the edges of their ranges: a DAY TIME of 86,399 and of 86,400, and moves of 2, 3, -2 and -3 s. -/
theorem witness_DayTimeSetsOrMovesClock :
    let s := sample [] [⟨2, .dayTime 1900⟩]
    let move (v d : Int) : Prop := -43200 ≤ d ∧ d ≤ 43199 ∧ (d - (v - (1000 + 0))) % 86400 = 0
    (86399 < 86400 ∧ 86399 ≤ 86399 ∧ move 1002 2 ∧ move 1003 3 ∧ move 998 (-2) ∧ move 997 (-3) ∧ move 44199 43199 ∧
      move 44200 (-43200)) ∧
    (1000 < (1800 : Int) ∧ (1800 : Int) ≤ 1000 + 900 ∧ template.lastDay ≠ some (1800 / 86400) ∧
      (∀ r ∈ s.book.records, r.token ≠ template.token) ∧ s.book.records.length < 32 ∧
      s.book.commit[template.cls] < s.cfg.commitLimit[template.cls]) ∧
    Running s ∧ BookSound s ∧ TemplatesSound s ∧ s.line.peerQueue = ⟨2, .dayTime 1900⟩ :: [] ∧ s.ts.dayOffset = some 0 ∧
    ((900 : Int) - (1900 - (1000 + 0))) % 86400 = 0 ∧
    ((1800 : Int) - (template.todOpen - s.cfg.templateLead)) % 86400 = 0 ∧ TemplateStore.restart.dayOffset = none :=
  ⟨by decide, by decide, sample_running _ _, sample_book, sample_templates, rfl, rfl, by decide, by decide, rfl⟩

theorem witness_ReceivedFieldsAreThoseSent : 255 < 2 ^ 8 ∧ 65535 < 2 ^ 16 ∧ 16777215 < 2 ^ 24 ∧ 4095 < 2 ^ 12 := by decide

/-- An Outbound queue of 8: these frames, and ANSWERs before them. -/
def fullQueue (es : List OutEntry) : List OutEntry := List.replicate (8 - es.length) ⟨.answer 9 (.hold 1), false⟩ ++ es

/-- A DRAW CLAIM that finds one queued, and each case of a frame that finds the queue full: an OVERRUN to count on, a NOTICE to
give way, and neither. -/
theorem witness_ReceivedFieldsAreThoseSent_posts :
    [(⟨.drawClaim 1 1, false⟩ : OutEntry)] = [] ++ ⟨.drawClaim 1 1, false⟩ :: [] ∧
    (8 ≤ (fullQueue [⟨.overrun 254, false⟩]).length ∧
      fullQueue [⟨.overrun 254, false⟩] =
        List.replicate 7 ⟨.answer 9 (.hold 1), false⟩ ++ ⟨.overrun 254, false⟩ :: []) ∧
    (8 ≤ (fullQueue [⟨.notice .logOverflow, false⟩]).length ∧
      fullQueue [⟨.notice .logOverflow, false⟩] =
        List.replicate 7 ⟨.answer 9 (.hold 1), false⟩ ++ ⟨.notice .logOverflow, false⟩ :: [] ∧
      IdleNotice ⟨.notice .logOverflow, false⟩ ∧ ¬ IdleNotice ⟨.answer 9 (.hold 1), false⟩) ∧
    8 ≤ (fullQueue [⟨.notice .logOverflow, true⟩]).length ∧ ¬ IdleNotice ⟨.notice .logOverflow, true⟩ := by
  refine ⟨rfl, ⟨by decide, rfl⟩, ⟨by decide, rfl, ?_, ?_⟩, by decide, ?_⟩ <;> simp [IdleNotice]

theorem witness_FramesAreReceived :
    Running s0 ∧ Waiting (unset [] none) ∧ LineSound s0 ∧ FeedSound s0 ∧ (List.replicate 12 (0 : Byte)).length ≤ 12 ∧
    12 < (List.replicate 13 (0 : Byte)).length :=
  ⟨sample_running _ _, unset_waiting _ _, sample_line _ _ (by decide) (by decide), sample_feed, by decide, by decide⟩

/-- The sample with an ANSWER behind a NOTICE in its Outbound queue. -/
def outbound : State :=
  { s0 with line.outQueue := [⟨.notice .logOverflow, false⟩, ⟨.answer 9 (.hold 1), false⟩] }

/-- The sample with its send count at the edge and a frame in transmission. -/
def sending : State :=
  { s0 with
    line := counted 248 0 { s0.line with outQueue := [⟨.drawClaim 1 1, true⟩], sending := some (.drawClaim 1 1) } }

/-- The sample DETACHED with all but one idle gap counted. -/
def detached : State :=
  { s0 with
    feed := { s0.feed with detached := true }
    line := { s0.line with state := .detached, sendCount := 255, gaps := some 99, caution := true } }

theorem witness_FramesAreSentAndPartRejoins :
    Running s0 ∧ (∀ b, SetpointSound s0.cfg (s0.bay b)) ∧ FeedSound s0 ∧ LineSound s0 ∧ PlanSound s0 ∧
    (outbound.line.outQueue = [⟨.notice .logOverflow, false⟩] ++ ⟨.answer 9 (.hold 1), false⟩ :: [] ∧
      OutFrame.precedence (.answer 9 (.hold 1)) < OutFrame.precedence (.notice .logOverflow)) ∧
    (LineSound sending ∧ FeedSound sending ∧ sending.line.sending = some (.drawClaim 1 1) ∧
      247 < sending.line.sendCount) ∧
    (LineSound detached ∧ FeedSound detached ∧ detached.line.gaps = some 99 ∧ 99 + 11 / 12 < 100 ∧ 100 ≤ 99 + 12 / 12) := by
  refine ⟨sample_running _ _, fun b => (sample_bays b).2.2.1, sample_feed, sample_line _ _ (by decide) (by decide),
    sample_plan, ⟨rfl, by decide⟩, ⟨?_, ?_, rfl, by decide⟩, ?_, ?_, rfl, by decide⟩
  · simp [LineSound, sending, counted, sample, LineController.restart, stateOfCounts, guardedCount, OutFrame.isDrawClaim]
  · unfold FeedSound; decide
  · simp [LineSound, detached, sample, LineController.restart]
  · unfold FeedSound; decide

theorem witness_StatusIsToldAndCleared :
    Running (sample [⟨2, .statusAsk 4⟩] []) ∧ s0.ts.contexts[(2 : Station)] = none ∧
    (sample [⟨2, .statusAsk 4⟩] []).line.askQueue = ⟨2, .statusAsk 4⟩ :: [] ∧
    (sample [⟨2, .statusClear [0, 0, 0, 2]⟩] []).line.askQueue = ⟨2, .statusClear [0, 0, 0, 2]⟩ :: [] :=
  ⟨sample_running _ _, rfl, rfl, rfl⟩

/-! ### One step of each command, each figure worked by hand from the rule named -/

/-- R174, worked sequence of chapter 11: the stock target 65,535 loads as 900 and the boost slice 1000 as 900. -/
theorem test_restart_loads_and_limits :
    let record := List.replicate 31 (0 : Byte) ++ bytesOf 2 65535 ++ bytesOf 2 65535 ++ bytesOf 2 120 ++ bytesOf 2 300 ++
      bytesOf 2 1000 ++ [0]
    let s := after (exec (.restart false) { State.reset with store := ⟨record.take 42, checkOf (record.take 42), true⟩ })
    (s.cfg.stockTarget, s.part) = (900, .run) := by decide

/-- R172: ERASE asserted leaves the part UNSET and every byte of the store 0. -/
theorem test_restart_erases :
    (after (exec (.restart true) s0)).part = .unset ∧
    (after (exec (.restart true) s0)).store.record = List.replicate 42 0 := by decide

/-- R175. -/
theorem test_select_release_drops_assembly :
    (after (exec .selectRelease (unset [] (some ⟨1, List.replicate 7 0⟩)))).assembly = none := by decide

/-- R172: while RESTART is held every block stands at its restart values. -/
theorem test_restart_asserted_empties_book : (after (exec .restartAsserted s0)).book = Book.restart := by decide

/-- R6, R9: one good report takes a bay from OFF(LINK) through CHECKING to STOCK. -/
theorem test_report_returns_link_into_stock :
    ((after (exec (.bayReport 6 (report 20 500)) s0)).bay 6).state = .stock := by decide

/-- R48: a pack READY with target 900 returns to BOUND at 869. -/
theorem test_report_at_869_unreadies : ((after (exec (.bayReport 4 (report 15 869)) s0)).bay 4).state = .held := by decide

/-- R5, R17: the HELD bay 0 loses its link; its record 1 returns to PENDING. -/
theorem test_link_loss_unbinds :
    ((after (exec (.linkLoss 0) { s0 with bays := bays.set 0 { bays[0] with reportAge := 3000 } })).book.byId 1).map
      (·.state) = some .pending := by decide

/-- R9: the data timer of a CHECKING bay runs out. -/
theorem test_data_timer_faults :
    ((after (exec (.dataTimerExpiry 10) s0)).bay 10).state = .fault .noPackData := by decide

/-- R18: a bay being handed over is not taken out of service; flag 18 is set. -/
theorem test_service_off_refused_in_open :
    ((after (exec .serviceOff (sample [⟨9, .service 2 0⟩] []))).bay 2).state = .opened ∧
    (after (exec .serviceOff (sample [⟨9, .service 2 0⟩] []))).flags.getLsbD 17 = true := by decide

/-- R19: a young report age and a pack last seen take the bay to CHECKING. -/
theorem test_service_on_checks :
    ((after (exec .serviceOn (sample [⟨9, .service 7 1⟩] []))).bay 7).dataTimer = some 10000 := by decide

theorem test_service_bad_action_refused :
    (after (exec .serviceBadAction (sample [⟨9, .service 7 2⟩] []))).flags.getLsbD 17 = true := by decide

/-- R63, R64: a new ask takes the free slot with a bid window of 400 ms. -/
theorem test_swap_ask_opens_slot :
    ((after (exec .swapAsk asking)).asks.slots[(0 : SlotNo)]).map (·.state) = some (.bidding 400) := by decide

/-- R69: the lower station is the better of two equal offers. -/
theorem test_offer_lower_station_heard :
    let heard : Slot := { slot 3 (.bidding 9) (some ⟨515, false⟩) none with heard := some ⟨515, false, 6⟩ }
    ((after (exec .offer { sample [] [⟨5, .offer 9 3 515 false⟩] with asks.slots := s0.asks.slots.set 2 (some heard) })
      ).asks.slots[(2 : SlotNo)]).map (·.heard) = some (some ⟨515, false, 5⟩) := by decide

/-- R72: an existing offer unheard wins the held record 4 at READY. -/
theorem test_bid_window_end_wins_existing :
    ((after (exec (.bidWindowEnd 2) s0)).asks.slots[(2 : SlotNo)]).map (·.state) =
      some (.won 4 0 .existing 20000) := by decide

/-- R58, R79: the discard of a new won reservation takes its record out and frees its bay. -/
theorem test_discard_removes_record :
    ((after (exec (.discardTimerExpiry 0) s0)).bay 4).state = .stock ∧
    (after (exec (.discardTimerExpiry 0) s0)).book.byId 4 = none := by decide

/-- R53, R54: the token of record 5 goes to the newest end of the list. -/
theorem test_record_expiry_lists_token :
    (after (exec (.recordExpiry 5) s0)).book.expired = [900, 105] := by decide

/-- R56: the 255th unknown release, and the count stays at 255 after it. -/
theorem test_release_unknown_saturates :
    (after (exec .release (sample [⟨9, .release 77⟩] []))).book.unknownReleases = 255 := by decide

/-- R138: GO opens the bay and its lock. -/
theorem test_claim_goes :
    ((after (exec .claim (sample [⟨9, .claim 104⟩] []))).bay 4).state = .opened ∧
    ((after (exec .claim (sample [⟨9, .claim 104⟩] []))).bay 4).locked = false := by decide

/-- R145: the pack untouched behind an open door leaves the bay AJAR. -/
theorem test_handover_timer_leaves_ajar : ((after (exec (.handoverTimerExpiry 2) s0)).bay 2).state = .ajar := by decide

/-- R142, R144, R22: no return with a stage fault pending leaves the bay in FAULT, its lock pending behind the open door. -/
theorem test_handover_timer_leaves_lock_pending :
    let s := s0.setBay 2 { s0.bay 2 with
      pack := none, handover := some ⟨0, true, some 13, 2⟩, lastPresent := some false, pendingFault := some .stageFault }
    let b := (after (exec (.handoverTimerExpiry 2) s)).bay 2
    (b.state, b.locked, b.lockPending) = (.fault .stageFault, false, true) := by decide

/-- R22: the lock left pending is ordered by the report that shows the door CLOSED. -/
theorem test_report_closes_pending_lock :
    let s := s0.setBay 5 { s0.bay 5 with door := .opened, locked := false, lockPending := true }
    let b := (after (exec (.bayReport 5 (report 16 500)) s)).bay 5
    (b.locked, b.lockPending) = (true, false) := by decide

/-- R145: the timer is started again at the handover time of 120 s. -/
theorem test_door_ajar_timer_restarts :
    ((after (exec (.doorAjarTimerExpiry 3) s0)).bay 3).handover.map (·.timer) = some 120000 := by decide

/-- R84: a request in RUNNING sets the again flag. -/
theorem test_period_timer_asks_again : (after (exec .periodTimerExpiry s0)).plan.again = true := by decide

/-- R94: the first PENDING record in book order takes the pack with the smallest estimate, bay 11. -/
theorem test_pass_completion_binds : ((after (exec .passCompletion s0)).bay 11).reservation = some 5 := by decide

/-- R113, R112: another bay requests, so the grant ends and the converter switches for 2 s. -/
theorem test_slice_timer_ends_grant : (after (exec .sliceTimerExpiry s0)).boost.converter = .switching 2000 := by decide

/-- R116, R109: after the switchover the high ring's scan from 12 meets bay 0 first. -/
theorem test_switch_timer_grants :
    (after (exec .switchTimerExpiry { s0 with
      boost := { s0.boost with converter := .switching 0, highPtr := 12 } })).boost.converter = .granted 0 300000 := by
  decide

/-- R123: a draw above 95 per cent of the limit and not above it leaves the trim, one above the limit lowers it by 50. -/
theorem test_site_feed_trims :
    (after (exec .siteFeed (sample [] [⟨0, .siteFeed 20000 19001⟩]))).feed.trim = 1000 ∧
    (after (exec .siteFeed (sample [] [⟨0, .siteFeed 20000 20001⟩]))).feed.trim = 950 := by decide

/-- R122: the limit in force is the meter-lost limit, with no reserve margin taken from it. -/
theorem test_meter_lost_limits :
    (after (exec .meterLost s0)).feed.meter = .lost ∧ (after (exec .meterLost s0)).feed.limit = 6000 := by decide

/-- R124, R126: a priority above the demand is taken as the demand; the part's own station is refused. -/
theorem test_draw_claim_limits_priority :
    ((after (exec .drawClaim (sample [] [⟨7, .drawClaim 500 600⟩]))).feed.peers.map
      fun p => (p.station, p.priority)) = [((7 : Station), 500), (9, 1000)] := by decide

theorem test_draw_claim_clash :
    (after (exec .drawClaim (sample [] [⟨4, .drawClaim 500 600⟩]))).flags.getLsbD 21 = true := by decide

/-- R127. -/
theorem test_peer_stale : (after (exec (.peerStale 9) s0)).feed.peers.map (·.stale) = [true, true] := by decide

theorem test_peer_lost : (after (exec (.peerLost 7) s0)).feed.peers.map (·.station) = [(9 : Station)] := by decide

/-- R129. -/
theorem test_claim_timer_posts :
    (after (exec .claimTimerExpiry s0)).line.outQueue = [⟨.drawClaim 3000 1000, false⟩] ∧
    (after (exec .claimTimerExpiry s0)).feed.claimTimer = some 2000 := by decide

/-- R151. -/
theorem test_template_open :
    (after (exec .templateOpen (sample [⟨2, .templateOpen 8⟩] []))).ts.contexts[(2 : Station)] = some ⟨7, 2000⟩ := by
  decide

/-- R153. -/
theorem test_template_body :
    ((after (exec .templateBody (sample [⟨3, .templateBody 778 1 true 86399 900 600⟩] []))).ts.slots[(0 : TemplateNo)]).map
      (fun t => (t.token, t.todOpen, t.kept)) = some (778, 86399, true) := by decide

/-- R152: the cancel's notice has code 28. -/
theorem test_template_context_timeout :
    (after (exec (.templateContextTimeout 3) s0)).ts.contexts[(3 : Station)] = none ∧
    (after (exec (.templateContextTimeout 3) s0)).flags.getLsbD 27 = true := by decide

/-- R154. -/
theorem test_template_drop_one :
    (after (exec .templateDropOne (sample [⟨2, .templateDrop 0 1⟩] []))).ts.slots[(0 : TemplateNo)] = none := by decide

theorem test_template_drop_all_temporary :
    (after (exec .templateDropAllTemporary (sample [⟨2, .templateDrop 1 0⟩] []))).ts.slots[(0 : TemplateNo)] = none := by
  decide

theorem test_template_drop_all :
    (after (exec .templateDropAll (sample [⟨2, .templateDrop 2 0⟩] []))).ts.slots[(0 : TemplateNo)] = none := by decide

theorem test_template_make_temporary :
    ((after (exec .templateDropMakeTemporary (sample [⟨2, .templateDrop 3 1⟩] []))).ts.slots[(0 : TemplateNo)]).map
      (·.kept) = some false := by decide

theorem test_template_make_kept :
    ((after (exec .templateDropMakeKept (sample [⟨2, .templateDrop 4 1⟩] []))).ts.slots[(0 : TemplateNo)]).map
      (·.kept) = some true := by decide

theorem test_template_bad_mode :
    (after (exec .templateDropBadMode (sample [⟨2, .templateDrop 5 1⟩] []))).flags.getLsbD 28 = true := by decide

/-- R155: DAY TIME 50,000 at 1000 s with no day clock gives the offset 49,000. -/
theorem test_day_time_sets_offset :
    (after (exec .dayTime { sample [] [⟨2, .dayTime 50000⟩] with ts := TemplateStore.restart })).ts.dayOffset =
      some 49000 := by decide

/-- R155: a move of 2 s is none, one of 3 s is made, and a DAY TIME of 86,400 is discarded. -/
theorem test_day_time_moves_from_three_seconds :
    [1002, 1003, 998, 997, 86400].map (fun v => (after (exec .dayTime (sample [] [⟨2, .dayTime v⟩]))).ts.dayOffset) =
      [some 0, some 3, some 0, some (-3), some 0] := by decide

/-- R157: the window opens at 3600 of the day, 2600 s from 1000 s; record 6 is its reservation. -/
theorem test_template_instant_reserves :
    ((after (exec (.templateInstant 0) s0)).book.byId 6).map (fun r => (r.token, r.origin)) =
      some (777, .standing 0) := by decide

/-- R156. -/
theorem test_day_roll_deletes_temporary : (after (exec .dayRoll s0)).ts.slots[(0 : TemplateNo)] = none := by decide

/-- R162: bad receptions hold the receive count at 127. -/
theorem test_bad_frame_counts :
    (after (exec (.frameReceive (.bad .stuff))
      { s0 with line := { s0.line with recvCount := 127, state := .guarded, caution := true } })).line.recvCount = 127 := by
  decide

/-- R171: CLAIM is kind 1, its token four bytes, the highest first; it waits in the Ask queue. -/
theorem test_claim_frame_stored :
    (after (exec (.frameReceive (.whole ⟨9, 1, [0, 0, 1, 4]⟩)) s0)).line.askQueue = [⟨9, .claim 260⟩] := by decide

/-- R159, R171: a DRAW CLAIM of station 4 has the contention word 3 × 16 + 4. -/
theorem test_send_start_word :
    ((after (exec (.sendStart 12) { s0 with line := { s0.line with outQueue := [⟨.drawClaim 1 1, false⟩] } })).out.wire.map
      (·.word)) = some 52 := by decide

/-- R163: a failed send above 247 detaches the part. -/
theorem test_send_end_detaches :
    (after (exec (.sendEnd .noAcknowledge) sending)).line.state = .detached ∧
    (after (exec (.sendEnd .noAcknowledge) sending)).line.sendCount = 255 := by decide

/-- R164: the hundredth gap rejoins the part, and 11 idle bit times are no gap. -/
theorem test_rejoin :
    (after (exec (.rejoin 12) detached)).line.state = .full ∧
    (after (exec (.rejoin 12) detached)).line.sendCount = 0 ∧
    (after (exec (.rejoin 11) detached)).line.gaps = some 99 := by decide

/-- R164: a run of 59 idle bit times is four gaps. -/
theorem test_rejoin_counts_gaps :
    (after (exec (.rejoin 59) { detached with line := { detached.line with gaps := some 0 } })).line.gaps = some 4 := by
  decide

/-- R180, R165: a STATUS ASK gives the last line error to the reply and then sets it to NO_CHANGE. -/
theorem test_status_ask :
    (after (exec .statusAsk (sample [⟨2, .statusAsk 4⟩] []))).line.lastError = .noChange ∧
    (after (exec .statusAsk (sample [⟨2, .statusAsk 4⟩] []))).line.outQueue =
      [⟨.statusReply 2 4 [0, 0, 0, 0, 0], false⟩] := by decide

/-- R181: bit 1 of byte 3 is flag 26, LOG_OVERFLOW. -/
theorem test_status_clear :
    (after (exec .statusClear { sample [⟨2, .statusClear [0, 0, 0, 2]⟩] [] with flags := 0x3ffffffff })).flags =
      0x3fdffffff := by decide

/-- R175, R176: five whole pieces bring the part into RUN; the last of them alone is shown. -/
theorem test_setup_completes :
    (after (exec (.setup ⟨true, false⟩) (unset [⟨9, .setup 4 lastPiece⟩] (some ⟨4, List.replicate 37 0⟩)))).part = .run := by
  decide

/-- R174, R172: the same piece with its write of the store cut short by a restart; as RESTART is released the part is UNSET. -/
theorem test_setup_cut_short_stays_unset :
    let s := after (exec (.setup ⟨true, true⟩) (unset [⟨9, .setup 4 lastPiece⟩] (some ⟨4, List.replicate 37 0⟩)))
    (s.part, s.store.ended, s.pins.restart) = (.unset, false, true) ∧ (after (exec (.restart false) s)).part = .unset := by
  decide

end Sys2Proof.Tests
end

section
/-! SUPPORT. The cases of SERVICE that refuse, change an off cause or bring a bay back (R15, R18, R19); before them how an
addressed frame's event is taken, what a single notice leaves, and how a bay that was not at the door comes to EMPTY or
CHECKING. -/

namespace Sys2Proof.Machine

open Sys2Proof.Machine.Safety

/-! ### An event of the part in RUN -/

/-- The event of a command that takes an addressed frame of a terminal without an open context (R152, R166). -/
theorem event_fromAsk_addressed {s : State} {x : AskFrame} {rest : List AskFrame} {body : State → State}
    {f : AskFrame → Option (State → State)} (hr : Running s) (hq : s.line.askQueue = x :: rest)
    (hc : s.ts.contexts[x.source] = none) (hf : f x = some (addressed x.source body)) :
    event (State.fromAsk f) s = .next (State.finish none s (body (popAsk s).quiet)) := by
  have hpop : ({ s.quiet with line.askQueue := rest } : State) = (popAsk s).quiet := by simp [popAsk, State.quiet, hq]
  rw [event, State.take_live hr.released, State.fromAsk_cons (s := s.quiet) hq hf, hpop,
    addressed_run (s := (popAsk s).quiet) body hr.run hc]

/-- No order goes out in an event that changed no commanded value and answers no report (R20). -/
theorem ordersOf_none_eq_nil {s t : State} (h : ∀ d, commandChanged s t d = false) : ordersOf none s t = [] := by
  simp [ordersOf, baysWhere, h]

/-- The end of an event that requested no pass, put nothing out and changed no commanded value of a bay (R20, R84). -/
theorem State.finish_unchanged {s u : State} (hp : u.plan.requested = false) (ho : u.out = quietOut)
    (hb : ∀ d, commandChanged s u d = false) : State.finish none s u = u := by
  rw [State.finish_none none hp, ordersOf_none_eq_nil hb]
  cases u
  subst ho
  rfl

/-- An event that leaves the bays as they are changes no commanded value. -/
theorem commandChanged_same {s t : State} (h : t.bays = s.bays) (d : BayNo) : commandChanged s t d = false := by
  simp [commandChanged, State.bay, h]

/-- A bay record written with the commanded values the bay had changes no commanded value (R20). -/
theorem commandChanged_set {s t : State} {b : BayNo} {x : Bay} (ht : t.bays = s.bays.set b x b.isLt)
    (hp : x.setpoint = (s.bay b).setpoint) (hb : x.boost = (s.bay b).boost) (hl : x.locked = (s.bay b).locked)
    (d : BayNo) : commandChanged s t d = false := by
  have hd : t.bay d = if b = d then x else s.bay d := by
    rw [← State.setBay_bay]; simp only [State.bay, State.setBay_bays, ht]
  by_cases h : b = d
  · subst h; simp [commandChanged, hd, hp, hb, hl]
  · simp [commandChanged, hd, h]

/-- The end of an event in RUN that requested a pass, put nothing out and changed no commanded value of a bay: the pass is
asked for and nothing else changes (R20, R83, R84). -/
theorem State.finish_asked {s u : State} (hs : s.plan.requested = false) (hr : u.part = .run)
    (hp : u.plan = { s.plan with requested := true }) (ho : u.out = quietOut) (hb : ∀ d, commandChanged s u d = false) :
    ∃ t, State.finish none s u = t ∧ t = { u with plan := t.plan } ∧ PassAsked s t := by
  refine ⟨_, State.finish_some none (by rw [hp]) hr, ?_, ?_⟩
  · rw [ordersOf_none_eq_nil hb]
    cases u
    subst ho
    rfl
  · rw [PassAsked]
    simp only [hp, Planner.asked]
    cases s.plan.pass <;> simp [hs, State.snapshot, periodMillis]

/-! ### One notice -/

/-- A notice raised in RUN changes the condition flags and the Line Controller alone, as R179 says. -/
theorem State.raise_raised {s : State} (n : Notice) (hr : s.part = .run) :
    s.raise n = { s with flags := (s.raise n).flags, line := (s.raise n).line } ∧ Raised [n] s (s.raise n) := by
  refine ⟨by apply State.eq_of_fields <;> simp, by simp, ?_⟩
  by_cases h : s.cfg.disableMask.getLsbD (groupOfCode n.code) = true
  · simp [State.raise, State.silenced, h]
  · simp [State.raise, State.silenced, h, State.post, hr]

/-- A command of a part in RUN that takes the oldest frame of the Ask queue and raises a notice, and does nothing else. -/
theorem exec_raises {c : Instr} {n : Notice} {s : State} (hr : Running s)
    (hexec : exec c s = .next (State.finish none s ((popAsk s).quiet.raise n))) :
    ∃ t, exec c s = .next t ∧ t = { popAsk s with flags := t.flags, line := t.line, out := quietOut } ∧
      Raised [n] (popAsk s) t := by
  obtain ⟨heq, hraised⟩ := State.raise_raised (s := (popAsk s).quiet) n hr.run
  refine ⟨_, hexec.trans (congrArg _ (State.finish_unchanged ?settled ?out ?bays)), heq, hraised⟩
  case settled => exact (congrArg _ (State.raise_plan _ n)).trans hr.settled
  case out => exact State.raise_out _ n
  case bays => exact commandChanged_same (State.raise_bays _ n)

/-! ### A bay that comes to EMPTY or CHECKING -/

/-- What EMPTY and CHECKING keep of a bay that was not at the door (R1, R2, R21, R22); its boost is the arbiter's. -/
theorem Bay.entering_eq_movedTo (cfg : Setup) {new : BayState} {x : Bay} (hn : new = .empty ∨ new = .checking)
    (hx : x.state.atDoor = false) : x.entering cfg new = { movedTo new none x with boost := x.boost } := by
  have hset : (x.entering cfg new).setpoint = 0 :=
    Bay.entering_setpoint (by obtain rfl | rfl := hn <;> rfl)
  have hlock : lockEntering x.state new x.door x.locked x.lockPending = (x.locked, x.lockPending) := by
    have hnew : new.atDoor = false ∧ new.isOff = false ∧ new.outOfUse = false := by obtain rfl | rfl := hn <;> decide
    simp [lockEntering, hx, hnew]
  have htimer : timerEntering x.state new x.dataTimer = if new = .checking then some 10000 else none := by
    obtain rfl | rfl := hn <;> simp [timerEntering, BayState.accepted, dataMillis]
  have hfields : x.entering cfg new =
      { movedTo new none x with boost := x.boost, setpoint := (x.entering cfg new).setpoint } := by
    simp only [Bay.entering, Bay.writeSetpoint, hlock, htimer]
    obtain rfl | rfl := hn <;> simp [movedTo, BayState.atDoor, BayState.dropsPack, BayState.reserved, BayState.outOfUse]
  rw [hfields, hset]
  rfl

/-- A bay in a state the converter is not granted to does not hold it, and its boost field and eligible flag are no
(R105, R106). -/
theorem boost_of_not_eligible {s : State} {b : BayNo} (h : BoostSound s)
    (he : (s.bay b).state.eligible = false) :
    s.boost.converter.holder ≠ some b ∧ (s.bay b).boost = false ∧ s.boost.eligible[b] = false := by
  obtain ⟨hboost, helig, hholder, -⟩ := h
  have hne : s.boost.converter.holder ≠ some b := fun hh => by simp [hholder b hh] at he
  exact ⟨hne, by simp [hboost b, hne], by rw [helig b, he]⟩

/-- A bay that goes from OFF to EMPTY or CHECKING: its record, and a pass requested; the arbiter is as it was. -/
theorem State.enterBay_of_off {s : State} {b : BayNo} {new : BayState} {c : OffCause} (hb : BoostSound s)
    (hs : (s.bay b).state = .off c) (hn : new = .empty ∨ new = .checking) :
    s.enterBay b new =
      { s with bays := s.bays.set b (movedTo new none (s.bay b)) b.isLt, plan := { s.plan with requested := true } } := by
  obtain ⟨hholder, hboost, helig⟩ := boost_of_not_eligible (b := b) hb (by simp [hs, BayState.eligible])
  have hends : endsGrant b new s.boost = false := by simp [endsGrant, hholder]
  have hnew : new.eligible = false := by obtain rfl | rfl := hn <;> rfl
  have hsame : s.boost.eligible.set b new.eligible b.isLt = s.boost.eligible := by
    rw [hnew, ← helig]; simp
  rw [State.enterBay_eq, hends, hsame, Bay.entering_eq_movedTo s.cfg hn (by simp [hs, BayState.atDoor])]
  simp [hboost, movedTo]

/-! ### SERVICE, case by case (R15, R18, R19) -/

theorem bayNo?_val (b : BayNo) : bayNo? b.val = some b := by simp [bayNo?]

theorem bayNo?_none {n : Nat} (h : 11 < n) : bayNo? n = none := by simp [bayNo?]; omega

/-- The notice of a refused SERVICE, with the state of the bay it names, if there is such a bay (R15). -/
theorem State.refuseService_eq (n action : Nat) (s : State) :
    s.refuseService n action =
      s.raise (.serviceRefused n action (if h : n < 12 then some (s.bay ⟨n, h⟩).state else none)) := by
  by_cases h : n < 12 <;> simp [State.refuseService, bayNo?, h]

theorem State.refuseService_val (b : BayNo) (action : Nat) (s : State) :
    s.refuseService b.val action = s.raise (.serviceRefused b.val action (some (s.bay b).state)) := by
  simp [State.refuseService_eq]

theorem State.refuseService_above {n : Nat} (h : 11 < n) (action : Nat) (s : State) :
    s.refuseService n action = s.raise (.serviceRefused n action none) := by
  rw [State.refuseService_eq, dif_neg (by omega)]

theorem State.serviceOff_above {n : Nat} (h : 11 < n) (s : State) : s.serviceOff n = s.refuseService n 0 := by
  simp [State.serviceOff, bayNo?_none h]

theorem State.serviceOn_above {n : Nat} (h : 11 < n) (s : State) : s.serviceOn n = s.refuseService n 1 := by
  simp [State.serviceOn, bayNo?_none h]

theorem State.serviceOff_refused {s : State} {b : BayNo} (h : (s.bay b).state ∈ [.opened, .ajar, .off .unused]) :
    s.serviceOff b.val = s.refuseService b.val 0 := by
  simp only [List.mem_cons, List.not_mem_nil, or_false] at h
  obtain h | h | h := h <;> simp [State.serviceOff, bayNo?_val, h]

theorem State.serviceOn_unused {s : State} {b : BayNo} (h : (s.bay b).state = .off .unused) :
    s.serviceOn b.val = s.refuseService b.val 1 := by
  simp [State.serviceOn, bayNo?_val, h]

/-- SERVICE OFF on a bay OFF by its link or by service leaves the cause SERVICE (R18). -/
theorem State.serviceOff_off {s : State} {b : BayNo} (h : (s.bay b).state ∈ [.off .link, .off .service]) :
    s.serviceOff b.val = s.setBay b { s.bay b with state := .off .service } := by
  simp only [List.mem_cons, List.not_mem_nil, or_false] at h
  obtain h | h := h
  · simp [State.serviceOff, bayNo?_val, h]
  · have hsame : { s.bay b with state := .off .service } = s.bay b := by rw [← h]
    simp [State.serviceOff, bayNo?_val, h, hsame, State.setBay_same]

/-- SERVICE ON finds no report of the bay younger than 3000 ms (R19). -/
theorem State.serviceOn_stale {s : State} {b : BayNo} (h : (s.bay b).state = .off .service)
    (hr : (s.bay b).lastPresent = none ∨ 3000 ≤ (s.bay b).reportAge) :
    s.serviceOn b.val = s.setBay b { s.bay b with state := .off .link } := by
  simp only [State.serviceOn, bayNo?_val, h]
  split
  · next present hp =>
    have hage : ¬ (s.bay b).reportAge < linkLossMillis := by
      have := hr.resolve_left (by simp [hp])
      unfold linkLossMillis; omega
    rw [if_neg hage]
  · rfl

/-- SERVICE ON goes by the last report of the bay (R19). -/
theorem State.serviceOn_fresh {s : State} {b : BayNo} {present : Bool} (h : (s.bay b).state = .off .service)
    (hp : (s.bay b).lastPresent = some present) (hr : (s.bay b).reportAge < 3000) :
    s.serviceOn b.val = s.enterBay b (if present = true then .checking else .empty) := by
  simp [State.serviceOn, bayNo?_val, h, hp, linkLossMillis, hr]

/-- SERVICE ON leaves a bay in use, in FAULT or OFF by its link as it is (R19). -/
theorem State.serviceOn_unchanged {s : State} {b : BayNo} (hs : (s.bay b).state ≠ .off .service)
    (hu : (s.bay b).state ≠ .off .unused) : s.serviceOn b.val = s := by
  rw [State.serviceOn, bayNo?_val]
  dsimp only
  split
  · contradiction
  · contradiction
  · rfl

/-! ### The three commands of SERVICE -/

section
variable {src : Station} {n action : Nat} {rest : List AskFrame} {s : State}

theorem exec_serviceOff (hr : Running s) (hq : s.line.askQueue = ⟨src, .service n 0⟩ :: rest)
    (hc : s.ts.contexts[src] = none) :
    exec .serviceOff s = .next (State.finish none s ((popAsk s).quiet.serviceOff n)) :=
  event_fromAsk_addressed hr hq hc rfl

theorem exec_serviceOn (hr : Running s) (hq : s.line.askQueue = ⟨src, .service n 1⟩ :: rest)
    (hc : s.ts.contexts[src] = none) :
    exec .serviceOn s = .next (State.finish none s ((popAsk s).quiet.serviceOn n)) :=
  event_fromAsk_addressed hr hq hc rfl

theorem exec_serviceBadAction (hr : Running s) (hq : s.line.askQueue = ⟨src, .service n action⟩ :: rest)
    (hc : s.ts.contexts[src] = none) (ha : 1 < action) :
    exec .serviceBadAction s = .next (State.finish none s ((popAsk s).quiet.refuseService n action)) :=
  event_fromAsk_addressed hr hq hc (if_pos ha)

/-- An event that writes one bay record with the commanded values it had, and does nothing else beside taking the oldest
frame of the Ask queue. -/
theorem finish_setBay {b : BayNo} {x : Bay} (hr : Running s) (hp : x.setpoint = (s.bay b).setpoint)
    (hb : x.boost = (s.bay b).boost) (hl : x.locked = (s.bay b).locked) :
    State.finish none s ((popAsk s).quiet.setBay b x) =
      { popAsk s with bays := s.bays.set b x b.isLt, out := quietOut } :=
  State.finish_unchanged hr.settled rfl (commandChanged_set rfl hp hb hl)

/-- SERVICE ON with a report younger than 3000 ms: the bay comes to EMPTY or CHECKING and a pass is requested (R19, R84). -/
theorem finish_serviceOn_fresh {b : BayNo} {present : Bool} (hr : Running s) (hb : BoostSound s)
    (hs : (s.bay b).state = .off .service) (hp : (s.bay b).lastPresent = some present)
    (hage : (s.bay b).reportAge < 3000) (hset : SetpointSound s.cfg (s.bay b)) :
    ∃ t, State.finish none s ((popAsk s).quiet.serviceOn b.val) = t ∧
      t = { popAsk s with
        bays := s.bays.set b (movedTo (if present = true then .checking else .empty) none (s.bay b)) b.isLt
        plan := t.plan, out := quietOut } ∧
      PassAsked s t := by
  generalize hnew : (if present = true then BayState.checking else .empty) = new
  have hn : new = .empty ∨ new = .checking := by cases present <;> simp_all
  obtain ⟨-, hboost, -⟩ := boost_of_not_eligible (b := b) hb (by rw [hs]; rfl)
  obtain ⟨-, -, huncharged⟩ := hset
  have hzero : (s.bay b).setpoint = 0 := huncharged (Bay.chargeable_of_not_eligible (by rw [hs]; rfl))
  have hlocked : (movedTo new none (s.bay b)).locked = (s.bay b).locked := by
    obtain rfl | rfl := hn <;> simp [movedTo, BayState.outOfUse]
  rw [State.serviceOn_fresh (s := (popAsk s).quiet) hs hp hage, hnew,
    State.enterBay_of_off (s := (popAsk s).quiet) hb hs hn]
  exact State.finish_asked hr.settled hr.run rfl rfl (commandChanged_set rfl hzero.symm hboost.symm hlocked)

end

/-- Settles O39: each case of the three commands by what SERVICE does to the bay, the event ending quietly in all but the
one that brings the bay back. -/
theorem serviceOtherCases : Obligations.ServiceOtherCases := by
  intro src n action rest s hr hb hq hc refused
  refine ⟨?offAbove, ?onAbove, ?badAction, ?onBay⟩
  case offAbove =>
    rintro rfl hn
    refine exec_raises hr ?_
    rw [exec_serviceOff hr hq hc, State.serviceOff_above hn, State.refuseService_above hn]
  case onAbove =>
    rintro rfl hn
    refine exec_raises hr ?_
    rw [exec_serviceOn hr hq hc, State.serviceOn_above hn, State.refuseService_above hn]
  case badAction =>
    intro ha
    refine exec_raises hr ?_
    rw [exec_serviceBadAction hr hq hc ha, State.refuseService_eq]
    rfl
  case onBay =>
    rintro b rfl
    have hbay : (popAsk s).quiet.bay b = s.bay b := rfl
    refine ⟨?offRefused, ?onUnused, ?offOff, ?onStale, ?onFresh, ?onOther⟩
    case offRefused =>
      rintro rfl hs
      refine exec_raises hr ?_
      rw [exec_serviceOff hr hq hc, State.serviceOff_refused (hbay ▸ hs), State.refuseService_val, hbay]
    case onUnused =>
      rintro rfl hs
      refine exec_raises hr ?_
      rw [exec_serviceOn hr hq hc, State.serviceOn_unused (hbay ▸ hs), State.refuseService_val, hbay, hs]
    case offOff =>
      rintro rfl hs
      rw [exec_serviceOff hr hq hc, State.serviceOff_off (hbay ▸ hs), hbay]
      exact congrArg _ (finish_setBay hr rfl rfl rfl)
    case onStale =>
      rintro rfl hs hage
      rw [exec_serviceOn hr hq hc, State.serviceOn_stale (hbay ▸ hs) (hbay ▸ hage), hbay]
      exact congrArg _ (finish_setBay hr rfl rfl rfl)
    case onFresh =>
      rintro rfl hs present hp hage - hset - new
      obtain ⟨t, ht, hrest⟩ := finish_serviceOn_fresh hr hb hs hp hage hset
      exact ⟨t, by rw [exec_serviceOn hr hq hc, ht], hrest⟩
    case onOther =>
      rintro rfl hs hu
      rw [exec_serviceOn hr hq hc, State.serviceOn_unchanged (hbay ▸ hs) (hbay ▸ hu)]
      exact congrArg _ (State.finish_unchanged hr.settled rfl (commandChanged_same rfl))

end Sys2Proof.Machine
end

section
/-! SUPPORT. A repeated SWAP ASK and a peer OFFER (R62, R69, R70, R75 to R77); before them how a frame that is not addressed
is taken in RUN, and which slot of the Held Answer Table an ask or an offer finds. -/

namespace Sys2Proof.Machine

open Sys2Proof.Machine.Safety

/-! ### A frame that is not addressed -/

section
variable {s : State} {body : State → State}

/-- The event of a command that takes a frame of the Ask queue in RUN, the frame not being addressed (R166). -/
theorem event_fromAsk_inRun {x : AskFrame} {rest : List AskFrame} {f : AskFrame → Option (State → State)}
    (hr : Running s) (hq : s.line.askQueue = x :: rest) (hf : f x = some (inRun body)) :
    event (State.fromAsk f) s = .next (State.finish none s (body (popAsk s).quiet)) := by
  have hpop : ({ s.quiet with line.askQueue := rest } : State) = (popAsk s).quiet := by simp [popAsk, State.quiet, hq]
  rw [event, State.take_live hr.released, State.fromAsk_cons (s := s.quiet) hq hf, hpop,
    inRun_run (s := (popAsk s).quiet) body hr.run]

/-- The event of a command that takes a frame of the Peer queue in RUN (R167). -/
theorem event_fromPeer_inRun {x : PeerFrame} {rest : List PeerFrame} {f : PeerFrame → Option (State → State)}
    (hr : Running s) (hq : s.line.peerQueue = x :: rest) (hf : f x = some (inRun body)) :
    event (State.fromPeer f) s = .next (State.finish none s (body (popPeer s).quiet)) := by
  have hpop : ({ s.quiet with line.peerQueue := rest } : State) = (popPeer s).quiet := by
    simp [popPeer, State.quiet, hq]
  rw [event, State.take_live hr.released, State.fromPeer_cons (s := s.quiet) hq hf, hpop,
    inRun_run (s := (popPeer s).quiet) body hr.run]

/-- An event that changes the Held Answer Table and the Line Controller alone ends as it stands. -/
theorem finish_asks_line (hr : Running s) (asks : AskTable) (line : LineController) :
    State.finish none s { s with asks := asks, line := line, out := quietOut } =
      { s with asks := asks, line := line, out := quietOut } :=
  State.finish_unchanged hr.settled rfl (commandChanged_same rfl)

/-- In RUN a posted frame reaches the Line Controller (R168). -/
theorem State.post_run (f : OutFrame) (h : s.part = .run) : s.post f = { s with line := s.line.post f } := by
  simp [State.post, h]

end

/-! ### The slot of an ask (R61) -/

theorem mem_allSlots (i : SlotNo) : i ∈ allSlots := List.mem_finRange i

/-- Writing back what a slot holds changes nothing. -/
theorem State.setSlot_same {s : State} {i : SlotNo} {x : Option Slot} (h : s.asks.slots[i] = x) : s.setSlot i x = s := by
  subst h
  simp [State.setSlot]

theorem Slot.isFor_iff {terminal : Station} {ask : Nat} {x : Slot} :
    x.isFor terminal ask = true ↔ x.terminal = terminal ∧ x.ask = ask := by
  simp [Slot.isFor]

/-- The slot found for an ask holds it. -/
theorem State.slotOf_some {s : State} {terminal : Station} {ask : Nat} {i : SlotNo} {x : Slot}
    (h : s.slotOf terminal ask = some (i, x)) : s.asks.slots[i] = some x ∧ x.terminal = terminal ∧ x.ask = ask := by
  obtain ⟨j, -, hj⟩ := List.exists_of_findSome?_eq_some h
  split at hj
  next y hy =>
    obtain ⟨hfor, heq⟩ := Option.ite_none_right_eq_some.mp hj
    obtain ⟨rfl, rfl⟩ := Prod.mk.inj (Option.some.inj heq)
    exact ⟨hy, Slot.isFor_iff.mp hfor⟩
  next => contradiction

/-- Where no slot is found for an ask, none holds it. -/
theorem State.slotOf_none {s : State} {terminal : Station} {ask : Nat} (h : s.slotOf terminal ask = none) {i : SlotNo}
    {x : Slot} (hi : s.asks.slots[i] = some x) : ¬ (x.terminal = terminal ∧ x.ask = ask) := by
  have hnone := List.findSome?_eq_none_iff.mp h i (mem_allSlots i)
  rw [← Slot.isFor_iff]
  simpa [hi] using hnone

/-- At most one slot holds an ask, so the slot that holds it is the one found (R61). -/
theorem State.slotOf_eq {s : State} {terminal : Station} {ask : Nat} {i : SlotNo} {x : Slot} (hs : SlotsSound s)
    (hi : s.asks.slots[i] = some x) (ht : x.terminal = terminal) (ha : x.ask = ask) :
    s.slotOf terminal ask = some (i, x) := by
  obtain ⟨hunique, -, -⟩ := hs
  cases hfound : s.slotOf terminal ask with
  | none => exact absurd ⟨ht, ha⟩ (State.slotOf_none hfound hi)
  | some p =>
    obtain ⟨j, y⟩ := p
    obtain ⟨hj, hyt, hya⟩ := State.slotOf_some hfound
    obtain rfl : i = j := hunique i j x y hi hj (ht.trans hyt.symm) (ha.trans hya.symm)
    obtain rfl : x = y := Option.some.inj (hi.symm.trans hj)
    rfl

/-- A slot in NONE has a reason (R61). -/
theorem reason_of_none {s : State} {i : SlotNo} {x : Slot} {m : Nat} (hs : SlotsSound s)
    (hi : s.asks.slots[i] = some x) (hx : x.state = .none m) : ∃ r, x.reason = some r := by
  obtain ⟨-, hslots, -⟩ := hs
  obtain ⟨-, -, hreason⟩ := hslots i x hi
  exact Option.isSome_iff_exists.mp (hreason m hx)

/-! ### A repeat, by the state of its slot (R62, R75 to R77) -/

theorem Slot.matches_iff {a : Ask} {x : Slot} :
    x.matches a = true ↔ x.token = a.token ∧ x.cls = a.cls ∧ x.target = a.target ∧ x.window = a.window := by
  simp [Slot.matches, and_assoc]

section
variable {s : State} {i : SlotNo} {x : Slot} {a : Ask} {id off m : Nat} {k : WonKind}

theorem State.answerRepeat_bidding (hrun : s.part = .run) (hx : x.state = .bidding m) :
    s.answerRepeat i x a = { s with line := s.line.post (.answer x.terminal (.hold x.ask)) } := by
  simp [State.answerRepeat, hx, State.post_run _ hrun]

theorem State.answerRepeat_won (hrun : s.part = .run) (hx : x.state = .won id off k m) (hm : x.matches a = true) :
    s.answerRepeat i x a =
      { s with
        asks := { s.asks with slots := s.asks.slots.set i none i.isLt }
        line := s.line.post (.answer x.terminal (.granted x.ask id off)) } := by
  simp [State.answerRepeat, hx, hm, State.post_run _ hrun, State.setSlot]

theorem State.answerRepeat_none {r : NoneReason} (hrun : s.part = .run) (hx : x.state = .none m)
    (hm : x.matches a = true) (hreason : x.reason = some r) :
    s.answerRepeat i x a =
      { s with
        asks := { s.asks with slots := s.asks.slots.set i none i.isLt }
        line := s.line.post (.answer x.terminal (.none x.ask r)) } := by
  simp [State.answerRepeat, hx, hm, hreason, State.post_run _ hrun, State.setSlot]

theorem State.answerRepeat_mismatch (hrun : s.part = .run)
    (hx : (∃ id off k, x.state = .won id off k m) ∨ x.state = .none m) (hm : ¬ x.matches a = true) :
    s.answerRepeat i x a = { s with line := s.line.post (.answer x.terminal (.hold x.ask)) } := by
  obtain ⟨id, off, k, hx⟩ | hx := hx <;> simp [State.answerRepeat, hx, hm, State.post_run _ hrun]

theorem State.answerRepeat_lost (hx : x.state = .lost m) : s.answerRepeat i x a = s := by
  simp [State.answerRepeat, hx]

end

/-- SWAP ASK for an ask that a slot holds does what the repeat of that slot makes of the Held Answer Table and the line
(R62). -/
theorem exec_swapAsk_repeat {src : Station} {ask token cls target arrival window : Nat} {rest : List AskFrame}
    {i : SlotNo} {x : Slot} {s : State} {asks : AskTable} {line : LineController} (hr : Running s) (hs : SlotsSound s)
    (hq : s.line.askQueue = ⟨src, .swapAsk ask token cls target arrival window⟩ :: rest)
    (hi : s.asks.slots[i] = some x) (ht : x.terminal = src) (ha : x.ask = ask)
    (hrepeat : (popAsk s).quiet.answerRepeat i x (limitAsk src ask token cls target arrival window) =
      { (popAsk s).quiet with asks := asks, line := line }) :
    exec .swapAsk s = .next { popAsk s with out := quietOut, asks := asks, line := line } := by
  have hslot : (popAsk s).quiet.slotOf src ask = some (i, x) := State.slotOf_eq (s := (popAsk s).quiet) hs hi ht ha
  have htake : (popAsk s).quiet.takeAsk (limitAsk src ask token cls target arrival window) =
      (popAsk s).quiet.answerRepeat i x (limitAsk src ask token cls target arrival window) := by
    rw [State.takeAsk]
    simp only [limitAsk, hslot]
  have hexec : exec .swapAsk s = _ := event_fromAsk_inRun hr hq rfl
  rw [hexec, htake, hrepeat]
  exact congrArg _ (finish_asks_line hr asks line)

/-- Settles O42: the slot of a repeat is the one found, and each state of it answers by its own equation. -/
theorem repeatIsAnsweredByItsSlot : Obligations.RepeatIsAnsweredByItsSlot := by
  intro src ask token cls target arrival window rest i x s hr hs hq hi ht ha same freed answered
  have hmatch : x.matches (limitAsk src ask token cls target arrival window) = true ↔ same := Slot.matches_iff
  have hrun : (popAsk s).quiet.part = .run := hr.run
  subst ht ha
  refine ⟨?bidding, ?won, ?none, ?lost⟩
  case bidding =>
    intro m hx
    exact exec_swapAsk_repeat hr hs hq hi rfl rfl (State.answerRepeat_bidding hrun hx)
  case won =>
    intro id off k m hx
    refine ⟨fun hsame => ?_, fun hsame => ?_⟩
    · exact exec_swapAsk_repeat hr hs hq hi rfl rfl (State.answerRepeat_won hrun hx (hmatch.mpr hsame))
    · exact exec_swapAsk_repeat hr hs hq hi rfl rfl
        (State.answerRepeat_mismatch hrun (.inl ⟨id, off, k, hx⟩) (hmatch.not.mpr hsame))
  case none =>
    intro m hx
    refine ⟨fun hsame => ?_, fun hsame => ?_⟩
    · obtain ⟨r, hreason⟩ := reason_of_none hs hi hx
      exact ⟨r, hreason, exec_swapAsk_repeat hr hs hq hi rfl rfl
        (State.answerRepeat_none hrun hx (hmatch.mpr hsame) hreason)⟩
    · exact exec_swapAsk_repeat hr hs hq hi rfl rfl
        (State.answerRepeat_mismatch hrun (.inr hx) (hmatch.not.mpr hsame))
  case lost =>
    intro m hx
    exact exec_swapAsk_repeat (asks := s.asks) (line := (popAsk s).line) hr hs hq hi rfl rfl (State.answerRepeat_lost hx)

/-! ### A peer's offer (R69, R70) -/

/-- The model's order of offers is R70's. -/
theorem ranksBefore_iff {a b : Heard} : ranksBefore a b = true ↔ Ranked a b := by
  simp [ranksBefore, Ranked]

theorem Slot.hear_of_ranked {o : Heard} {x : Slot} (h : ∀ k, x.heard = some k → Ranked o k) :
    x.hear o = { x with heard := some o } := by
  cases hx : x.heard with
  | none => simp [Slot.hear, hx]
  | some k => simp [Slot.hear, hx, ranksBefore_iff.mpr (h k hx)]

theorem Slot.hear_of_not_ranked {o k : Heard} {x : Slot} (hx : x.heard = some k) (h : ¬ Ranked o k) : x.hear o = x := by
  simp [Slot.hear, hx, ranksBefore_iff, h]

/-- The slots an OFFER names: those in BIDDING for its terminal and ask number (R69). -/
def Slot.BidsFor (terminal ask : Nat) (x : Slot) : Prop :=
  (∃ m, x.state = .bidding m) ∧ x.terminal.val = terminal ∧ x.ask = ask

theorem Slot.isBidding_iff {x : Slot} : x.isBidding = true ↔ ∃ m, x.state = .bidding m := by
  cases hx : x.state <;> simp [Slot.isBidding, hx]

/-- The test by which the model looks for the slot of an OFFER is `BidsFor`. -/
theorem Slot.bidsFor_iff {terminal ask : Nat} {x : Slot} :
    (x.isBidding && x.terminal.val == terminal && x.ask == ask) = true ↔ x.BidsFor terminal ask := by
  simp [Slot.BidsFor, Slot.isBidding_iff, and_assoc]

section
variable {src : Station} {terminal ask offset : Nat} {existing : Bool} {s : State}

theorem State.takeOffer_own (h : src = s.cfg.station) : s.takeOffer src terminal ask offset existing = s := if_pos h

/-- What an OFFER of a peer does: a slot it names hears it, and where it names none it does nothing (R69). -/
theorem State.takeOffer_cases (terminal ask offset : Nat) (existing : Bool) (h : src ≠ s.cfg.station) :
    (∃ i x, s.asks.slots[i] = some x ∧ x.BidsFor terminal ask ∧
      s.takeOffer src terminal ask offset existing = s.setSlot i (some (x.hear ⟨offset, existing, src⟩))) ∨
    ((∀ (i : SlotNo) (x : Slot), s.asks.slots[i] = some x → ¬ x.BidsFor terminal ask) ∧
      s.takeOffer src terminal ask offset existing = s) := by
  rw [State.takeOffer, if_neg h]
  split
  next i hfound =>
    have hnamed := List.find?_some hfound
    split at hnamed
    next x hx => exact .inl ⟨i, x, hx, Slot.bidsFor_iff.mp hnamed, by rw [hx]; rfl⟩
    next => contradiction
  next hfound =>
    refine .inr ⟨fun i x hx => ?_, rfl⟩
    have hnot := List.find?_eq_none.mp hfound i (mem_allSlots i)
    rwa [hx, Slot.bidsFor_iff] at hnot

/-- At most one slot holds an ask, so the slot an OFFER names is the one that hears it (R61, R69). -/
theorem State.takeOffer_named {i : SlotNo} {x : Slot} (hs : SlotsSound s) (h : src ≠ s.cfg.station)
    (hi : s.asks.slots[i] = some x) (hx : x.BidsFor terminal ask) :
    s.takeOffer src terminal ask offset existing = s.setSlot i (some (x.hear ⟨offset, existing, src⟩)) := by
  obtain ⟨hunique, -, -⟩ := hs
  obtain ⟨j, y, hj, hy, heq⟩ | ⟨hnone, -⟩ := State.takeOffer_cases terminal ask offset existing h
  · obtain ⟨-, hxt, hxa⟩ := hx
    obtain ⟨-, hyt, hya⟩ := hy
    obtain rfl : i = j := hunique i j x y hi hj (Fin.ext (hxt.trans hyt.symm)) (hxa.trans hya.symm)
    obtain rfl : x = y := Option.some.inj (hi.symm.trans hj)
    exact heq
  · exact absurd hx (hnone i x hi)

/-- An OFFER that no slot it names would keep changes nothing (R69). -/
theorem State.takeOffer_ignored
    (h : ∀ (i : SlotNo) (x : Slot), s.asks.slots[i] = some x → x.BidsFor terminal ask →
      x.hear ⟨offset, existing, src⟩ = x) :
    s.takeOffer src terminal ask offset existing = s := by
  by_cases hown : src = s.cfg.station
  · exact State.takeOffer_own hown
  · obtain ⟨i, x, hi, hx, heq⟩ | ⟨-, heq⟩ := State.takeOffer_cases terminal ask offset existing hown
    · rw [heq, h i x hi hx, State.setSlot_same hi]
    · exact heq

theorem exec_offer {rest : List PeerFrame} (hr : Running s)
    (hq : s.line.peerQueue = ⟨src, .offer terminal ask offset existing⟩ :: rest) :
    exec .offer s =
      .next (State.finish none s ((popPeer s).quiet.takeOffer src terminal ask offset existing)) :=
  event_fromPeer_inRun hr hq rfl

end

/-- Settles O43: the one slot in BIDDING that the offer names hears it, keeping it or not by R70's ranking. -/
theorem offerIsHeardByRank : Obligations.OfferIsHeardByRank := by
  intro src terminal ask offset existing rest s hr hs hq
  have hexec := exec_offer hr hq
  refine ⟨?kept, ?ignored⟩
  case kept =>
    intro i x hi hsrc ht ha hb hrank
    have htake := State.takeOffer_named (s := (popPeer s).quiet) (offset := offset) (existing := existing) hs hsrc hi
      ⟨hb, ht, ha⟩
    rw [htake, Slot.hear_of_ranked hrank] at hexec
    exact hexec.trans (congrArg _ (finish_asks_line hr _ _))
  case ignored =>
    intro h
    have htake : (popPeer s).quiet.takeOffer src terminal ask offset existing = (popPeer s).quiet := by
      obtain hown | hheard := h
      · exact State.takeOffer_own hown
      · refine State.takeOffer_ignored fun i x hi ⟨hb, ht, ha⟩ => ?_
        obtain ⟨k, hk, hrank⟩ := hheard i x hi ht ha hb
        exact Slot.hear_of_not_ranked hk hrank
    rw [htake] at hexec
    exact hexec.trans (congrArg _ (finish_asks_line hr _ _))

end Sys2Proof.Machine
end

section
/-! SUPPORT. A boost fault in a report and the arbiter's own timers (R4, R107 to R113, R116, R117); before them the end of a
grant by the rules' record of the holder, what a report's receipt and the arbiter leave of each other, and the scans of the
two rings. -/

namespace Sys2Proof.Machine

open Sys2Proof.Machine.Safety

/-! ### The end of a grant and the receipt of a report (R4, R102, R112) -/

/-- A notice neither reads nor writes the bay records and the outputs (R179). -/
theorem State.raise_with (s : State) (n : Notice) (bays : Vector Bay 12) (out : Outputs) :
    State.raise n { s with bays := bays, out := out } = { s.raise n with bays := bays, out := out } := by
  by_cases hsilent : s.cfg.disableMask.getLsbD (groupOfCode n.code) = true
  · simp [State.raise, State.silenced, hsilent]
  · cases hp : s.part <;> simp [State.raise, State.silenced, State.post, hsilent, hp]

theorem State.raise_noteReport (b : BayNo) (r : Report) (s : State) (n : Notice) :
    (s.quiet.noteReport b r).raise n = (s.raise n).quiet.noteReport b r := by
  refine (State.raise_with s n _ _).trans ?_
  simp [State.noteReport, State.setBay, State.bay, State.quiet]

/-- The end of a grant, with the holder's record as R102 leaves it (R112). -/
theorem State.endGrant_cutBay {s : State} {h : BayNo} (c : Converter) (hh : s.boost.converter.holder = some h) :
    s.endGrant c =
      { s with
        bays := s.bays.set h (cutBay s h) h.isLt, boost := { s.boost with converter := c }
        plan := { s.plan with requested := true } } := by
  rw [State.endGrant_eq c hh]
  rfl

/-- What the receipt of a report notes in a record is none of what the end of a grant reads or writes there (R4, R102). -/
theorem cutBay_noteReport (b h : BayNo) (r : Report) (s : State) :
    cutBay (s.noteReport b r) h =
      if b = h then { cutBay s h with reportAge := 0, lastPresent := some r.present } else cutBay s h := by
  by_cases hb : b = h
  · subst hb
    simp only [cutBay, State.noteReport, State.setBay_bay_self, if_true]
    rfl
  · simp [cutBay, State.noteReport, hb]

/-- The end of a grant and the receipt of a report may change places, the holder's own report included. -/
theorem State.endGrant_noteReport (b : BayNo) (r : Report) (s : State) (c : Converter) :
    (s.quiet.noteReport b r).endGrant c = (s.endGrant c).quiet.noteReport b r := by
  cases hh : s.boost.converter.holder with
  | none => simp [State.endGrant, State.noteReport, hh]
  | some h =>
    rw [State.endGrant_cutBay (s := s.quiet.noteReport b r) c hh, State.endGrant_cutBay c hh, cutBay_noteReport]
    by_cases hb : b = h
    · subst hb
      simp [State.noteReport, State.setBay, State.bay]
      rfl
    · have hne : b.val ≠ h.val := fun e => hb (Fin.ext e)
      simp [State.noteReport, State.setBay, State.bay, hb, hne.symm, Vector.set_comm _ _ hne]
      rfl

/-! ### A boost fault taken before the rest of its report (R4, R117) -/

/-- The arbiter's taking of a boost fault is the one R117 gives for the converter's state. -/
theorem State.takeBoostFault_eq (b : BayNo) (s : State) : s.takeBoostFault b = afterBoostFault b s := by
  unfold State.takeBoostFault afterBoostFault
  cases hc : s.boost.converter with
  | idle | switching | faulted => rfl
  | granted h slice =>
    dsimp only [Converter.holder]
    rw [State.endGrant_cutBay (h := h) _ (by rw [hc]; rfl)]
    rfl

/-- A boost fault taken after the receipt of its report does what it does before it. -/
theorem State.takeBoostFault_noteReport (b : BayNo) (r : Report) (s : State) :
    (s.quiet.noteReport b r).takeBoostFault b = (s.takeBoostFault b).quiet.noteReport b r := by
  unfold State.takeBoostFault
  rw [show (s.quiet.noteReport b r).boost = s.boost from rfl]
  cases s.boost.converter with
  | faulted => rfl
  | idle | switching => exact State.raise_noteReport b r { s with boost.converter := .faulted } _
  | granted h slice =>
    exact (congrArg _ (State.endGrant_noteReport b r s _)).trans (State.raise_noteReport b r _ _)

/-- The second and third parts of R4, the door step and the rule of the bay's state. -/
def State.afterReceipt (b : BayNo) (r : Report) (s : State) : State :=
  (s.doorStep b r).reportByState b (s.bay b).door r

theorem State.takeReport_of_boostFault {b : BayNo} {r : Report} {s : State} (hrun : s.part = .run)
    (hf : r.boostFault = true) : s.takeReport b r = ((s.noteReport b r).takeBoostFault b).afterReceipt b r := by
  have hp : (s.noteReport b r).part = .run := hrun
  simp [State.takeReport, State.afterReceipt, hf, hp]

theorem State.takeReport_of_no_boostFault {b : BayNo} {r : Report} {s : State} (hrun : s.part = .run)
    (hf : r.boostFault = false) : s.takeReport b r = (s.noteReport b r).afterReceipt b r := by
  have hp : (s.noteReport b r).part = .run := hrun
  simp [State.takeReport, State.afterReceipt, hf, hp]

/-- The receipt of a report and the rest of its rule do not read its boost fault (R4). -/
theorem State.afterReceipt_boostFault (b : BayNo) (r : Report) (v : Bool) (s : State) :
    (s.noteReport b { r with boostFault := v }).afterReceipt b { r with boostFault := v } =
      (s.noteReport b r).afterReceipt b r := rfl

/-- The boost fault of a report taken first, and then the rest of the report (R4). -/
theorem State.takeReport_boostFault {b : BayNo} {r : Report} {s : State} (hrun : s.part = .run) (hf : r.boostFault = true) :
    s.quiet.takeReport b r = (afterBoostFault b s).quiet.takeReport b { r with boostFault := false } := by
  rw [← State.takeBoostFault_eq]
  have hafter : (s.takeBoostFault b).quiet.part = .run := by simp [hrun]
  rw [State.takeReport_of_boostFault (s := s.quiet) hrun hf, State.takeReport_of_no_boostFault hafter rfl,
    State.takeBoostFault_noteReport]
  exact (State.afterReceipt_boostFault b r false _).symm

/-- A valid report taken while RESTART is released, answered with an order to its bay (R4, R20). -/
theorem exec_bayReport {b : BayNo} {r : Report} {s : State} (hp : s.pins.restart = false) (hok : r.checkOk = true) :
    exec (.bayReport b r) s = .next (State.finish (some b) s (s.quiet.takeReport b (limitReport r))) := by
  simp only [exec, execBayReport, hok, if_true, State.take_live hp]

/-- Settles O30: the boost fault of a report changes places with its receipt, and nothing after them reads it. -/
theorem reportWithBoostFault : Obligations.ReportWithBoostFault := by
  intro b r s hr hok hf
  have hreleased : (afterBoostFault b s).pins.restart = false := by
    rw [← State.takeBoostFault_eq, State.takeBoostFault_pins, hr.released]
  have hbody : s.quiet.takeReport b (limitReport r) =
      (afterBoostFault b s).quiet.takeReport b (limitReport { r with boostFault := false }) :=
    State.takeReport_boostFault hr.run hf
  refine ⟨_, exec_bayReport hr.released hok, _, exec_bayReport hreleased hok, ?_⟩
  rw [hbody]
  rfl

/-! ### A scan of a ring (R108) -/

/-- The position a scan looks at after passing `i` others is one it passes `i` others to reach (R108). -/
theorem scanned_scan {n ptr i : Nat} (hptr : ptr < n) (hi : i < n) : scanned n ptr ((ptr + 1 + i) % n) = i := by
  have key : ((ptr + 1 + i) % n + (n - (ptr + 1))) % n = i := by
    rw [Nat.mod_add_mod, show ptr + 1 + i + (n - (ptr + 1)) = i + n by omega, Nat.add_mod_right, Nat.mod_eq_of_lt hi]
  rw [scanned, Nat.add_sub_assoc hptr, key]

/-- A scan that has passed the others before `p` looks at `p` (R108). -/
theorem scan_scanned {n ptr p : Nat} (hptr : ptr < n) (hp : p < n) : (ptr + 1 + scanned n ptr p) % n = p := by
  rw [scanned, Nat.add_mod_mod, show ptr + 1 + (p + n - (ptr + 1)) = p + n by omega, Nat.add_mod_right,
    Nat.mod_eq_of_lt hp]

theorem mem_scanOrder {n ptr p : Nat} (hptr : ptr < n) : p ∈ scanOrder n ptr ↔ p < n := by
  simp only [scanOrder, List.mem_map, List.mem_range]
  constructor
  · rintro ⟨i, -, rfl⟩
    exact Nat.mod_lt _ (by omega)
  · intro hp
    exact ⟨scanned n ptr p, Nat.mod_lt _ (by omega), scan_scanned hptr hp⟩

/-- A scan finds the requesting position it comes to first (R108). -/
theorem find_scanOrder {n ptr p : Nat} {f : Nat → Bool} (hptr : ptr < n) (h : (scanOrder n ptr).find? f = some p) :
    p < n ∧ f p = true ∧ ∀ q < n, f q = true → scanned n ptr p ≤ scanned n ptr q := by
  refine ⟨(mem_scanOrder hptr).1 (List.mem_of_find?_eq_some h), List.find?_some h, fun q hq hfq => ?_⟩
  rw [scanOrder, List.find?_map, Option.map_eq_some_iff] at h
  obtain ⟨i, hi, rfl⟩ := h
  obtain ⟨-, hin, hbefore⟩ := List.find?_range_eq_some.1 hi
  rw [scanned_scan hptr (List.mem_range.1 hin)]
  refine Nat.le_of_not_lt fun hlt => ?_
  have := hbefore _ hlt
  simp [scan_scanned hptr hq, hfq] at this

theorem find_scanOrder_none {n ptr : Nat} {f : Nat → Bool} (hptr : ptr < n) (h : (scanOrder n ptr).find? f = none) :
    ∀ q < n, f q = false := by
  intro q hq
  simpa using List.find?_eq_none.1 h q ((mem_scanOrder hptr).2 hq)

/-! ### The decision (R107 to R110) -/

section
variable {a : Arbiter}

theorem Arbiter.highRequests_iff {b : BayNo} : a.highRequests b = true ↔ b ∈ a.high ∧ a.eligible[b] = true := by
  simp [Arbiter.highRequests]

theorem Arbiter.lowRequests_iff {b : BayNo} : a.lowRequests b = true ↔ b ∈ a.low ∧ a.eligible[b] = true := by
  simp [Arbiter.lowRequests]

/-- A bay's position of the high ring requests by the HIGH set, the LOW member's by the LOW set (R109). -/
theorem Arbiter.positionRequests_iff {p : Nat} (hp : p < 13) : a.positionRequests p = true ↔ Requests a p := by
  by_cases hbay : p < 12
  · have hlow : p ≠ 12 := by omega
    rw [Arbiter.positionRequests, dif_pos hbay, Arbiter.highRequests_iff]
    constructor
    · exact fun h => .inl ⟨⟨p, hbay⟩, rfl, h⟩
    · rintro (⟨b, rfl, h⟩ | ⟨h, -⟩)
      · exact h
      · exact absurd h hlow
  · obtain rfl : p = 12 := by omega
    rw [Arbiter.positionRequests, dif_neg hbay]
    simp only [List.any_eq_true, Arbiter.lowRequests_iff]
    constructor
    · rintro ⟨b, -, h⟩
      exact .inr ⟨rfl, b, h⟩
    · rintro (⟨b, hb, -⟩ | ⟨-, b, h⟩)
      · exact absurd hb (Nat.ne_of_lt b.isLt)
      · exact ⟨b, List.mem_finRange b, h⟩

theorem Arbiter.highWinner_none (h : a.highWinner = none) : ∀ p < 13, ¬ Requests a p := by
  intro p hp hreq
  have := find_scanOrder_none a.highPtr.isLt h p hp
  simp [(Arbiter.positionRequests_iff hp).2 hreq] at this

/-- The winner of the high ring is the requesting position its scan comes to first (R109). -/
theorem Arbiter.highWinner_some {p : Nat} (h : a.highWinner = some p) :
    p < 13 ∧ Requests a p ∧ ∀ q < 13, Requests a q → scanned 13 a.highPtr p ≤ scanned 13 a.highPtr q := by
  obtain ⟨hp, hreq, hfirst⟩ := find_scanOrder a.highPtr.isLt h
  exact ⟨hp, (Arbiter.positionRequests_iff hp).1 hreq,
    fun q hq hq' => hfirst q hq ((Arbiter.positionRequests_iff hq).2 hq')⟩

theorem Arbiter.lowWinner_none (h : a.lowWinner = none) (b : BayNo) : ¬ (b ∈ a.low ∧ a.eligible[b] = true) := by
  rw [Arbiter.lowWinner, List.find?_map, Option.map_eq_none_iff] at h
  have := find_scanOrder_none a.lowPtr.isLt h b b.isLt
  rw [← Arbiter.lowRequests_iff]
  simpa using this

/-- The winner of the low ring is the requesting bay its scan comes to first (R110). -/
theorem Arbiter.lowWinner_some {b : BayNo} (h : a.lowWinner = some b) :
    (b ∈ a.low ∧ a.eligible[b] = true) ∧
      ∀ c ∈ a.low, a.eligible[c] = true → scanned 12 a.lowPtr b ≤ scanned 12 a.lowPtr c := by
  rw [Arbiter.lowWinner, List.find?_map, Option.map_eq_some_iff] at h
  obtain ⟨p, hp, rfl⟩ := h
  obtain ⟨hlt, hreq, hfirst⟩ := find_scanOrder a.lowPtr.isLt hp
  obtain ⟨b, rfl⟩ : ∃ b : BayNo, b.val = p := ⟨⟨p, hlt⟩, rfl⟩
  rw [Fin.ofNat_val_eq_self]
  refine ⟨Arbiter.lowRequests_iff.1 (by simpa using hreq), fun c hc he => hfirst c c.isLt ?_⟩
  simpa using Arbiter.lowRequests_iff.2 ⟨hc, he⟩

/-- The decision the arbiter makes is the one R107 to R110 give. -/
theorem Arbiter.decide_eq {a' : Arbiter} {w : Option BayNo} (h : Decided a a' w) : a.decide = (w, a') := by
  obtain ⟨hnone, hhigh, hlow⟩ := h
  unfold Arbiter.decide
  cases hp : a.highWinner with
  | none =>
    obtain ⟨rfl, rfl⟩ := hnone (Arbiter.highWinner_none hp)
    rfl
  | some p =>
    obtain ⟨hlt, hreq, hfirst⟩ := Arbiter.highWinner_some hp
    by_cases hbay : p < 12
    · obtain ⟨rfl, rfl⟩ := hhigh ⟨p, hbay⟩ hreq hfirst
      exact dif_pos hbay
    · obtain rfl : p = 12 := by omega
      cases hb : a.lowWinner with
      | none =>
        obtain ⟨b, hb', -⟩ | ⟨-, b, hreqb⟩ := hreq
        · exact absurd hb' (Nat.ne_of_lt b.isLt)
        · exact absurd hreqb (Arbiter.lowWinner_none hb b)
      | some b =>
        obtain ⟨⟨hmem, helig⟩, hfirstb⟩ := Arbiter.lowWinner_some hb
        obtain ⟨rfl, rfl⟩ := hlow b hmem helig hfirst hfirstb
        exact dif_neg hbay

/-- A rival of the holder is another bay that requests (R113). -/
theorem Arbiter.rivalOf_iff {h : BayNo} :
    a.rivalOf h = true ↔ ∃ b, b ≠ h ∧ a.eligible[b] = true ∧ (b ∈ a.high ∨ b ∈ a.low) := by
  simp only [Arbiter.rivalOf, List.any_eq_true, Bool.and_eq_true, Bool.or_eq_true, decide_eq_true_eq,
    Arbiter.highRequests_iff, Arbiter.lowRequests_iff]
  constructor
  · rintro ⟨b, -, hne, ⟨hm, he⟩ | ⟨hm, he⟩⟩
    · exact ⟨b, hne, he, .inl hm⟩
    · exact ⟨b, hne, he, .inr hm⟩
  · rintro ⟨b, hne, he, hm | hm⟩
    · exact ⟨b, List.mem_finRange b, hne, .inl ⟨hm, he⟩⟩
    · exact ⟨b, List.mem_finRange b, hne, .inr ⟨hm, he⟩⟩

end

/-! ### The arbiter's timers (R113, R116) -/

/-- The end of an event in RUN that requested a pass: beside the pass and the outputs nothing changes any more (R20, R83,
R84). -/
theorem State.finish_requested {s u : State} (reply : Option BayNo) (hs : s.plan.requested = false) (hr : u.part = .run)
    (hp : u.plan = { s.plan with requested := true }) :
    State.finish reply s u =
        { u with plan := (State.finish reply s u).plan, out := (State.finish reply s u).out } ∧
      PassAsked s (State.finish reply s u) := by
  rw [State.finish_some reply (by rw [hp]) hr]
  refine ⟨rfl, ?_⟩
  rw [PassAsked]
  simp only [hp, Planner.asked]
  cases s.plan.pass <;> simp [hs, State.snapshot, periodMillis]

section
variable {s : State}

theorem exec_sliceTimerExpiry (hr : Running s) :
    exec .sliceTimerExpiry s = .next (State.finish none s s.quiet.sliceEnds) := by
  rw [exec, execSliceTimerExpiry, event, State.take_live hr.released]

theorem exec_switchTimerExpiry (hr : Running s) :
    exec .switchTimerExpiry s = .next (State.finish none s s.quiet.switchEnds) := by
  rw [exec, execSwitchTimerExpiry, event, State.take_live hr.released]

theorem State.sliceEnds_rival {h : BayNo} (hc : s.boost.converter = .granted h 0) (hrival : s.boost.rivalOf h = true) :
    s.sliceEnds = s.endGrant (.switching 2000) := by
  simp [State.sliceEnds, hc, hrival, switchMillis]

theorem State.sliceEnds_renewed {h : BayNo} (hc : s.boost.converter = .granted h 0) (hrival : s.boost.rivalOf h = false) :
    s.sliceEnds = { s with boost.converter := .granted h (s.cfg.boostSlice * 1000) } := by
  simp [State.sliceEnds, hc, hrival]

theorem State.switchEnds_granted {a : Arbiter} {b : BayNo} (hc : s.boost.converter = .switching 0)
    (hd : Decided s.boost a (some b)) : s.switchEnds = { s with boost := a }.grant b := by
  simp only [State.switchEnds, hc, State.decideGrant, Arbiter.decide_eq hd]

theorem State.switchEnds_idle {a : Arbiter} (hc : s.boost.converter = .switching 0) (hd : Decided s.boost a none) :
    s.switchEnds = { s with boost := { a with converter := .idle } } := by
  simp only [State.switchEnds, hc, State.decideGrant, Arbiter.decide_eq hd]

end

/-- Settles O50: the slice timer by whether the holder has a rival, the switchover by whom the decision of R107 to R110
grants. -/
theorem sliceAndSwitchTimers : Obligations.SliceAndSwitchTimers := by
  intro s hr
  refine ⟨fun h hc => ⟨?rival, ?alone⟩, fun hc a w hd => ⟨?winner, ?idle⟩⟩
  case rival =>
    intro hrival
    rw [exec_sliceTimerExpiry hr, State.sliceEnds_rival (s := s.quiet) hc (Arbiter.rivalOf_iff.2 hrival),
      State.endGrant_cutBay (s := s.quiet) (h := h) _ (by rw [State.quiet_boost, hc]; rfl)]
    exact ⟨_, rfl, State.finish_requested none hr.settled hr.run rfl⟩
  case alone =>
    intro hnone
    have hrival : s.boost.rivalOf h = false := by
      rw [Bool.eq_false_iff, Ne, Arbiter.rivalOf_iff]
      rintro ⟨b, hne, he, hmem⟩
      obtain ⟨hhigh, hlow⟩ := hnone b hne he
      exact hmem.elim hhigh hlow
    rw [exec_sliceTimerExpiry hr, State.sliceEnds_renewed (s := s.quiet) hc hrival]
    exact congrArg _ (State.finish_unchanged hr.settled rfl (commandChanged_same rfl))
  case winner =>
    rintro b rfl
    rw [exec_switchTimerExpiry hr, State.switchEnds_granted (s := s.quiet) hc hd]
    exact ⟨_, rfl, State.finish_requested none hr.settled hr.run rfl⟩
  case idle =>
    rintro rfl
    rw [exec_switchTimerExpiry hr, State.switchEnds_idle (s := s.quiet) hc hd]
    exact congrArg _ (State.finish_unchanged hr.settled rfl (commandChanged_same rfl))

end Sys2Proof.Machine
end

section
/-! SUPPORT. What a pass works out from its snapshot (R86 to R95): the choice of the best candidate, the urgency order, the
allocation walk and the sets, each from the definition that makes it. -/

namespace Sys2Proof.Machine

open Sys2Proof.Machine.Safety

/-! ### The bays that pass a test -/

theorem mem_baysWhere {p : BayNo → Bool} {b : BayNo} : b ∈ baysWhere p ↔ p b = true := by
  simp [baysWhere, allBays]

theorem baysWhere_sorted (p : BayNo → Bool) : (baysWhere p).Pairwise (· < ·) :=
  (List.pairwise_lt_finRange 12).sublist List.filter_sublist

theorem baysWhere_nodup (p : BayNo → Bool) : (baysWhere p).Nodup := (baysWhere_sorted p).imp fun h => ne_of_lt h

/-! ### The best of a list (R86, R87) -/

/-- `b` is the bay of least figure among those of a test, and of lowest number among equals. -/
def LeastBay (f : BayNo → Nat) (fit : BayNo → Prop) (b : BayNo) : Prop :=
  fit b ∧ ∀ a, fit a → f b < f a ∨ (f b = f a ∧ b ≤ a)

theorem LeastBay.unique {f : BayNo → Nat} {fit : BayNo → Prop} {a b : BayNo} (ha : LeastBay f fit a)
    (hb : LeastBay f fit b) : a = b := by
  obtain hab | ⟨hab, hle⟩ := ha.2 b hb.1 <;> obtain hba | ⟨hba, hge⟩ := hb.2 a ha.1
  · omega
  · omega
  · omega
  · exact le_antisymm hle hge

theorem leastBy_isSome {f : BayNo → Nat} {l : List BayNo} (h : l ≠ []) : ∃ b, leastBy f l = some b := by
  cases l with
  | nil => exact absurd rfl h
  | cons x xs =>
    rw [leastBy]
    split
    · exact ⟨_, rfl⟩
    · split <;> exact ⟨_, rfl⟩

theorem leastBy_least {f : BayNo → Nat} {l : List BayNo} (hl : l.Pairwise (· < ·)) {b : BayNo}
    (hb : leastBy f l = some b) : LeastBay f (· ∈ l) b := by
  induction l generalizing b with
  | nil => simp [leastBy] at hb
  | cons x xs ih =>
    obtain ⟨hx, hxs⟩ := List.pairwise_cons.1 hl
    rw [leastBy] at hb
    split at hb
    · next hnone =>
      obtain rfl := Option.some.inj hb
      have hnil : xs = [] := by
        by_contra hne
        obtain ⟨c, hc⟩ := leastBy_isSome (f := f) hne
        rw [hc] at hnone
        simp at hnone
      refine ⟨by simp, fun a ha => .inr ?_⟩
      obtain rfl : a = x := by simpa [hnil] using ha
      exact ⟨rfl, le_rfl⟩
    · next c hc =>
      obtain ⟨hcmem, hcle⟩ := ih hxs hc
      split at hb
      · obtain rfl := Option.some.inj hb
        refine ⟨by simp, fun a ha => ?_⟩
        obtain rfl | ha := List.mem_cons.1 ha
        · exact .inr ⟨rfl, le_rfl⟩
        · exact (lt_or_eq_of_le (‹f x ≤ f c›.trans ((hcle a ha).elim le_of_lt fun h => h.1.le))).imp_right
            fun heq => ⟨heq, (hx a ha).le⟩
      · next hlt =>
        obtain rfl := Option.some.inj hb
        refine ⟨List.mem_cons_of_mem _ hcmem, fun a ha => ?_⟩
        obtain rfl | ha := List.mem_cons.1 ha
        · exact .inl (Nat.lt_of_not_le hlt)
        · exact hcle a ha

/-- The bay a pass chooses is the least of the bays that pass its test, where one does. -/
theorem leastBy_baysWhere_iff {f : BayNo → Nat} {p : BayNo → Bool} {b : BayNo} :
    leastBy f (baysWhere p) = some b ↔ LeastBay f (fun a => p a = true) b := by
  have hmem : ∀ c, leastBy f (baysWhere p) = some c → LeastBay f (fun a => p a = true) c := by
    intro c hc
    simpa only [LeastBay, mem_baysWhere] using leastBy_least (baysWhere_sorted p) hc
  refine ⟨hmem b, fun hb => ?_⟩
  obtain ⟨c, hc⟩ := leastBy_isSome (f := f) (List.ne_nil_of_mem (mem_baysWhere.2 hb.1))
  rw [hc, (hmem c hc).unique hb]

theorem leastBy_baysWhere_none {f : BayNo → Nat} {p : BayNo → Bool} :
    leastBy f (baysWhere p) = none ↔ ∀ b, p b = false := by
  constructor
  · intro hnone b
    by_contra hb
    obtain ⟨c, hc⟩ := leastBy_isSome (f := f) (List.ne_nil_of_mem (mem_baysWhere.2 (by simpa using hb)))
    rw [hc] at hnone
    simp at hnone
  · intro hno
    have hnil : baysWhere p = [] := by simp [baysWhere, hno]
    rw [hnil, leastBy]

/-! ### The stages of binding and rebinding (R86, R87) -/

theorem View.candidate_iff {r : Reservation} {v : View} {b : BayNo} :
    v.candidate r b = true ↔ CandidateIn v r b := by
  unfold View.candidate CandidateIn
  cases v.bays[b].pack <;> simp [and_assoc]

theorem View.hold_eq (r : Reservation) (b : BayNo) (v : View) : v.hold r.id b = heldFor r b v := by
  simp [View.hold, heldFor]

theorem bindStep_bindOne (cfg : Setup) (v : View) (r : Reservation) : BindStep cfg r v (v.bindOne cfg r) := by
  constructor
  · intro hno
    unfold View.bindOne
    split
    · next hpending =>
      have hnone : leastBy (v.estimate cfg r.target) (baysWhere (v.candidate r)) = none := by
        refine leastBy_baysWhere_none.2 fun b => ?_
        have := (hno.resolve_left (not_not.2 hpending)) b
        rwa [← View.candidate_iff, Bool.not_eq_true] at this
      rw [hnone]
    · rfl
  · intro b hpending hbest
    have hsome : leastBy (v.estimate cfg r.target) (baysWhere (v.candidate r)) = some b := by
      have hleast : LeastBay (v.estimate cfg r.target) (CandidateIn v r) b := hbest
      rw [leastBy_baysWhere_iff]
      simpa only [View.candidate_iff] using hleast
    simp [View.bindOne, hpending, hsome, View.hold_eq]

theorem rebindStep_rebindOne (cfg : Setup) (n : Snapshot) (v : View) (r : Reservation) :
    RebindStep cfg n r v (v.rebindOne cfg n r) := by
  have hfit : ∀ b, (v.candidate r b && decide (((v.estimate cfg r.target b : Nat) : Int) ≤ (r.windowOpen : Int) - n.now)) = true ↔
      InTime cfg n v r b := by
    intro b
    rw [Bool.and_eq_true, View.candidate_iff, decide_eq_true_iff]
    rfl
  constructor
  · intro hno
    unfold View.rebindOne
    split
    · next old hold =>
      dsimp only
      split
      · next hbehind =>
        have hnone : leastBy (v.estimate cfg r.target) (baysWhere fun b =>
            v.candidate r b && decide (((v.estimate cfg r.target b : Nat) : Int) ≤ (r.windowOpen : Int) - n.now)) = none := by
          refine leastBy_baysWhere_none.2 fun b => ?_
          have := (hno.resolve_left fun h => h old ⟨hold, hbehind⟩) b
          rwa [← hfit, Bool.not_eq_true] at this
        rw [hnone]
      · rfl
    · rfl
  · rintro old b ⟨hold, hheld, hspare⟩ hbest
    have hsome : leastBy (v.estimate cfg r.target) (baysWhere fun b =>
        v.candidate r b && decide (((v.estimate cfg r.target b : Nat) : Int) ≤ (r.windowOpen : Int) - n.now)) = some b := by
      have hleast : LeastBay (v.estimate cfg r.target) (InTime cfg n v r) b := hbest
      rw [leastBy_baysWhere_iff]
      simpa only [hfit] using hleast
    have hbehind : n.bays[old].state = .held ∧ slack r.windowOpen n.now (normalEstimate cfg r.target n.bays[old]) < 0 :=
      ⟨hheld, hspare⟩
    unfold View.rebindOne
    rw [hold]
    dsimp only
    rw [if_pos hbehind, hsome]
    simp only [View.hold_eq]
    rfl

/-- A stage that goes through the records one after another. -/
theorem through_foldl {stage : Reservation → View → View → Prop} {f : View → Reservation → View}
    (h : ∀ v r, stage r v (f v r)) (l : List Reservation) (v : View) : Through stage l v (l.foldl f v) := by
  induction l generalizing v with
  | nil => exact rfl
  | cons r rs ih => exact ⟨f v r, h v r, ih _⟩

/-- What one record of a stage leaves of the view: moves are added at the end, and no record's id changes. -/
structure View.Grows (v w : View) : Prop where
  moves : v.moves <+: w.moves
  ids : w.records.map (·.id) = v.records.map (·.id)

theorem View.Grows.refl (v : View) : v.Grows v := ⟨List.prefix_rfl, rfl⟩

theorem View.hold_ids (id : Nat) (b : BayNo) (v : View) : (v.hold id b).records.map (·.id) = v.records.map (·.id) := by
  simp only [View.hold, List.map_map]
  refine List.map_congr_left fun r _ => ?_
  simp only [Function.comp]
  split <;> rfl

theorem View.grows_bindOne (cfg : Setup) (v : View) (r : Reservation) : v.Grows (v.bindOne cfg r) := by
  unfold View.bindOne
  split
  · split
    · exact ⟨List.prefix_append _ _, View.hold_ids _ _ _⟩
    · exact .refl v
  · exact .refl v

theorem View.grows_rebindOne (cfg : Setup) (n : Snapshot) (v : View) (r : Reservation) : v.Grows (v.rebindOne cfg n r) := by
  unfold View.rebindOne
  split
  · dsimp only
    split
    · split
      · exact ⟨List.prefix_append _ _, View.hold_ids _ _ _⟩
      · exact .refl v
    · exact .refl v
  · exact .refl v

theorem View.grows_foldl {f : View → Reservation → View} (h : ∀ (v : View) (r : Reservation), v.Grows (f v r)) (l : List Reservation) (v : View) :
    v.Grows (l.foldl f v) := by
  induction l generalizing v with
  | nil => exact .refl v
  | cons r rs ih => exact ⟨(h v r).moves.trans (ih _).moves, (ih _).ids.trans (h v r).ids⟩

theorem Snapshot.grows_finalView (cfg : Setup) (n : Snapshot) : n.view.Grows (n.finalView cfg) := by
  have hbind := View.grows_foldl (View.grows_bindOne cfg) n.records n.view
  have hrebind := View.grows_foldl (View.grows_rebindOne cfg n) n.records (n.records.foldl (View.bindOne cfg) n.view)
  exact ⟨hbind.moves.trans hrebind.moves, hrebind.ids.trans hbind.ids⟩

/-- The first PENDING record of a snapshot takes its best candidate before any other move is made (R86). -/
theorem Snapshot.first_move {cfg : Setup} {n : Snapshot} {pre post : List Reservation} {r : Reservation} {b : BayNo}
    (hrecords : n.records = pre ++ r :: post) (hpre : ∀ z ∈ pre, z.state ≠ .pending) (hr : r.state = .pending)
    (hbest : LeastBay (n.view.estimate cfg r.target) (CandidateIn n.view r) b) :
    (n.finalView cfg).moves.head? = some (.bind r.id b) := by
  have hskip : pre.foldl (View.bindOne cfg) n.view = n.view := by
    clear hrecords
    induction pre with
    | nil => rfl
    | cons z zs ih =>
      obtain ⟨hz, hzs⟩ := List.forall_mem_cons.1 hpre
      rw [List.foldl_cons, (bindStep_bindOne cfg n.view z).1 (.inl hz), ih hzs]
  have hfirst := (bindStep_bindOne cfg n.view r).2 b hr hbest
  have hbind := View.grows_foldl (View.grows_bindOne cfg) post (n.view.bindOne cfg r)
  have hrebind := View.grows_foldl (View.grows_rebindOne cfg n) n.records (n.records.foldl (View.bindOne cfg) n.view)
  have hsame : n.records.foldl (View.bindOne cfg) n.view = post.foldl (View.bindOne cfg) (n.view.bindOne cfg r) := by
    rw [hrecords, List.foldl_append, hskip, List.foldl_cons]
  rw [hsame] at hrebind
  obtain ⟨l, hl⟩ := hbind.moves.trans hrebind.moves
  have hfinal : (n.finalView cfg).moves = (n.view.bindOne cfg r).moves ++ l := by
    rw [hl, Snapshot.finalView, hsame]
  rw [hfinal, hfirst]
  rfl

/-! ### The urgency order (R88) -/

theorem insertBy_perm {α : Type} (before : α → α → Bool) (x : α) (l : List α) :
    (sortBy.insertBy before x l).Perm (x :: l) := by
  induction l with
  | nil => exact .rfl
  | cons y ys ih =>
    rw [sortBy.insertBy]
    split
    · exact .rfl
    · exact (ih.cons y).trans (.swap x y ys)

theorem sortBy_perm {α : Type} (before : α → α → Bool) (l : List α) : (sortBy before l).Perm l := by
  induction l with
  | nil => exact .rfl
  | cons x xs ih => exact (insertBy_perm before x _).trans (ih.cons x)

/-- A list sorted by a test stands in the order the test gives, its earlier members first among equals. -/
theorem sortBy_pairwise {α : Type} {before : α → α → Bool} {earlier R : α → α → Prop}
    (hbefore : ∀ x y, before x y = true → earlier x y → R x y) (hafter : ∀ x y, before x y = false → R y x)
    (htrans : ∀ x y z, R x y → R y z → R x z) {l : List α} (hl : l.Pairwise earlier) : (sortBy before l).Pairwise R := by
  have hinsert : ∀ (x : α) (ys : List α), (∀ y ∈ ys, earlier x y) → ys.Pairwise R →
      (sortBy.insertBy before x ys).Pairwise R := by
    intro x ys
    induction ys with
    | nil => simp [sortBy.insertBy]
    | cons y ys ih =>
      intro hx hys
      obtain ⟨hy, htail⟩ := List.pairwise_cons.1 hys
      obtain ⟨hxy, hxs⟩ := List.forall_mem_cons.1 hx
      rw [sortBy.insertBy]
      split
      · next hb =>
        refine List.pairwise_cons.2 ⟨fun z hz => ?_, hys⟩
        have hR := hbefore x y hb hxy
        obtain rfl | hz := List.mem_cons.1 hz
        · exact hR
        · exact htrans x y z hR (hy z hz)
      · next hb =>
        refine List.pairwise_cons.2 ⟨fun z hz => ?_, ih hxs htail⟩
        obtain rfl | hz := List.mem_cons.1 ((insertBy_perm before x ys).mem_iff.1 hz)
        · exact hafter _ _ (by simpa using hb)
        · exact hy z hz
  induction l with
  | nil => simp [sortBy]
  | cons x xs ih =>
    obtain ⟨hx, hxs⟩ := List.pairwise_cons.1 hl
    exact hinsert x _ (fun y hy => hx y ((sortBy_perm before xs).mem_iff.1 hy)) (ih hxs)

theorem View.not_held_of_stock {cfg : Setup} {v : View} {b : BayNo} (h : v.isStock cfg b = true) : v.isHeld b = false := by
  obtain ⟨hstock, -⟩ : v.bays[b].state = .stock ∧ v.bays[b].chargeable cfg = true := by simpa [View.isStock] using h
  rw [View.isHeld, hstock]
  rfl

theorem View.mem_urgency {cfg : Setup} {now : Nat} {v : View} {b : BayNo} :
    b ∈ v.urgency cfg now ↔ v.isHeld b = true ∨ v.isStock cfg b = true := by
  rw [View.urgency, List.mem_append, (sortBy_perm _ _).mem_iff, (sortBy_perm _ _).mem_iff, mem_baysWhere, mem_baysWhere]

/-- The order by a figure and then by the bay's number is transitive. -/
theorem firstBy_trans {α : Type} [LinearOrder α] {f : BayNo → α} {x y z : BayNo} (hxy : f x < f y ∨ (f x = f y ∧ x < y))
    (hyz : f y < f z ∨ (f y = f z ∧ y < z)) : f x < f z ∨ (f x = f z ∧ x < z) := by
  obtain hxy | ⟨hxy, hxylt⟩ := hxy <;> obtain hyz | ⟨hyz, hyzlt⟩ := hyz
  · exact .inl (hxy.trans hyz)
  · exact .inl (hxy.trans_eq hyz)
  · exact .inl (hxy.trans_lt hyz)
  · exact .inr ⟨hxy.trans hyz, hxylt.trans hyzlt⟩

theorem View.urgency_pairwise (cfg : Setup) (now : Nat) (v : View) :
    (v.urgency cfg now).Pairwise (MoreUrgent cfg now v) := by
  have hheld : (sortBy (fun a b => decide (v.slackOf cfg now a ≤ v.slackOf cfg now b)) (baysWhere v.isHeld)).Pairwise
      fun a b => v.slackOf cfg now a < v.slackOf cfg now b ∨ (v.slackOf cfg now a = v.slackOf cfg now b ∧ a < b) := by
    refine sortBy_pairwise (fun x y hb he => ?_) (fun x y hb => ?_) (fun x y z hxy hyz => ?_) (baysWhere_sorted _)
    · exact (lt_or_eq_of_le (of_decide_eq_true hb)).imp_right fun heq => ⟨heq, he⟩
    · exact .inl (lt_of_not_ge (of_decide_eq_false hb))
    · exact firstBy_trans hxy hyz
  have hstock : (sortBy (fun a b => decide (v.bays[a].soc ≥ v.bays[b].soc)) (baysWhere (v.isStock cfg))).Pairwise
      fun a b => v.bays[b].soc < v.bays[a].soc ∨ (v.bays[a].soc = v.bays[b].soc ∧ a < b) := by
    refine sortBy_pairwise (fun x y hb he => ?_) (fun x y hb => ?_) (fun x y z hxy hyz => ?_) (baysWhere_sorted _)
    · exact (lt_or_eq_of_le (of_decide_eq_true hb)).imp_right fun heq => ⟨heq.symm, he⟩
    · exact .inl (lt_of_not_ge (of_decide_eq_false hb))
    · obtain hxz | ⟨hxz, hlt⟩ := firstBy_trans (f := fun b => -(v.bays[b].soc : Int))
        (hxy.imp (by omega) fun h => ⟨by omega, h.2⟩) (hyz.imp (by omega) fun h => ⟨by omega, h.2⟩)
      · exact .inl (by omega)
      · exact .inr ⟨by omega, hlt⟩
  have hisHeld : ∀ a, a ∈ sortBy (fun a b => decide (v.slackOf cfg now a ≤ v.slackOf cfg now b)) (baysWhere v.isHeld) →
      v.isHeld a = true := fun a ha => mem_baysWhere.1 ((sortBy_perm _ _).mem_iff.1 ha)
  have hnotHeld : ∀ a, a ∈ sortBy (fun a b => decide (v.bays[a].soc ≥ v.bays[b].soc)) (baysWhere (v.isStock cfg)) →
      v.isHeld a = false := fun a ha => View.not_held_of_stock (mem_baysWhere.1 ((sortBy_perm _ _).mem_iff.1 ha))
  refine List.pairwise_append.2 ⟨?_, ?_, fun a ha b hb => .inl ⟨hisHeld a ha, hnotHeld b hb⟩⟩
  · exact hheld.imp_of_mem fun ha hb h => .inr (.inl ⟨hisHeld _ ha, hisHeld _ hb, h⟩)
  · exact hstock.imp_of_mem fun ha hb h => .inr (.inr ⟨hnotHeld _ ha, hnotHeld _ hb, h⟩)

theorem View.urgency_nodup (cfg : Setup) (now : Nat) (v : View) : (v.urgency cfg now).Nodup := by
  refine List.nodup_append.2 ⟨(sortBy_perm _ _).nodup_iff.2 (baysWhere_nodup _),
    (sortBy_perm _ _).nodup_iff.2 (baysWhere_nodup _), fun a ha b hb hab => ?_⟩
  have hheld := mem_baysWhere.1 ((sortBy_perm _ _).mem_iff.1 ha)
  have hstock := mem_baysWhere.1 ((sortBy_perm _ _).mem_iff.1 hb)
  rw [hab, View.not_held_of_stock hstock] at hheld
  simp at hheld

/-- The HELD bays of the urgency order are the HELD bays. -/
theorem View.urgency_held_perm (cfg : Setup) (now : Nat) (v : View) :
    ((v.urgency cfg now).filter v.isHeld).Perm (baysWhere v.isHeld) := by
  rw [View.urgency, List.filter_append]
  have hheld : (sortBy (fun a b => decide (v.slackOf cfg now a ≤ v.slackOf cfg now b)) (baysWhere v.isHeld)).filter v.isHeld =
      sortBy (fun a b => decide (v.slackOf cfg now a ≤ v.slackOf cfg now b)) (baysWhere v.isHeld) :=
    List.filter_eq_self.2 fun a ha => mem_baysWhere.1 ((sortBy_perm _ _).mem_iff.1 ha)
  have hstock : (sortBy (fun a b => decide (v.bays[a].soc ≥ v.bays[b].soc)) (baysWhere (v.isStock cfg))).filter v.isHeld = [] :=
    List.filter_eq_nil_iff.2 fun a ha => by
      simp [View.not_held_of_stock (mem_baysWhere.1 ((sortBy_perm _ _).mem_iff.1 ha))]
  rw [hheld, hstock, List.append_nil]
  exact sortBy_perm _ _

/-! ### Allocation (R89, R90) -/

theorem takeFrom_le_cap (cap budget : Nat) : takeFrom cap budget ≤ cap := (noTrickle_le _).trans (Nat.min_le_left _ _)

/-- What a bay takes of a budget draws no more than the budget at the site side. -/
theorem siteDraw_takeFrom_le (cap budget : Nat) : siteDraw (takeFrom cap budget) ≤ budget := by
  have hle : takeFrom cap budget ≤ budget * 940 / 1000 :=
    (noTrickle_le _).trans ((Nat.min_le_right _ _).trans (roundTen_le _))
  unfold siteDraw ceilDiv
  omega

theorem allocate_bays (cap : BayNo → Nat) (budget : Nat) (l : List BayNo) : (allocate cap budget l).map (·.1) = l := by
  induction l generalizing budget with
  | nil => rfl
  | cons b bs ih => simp [allocate, ih]

theorem allocate_draw_le (cap : BayNo → Nat) (budget : Nat) (l : List BayNo) :
    ((allocate cap budget l).map fun x => siteDraw x.2).sum ≤ budget := by
  induction l generalizing budget with
  | nil => simp [allocate]
  | cons b bs ih =>
    have hhead := siteDraw_takeFrom_le (cap b) budget
    have htail := ih (budget - siteDraw (takeFrom (cap b) budget))
    simp only [allocate, List.map_cons, List.sum_cons]
    omega

/-- Each bay of the walk takes its part of what the bays before it have left. -/
theorem allocate_at (cap : BayNo → Nat) {budget : Nat} {l : List BayNo} {pre post : List (BayNo × Nat)} {x : BayNo × Nat}
    (h : allocate cap budget l = pre ++ x :: post) :
    x.2 = takeFrom (cap x.1) (budget - (pre.map fun y => siteDraw y.2).sum) := by
  induction l generalizing budget pre with
  | nil => simp [allocate] at h
  | cons b bs ih =>
    cases pre with
    | nil =>
      obtain ⟨rfl, -⟩ := List.cons.inj h
      rfl
    | cons y ys =>
      obtain ⟨rfl, htail⟩ := List.cons.inj h
      rw [ih htail, Nat.sub_sub]
      rfl

theorem allocate_mem (cap : BayNo → Nat) {budget : Nat} {l : List BayNo} {x : BayNo × Nat} (h : x ∈ allocate cap budget l) :
    ∃ left, x.2 = takeFrom (cap x.1) left := by
  obtain ⟨pre, post, hsplit⟩ := List.append_of_mem h
  exact ⟨_, allocate_at cap hsplit⟩

theorem takeFrom_range {cap : Nat} (hcap : cap % 10 = 0) (budget : Nat) :
    takeFrom cap budget % 10 = 0 ∧ (takeFrom cap budget = 0 ∨ 100 ≤ takeFrom cap budget) := by
  constructor
  · refine noTrickle_mod ?_
    rcases Nat.le_total cap (roundTen (budget * 940 / 1000)) with h | h
    · rwa [Nat.min_eq_left h]
    · rw [Nat.min_eq_right h]
      exact roundTen_mod _
  · unfold takeFrom noTrickle
    split
    · exact .inl rfl
    · exact .inr (by omega)

/-- A power cap is a multiple of 10 W (R32). -/
theorem capAt_mod (cfg : Setup) (limit target : Nat) (b : Bay) : capAt cfg limit target b % 10 = 0 := by
  unfold capAt
  split
  · rfl
  · split
    · rfl
    · split
      · rfl
      · exact roundTen_mod _

/-! ### Boost sets, late flags and own figures (R91 to R95) -/

theorem View.mem_high {cfg : Setup} {now : Nat} {v : View} {b : BayNo} :
    b ∈ v.high cfg now ↔
      v.isHeld b = true ∧ (∃ p, v.bays[b].pack = some p ∧ tempFactor p.temperature ≠ 0) ∧
      ∃ r, v.recordOf b = some r ∧ (r.windowOpen : Int) - now - normalEstimate cfg r.target v.bays[b] < 0 := by
  have hslack : v.normalSlackOf cfg now b < 0 ↔
      ∃ r, v.recordOf b = some r ∧ (r.windowOpen : Int) - now - normalEstimate cfg r.target v.bays[b] < 0 := by
    unfold View.normalSlackOf View.slackWith
    cases v.recordOf b <;> simp [slack]
  rw [View.high, mem_baysWhere, Bool.and_eq_true, Bool.and_eq_true, decide_eq_true_iff, hslack, and_assoc,
    and_comm (a := ∃ r, _)]
  refine and_congr_right fun _ => and_congr_left fun _ => ?_
  cases v.bays[b].pack <;> simp [Nat.pos_iff_ne_zero]

theorem packWaiting_iff {cfg : Setup} {v : View} {c : PackClass} :
    (allBays.any fun d => v.bays[d].waiting cfg c) = true ↔ PackWaiting cfg v c := by
  rw [List.any_eq_true]
  refine exists_congr fun d => ?_
  have hmem : d ∈ allBays := by simp [allBays]
  unfold Bay.waiting
  cases v.bays[d].pack <;> simp [hmem, and_assoc]

theorem View.mem_low {cfg : Setup} {v : View} {b : BayNo} :
    b ∈ v.low cfg ↔
      v.isStock cfg b = true ∧ ∃ p, v.bays[b].pack = some p ∧ ¬ PackWaiting cfg v p.cls := by
  rw [View.low, mem_baysWhere, Bool.and_eq_true]
  refine and_congr_right fun _ => ?_
  cases v.bays[b].pack with
  | none => simp
  | some p => simp [← packWaiting_iff]

theorem View.high_low_disjoint {cfg : Setup} {now : Nat} {v : View} : ∀ b ∈ v.high cfg now, b ∉ v.low cfg := by
  intro b hhigh hlow
  have hheld := (View.mem_high.1 hhigh).1
  rw [View.not_held_of_stock (View.mem_low.1 hlow).1] at hheld
  simp at hheld

theorem View.lateFlag_some {cfg : Setup} {now : Nat} {v : View} {r : Reservation} {f : LateFlag} :
    v.lateFlag cfg now r = some f ↔
      ∃ b, r.state = .bound b ∧ v.isHeld b = true ∧
        f = ⟨r.id, b, decide ((r.windowOpen : Int) - now - normalEstimate cfg r.target v.bays[b] < 0)⟩ := by
  unfold View.lateFlag
  cases r.state with
  | bound b =>
    cases hheld : v.isHeld b <;> simp [hheld, slack, eq_comm (a := f)]
  | pending => simp
  | ready b => simp
  | handover b p => simp

/-- A list of what some members of another give, each figure with its member's id, has the ids in their order. -/
theorem filterMap_ids_sublist {f : Reservation → Option LateFlag} (hf : ∀ r x, f r = some x → x.id = r.id)
    (l : List Reservation) : ((l.filterMap f).map (·.id)).Sublist (l.map (·.id)) := by
  induction l with
  | nil => simp
  | cons r rs ih =>
    rw [List.filterMap_cons]
    split
    · exact ih.cons _
    · next x hx =>
      rw [List.map_cons, List.map_cons, hf r x hx]
      exact ih.cons_cons _

theorem Snapshot.late_ids_sublist (cfg : Setup) (n : Snapshot) :
    ((n.plan cfg).lates.map (·.id)).Sublist (n.records.map (·.id)) := by
  have hids : (n.finalView cfg).records.map (·.id) = n.records.map (·.id) := (n.grows_finalView cfg).ids
  rw [← hids]
  refine filterMap_ids_sublist (fun r f hf => ?_) _
  obtain ⟨b, -, -, rfl⟩ := View.lateFlag_some.1 hf
  rfl

/-- The priority demand is the draw of the HELD bays of the urgency order. -/
theorem Snapshot.priority_eq (cfg : Setup) (n : Snapshot) :
    (n.plan cfg).priority =
      (((n.plan cfg).order.filter (n.finalView cfg).isHeld).map fun b => siteDraw ((n.finalView cfg).cap cfg b)).sum :=
  ((View.urgency_held_perm cfg n.now (n.finalView cfg)).map _).sum_eq.symm

theorem Snapshot.priority_le_demand (cfg : Setup) (n : Snapshot) : (n.plan cfg).priority ≤ (n.plan cfg).demand := by
  rw [Snapshot.priority_eq]
  exact (List.filter_sublist.map _).sum_le_sum fun _ _ => Nat.zero_le _

/-- The allocations of a pass draw no more than its snapshot's share (R90). -/
theorem Snapshot.allocation_draw_le (cfg : Setup) (n : Snapshot) :
    ((n.plan cfg).allocation.map fun x => siteDraw x.2).sum ≤ n.share :=
  (allocate_draw_le _ _ _).trans (roundTen_le _)

/-- Settles O17, stage by stage: the stages of binding by `bindStep_bindOne` and `rebindStep_rebindOne`, the order by
`View.urgency_pairwise`, and the allocations by induction on the walk. -/
theorem planKeepsUrgencyAndShare : Obligations.PlanKeepsUrgencyAndShare := by
  intro cfg n
  dsimp only
  refine ⟨fun pre post r b hrecords hpre hr hfresh hbest => ?_, ?_, fun b => View.mem_urgency,
    View.urgency_pairwise cfg n.now _, allocate_bays _ _ _, fun x hx => ?_, fun pre post x hx => ?_,
    n.allocation_draw_le cfg, fun b => View.mem_high, fun b => View.mem_low, View.high_low_disjoint, fun f hf => ?_,
    fun r hr b hbound hheld => ?_, n.late_ids_sublist cfg, rfl, n.priority_eq cfg, n.priority_le_demand cfg⟩
  · have hfit : ∀ a, CandidateIn n.view r a ↔ FreshCandidate n r a := by
      simp [CandidateIn, FreshCandidate, Snapshot.view]
    exact Snapshot.first_move hrecords hpre hr ⟨(hfit b).2 hfresh, fun a ha => hbest a ((hfit a).1 ha)⟩
  · exact ⟨n.records.foldl (View.bindOne cfg) n.view, through_foldl (bindStep_bindOne cfg) _ _,
      through_foldl (rebindStep_rebindOne cfg n) _ _, rfl⟩
  · obtain ⟨left, hleft⟩ := allocate_mem _ hx
    rw [hleft]
    exact ⟨(takeFrom_range (capAt_mod _ _ _ _) left).1, (takeFrom_range (capAt_mod _ _ _ _) left).2, takeFrom_le_cap _ _⟩
  · exact allocate_at _ hx
  · obtain ⟨r, hr, hflag⟩ := List.mem_filterMap.1 hf
    obtain ⟨b, hbound, hheld, rfl⟩ := View.lateFlag_some.1 hflag
    exact ⟨r, hr, rfl, hbound, hheld, rfl⟩
  · exact ⟨_, List.mem_filterMap.2 ⟨r, hr, View.lateFlag_some.2 ⟨b, hbound, hheld, rfl⟩⟩, rfl, rfl⟩

end Sys2Proof.Machine
end

section
/-! SUPPORT. What every command is made of: the few updates that the commands of the part come down to, and the theorem that a
property kept by each of these updates is kept by every command. The invariants of the whole part are proved from it. -/

namespace Sys2Proof.Machine

open Sys2Proof.Machine.Safety

/-! ### The updates -/

/-- A bay record that differs from another in what neither its orders' power nor the arbiter reads: the same state but for the
cause of OFF, the same class mask and boost field, and a setpoint not raised. -/
structure Bay.SameDuty (x y : Bay) : Prop where
  code : x.state.code = y.state.code
  mask : x.mask = y.mask
  boost : x.boost = y.boost
  setpoint : x.setpoint ≤ y.setpoint

/-- Bay states of the same code are HELD or STOCK together. -/
theorem BayState.eligible_of_code {x y : BayState} (h : x.code = y.code) : x.eligible = y.eligible := by
  cases x <;> cases y <;> simp_all [BayState.code, BayState.eligible]

/-- A change of the record with an id that leaves what the record was made with (R41), late only in BOUND (R49), and its state
too unless a pass has been requested (R83). -/
structure RecordEdit (id : Nat) (f : Reservation → Reservation) (s : State) : Prop where
  made : ∀ r, (f r).id = r.id ∧ (f r).token = r.token ∧ (f r).cls = r.cls ∧ (f r).target = r.target ∧
    (f r).windowOpen = r.windowOpen ∧ (f r).windowClose = r.windowClose
  late : ∀ r, s.book.byId id = some r → (r.late = true → ∃ b, r.state = .bound b) →
    (f r).late = true → ∃ b, (f r).state = .bound b
  state : (∀ r, (f r).state = r.state) ∨ s.plan.requested = true

/-- A record out of the book and the Ask Handler told, its token on the expired-token list or not (R53, R57, R80). -/
def State.dropRecord (r : Reservation) (expired : List Nat) (s : State) : State :=
  ({ s with book := { s.book.remove r with expired := expired } }.tellRemoved r.id).request

/-- The Feed Share Unit's figures changed and the share recomputed (R132). -/
def State.reshare (f : Feed) (s : State) : State := { s with feed := f }.recomputeShare

/-- The figures of the Feed Share Unit but for the share: what `FeedSound` says of them. -/
def FeedFigures (s : State) (f : Feed) : Prop :=
  (s.part = .run → f.limit = limitInForce s.cfg f.meter f.siteLimit) ∧
  (s.part = .run → f.detached = decide (s.line.state = .detached)) ∧
  f.ownPriority ≤ f.ownDemand ∧
  (∀ p ∈ f.peers, p.priority ≤ p.demand ∧ p.station ≠ s.cfg.station) ∧
  (500 ≤ f.trim ∧ f.trim ≤ 1000 ∧ f.trim % 10 = 0) ∧
  f.peers.length ≤ 7 ∧ (f.peers.map (·.station)).Nodup

/-- New figures of the Feed Share Unit, the share not yet recomputed, that keep to `FeedFigures`. -/
structure FeedEdit (s : State) (f : Feed) : Prop where
  share : f.share = s.feed.share
  figures : FeedFigures s s.feed → FeedFigures s f

/-- A property that the updates which move no bay but by the removal of a record keep. -/
structure KeptCalm (P : State → Prop) : Prop where
  out : ∀ (o : Outputs) (s : State), o.orders = s.out.orders → o.wire = s.out.wire → P s → P { s with out := o }
  raise : ∀ (n : Notice) (s : State), P s → P (s.raise n)
  post : ∀ (f : OutFrame) (s : State), P s → P (s.post f)
  request : ∀ s : State, P s → P s.request
  useFree : ∀ (n : Nat) (s : State), P s → P (s.useFree n)
  popAsk : ∀ s : State, P s → P (popAsk s)
  popPeer : ∀ s : State, P s → P (popPeer s)
  removeRecord : ∀ (r : Reservation) (s : State), r ∈ s.book.records → r.atDoor = false → P s → P (s.removeRecord r)
  expire : ∀ (r : Reservation) (s : State), r ∈ s.book.records → r.atDoor = false → P s → P (s.expire r)
  unknown : ∀ s : State, P s → P { s with book.unknownReleases := addTo255 s.book.unknownReleases 1 }
  endGrant : ∀ (c : Converter) (s : State), c.holder = none → P s → P (s.endGrant c)
  fault : ∀ s : State, s.boost.converter.holder = none → P s → P { s with boost.converter := .faulted }
  renew : ∀ (h : BayNo) (n m : Nat) (s : State), s.boost.converter = .granted h n → P s →
    P { s with boost.converter := .granted h m }
  decide : ∀ s : State, (s.boost.converter = .idle ∨ ∃ n, s.boost.converter = .switching n) → P s → P s.decideGrant
  reshare : ∀ (f : Feed) (s : State), FeedEdit s f → P s → P (s.reshare f)
  claimTimer : ∀ (t : Option Nat) (s : State), P s → P { s with feed.claimTimer := t }
  templates : ∀ (ts : TemplateStore) (s : State), (TemplatesSound s → TemplatesSound { s with ts := ts }) → P s →
    P { s with ts := ts }
  relined : ∀ (l : LineController) (s : State), l.state = s.line.state → (LineSound s → LineSound { s with line := l }) →
    P s → P { s with line := l }
  recount : ∀ (send recv : Nat) (st : LineState) (gaps : Option Nat) (s : State),
    (LineSound s → send ≤ 255 ∧ recv ≤ 127 ∧ (st ≠ .detached → st = stateOfCounts send recv) ∧
      (st = .detached → send = 255 ∧ s.line.sending = none) ∧ gaps = (if st = .detached then some 0 else none)) → P s →
    P ((s.setLine send recv st gaps).setCaution)
  setSlot : ∀ (i : SlotNo) (x : Option Slot) (s : State), (SlotsSound s → SlotsSound (s.setSlot i x)) → P s →
    P (s.setSlot i x)
  dropped : ∀ s : State, P s → P { s with asks.dropped := addTo255 s.asks.dropped 1 }

/-- A property that every update of the part's blocks keeps, whatever bay or record it moves. -/
structure Kept (P : State → Prop) : Prop extends KeptCalm P where
  enterBay : ∀ (b : BayNo) (n : BayState) (s : State), P s → P (s.enterBay b n)
  putBay : ∀ (b : BayNo) (x : Bay) (s : State), x.SameDuty (s.bay b) → P s → P (s.setBay b x)
  edit : ∀ (id : Nat) (f : Reservation → Reservation) (s : State), RecordEdit id f s →
    (∀ r, (f r).atDoor = r.atDoor ∨ (f r).atDoor = true) → P s → P (s.updateRecord id f)
  unbind : ∀ (id : Nat) (b : BayNo) (s : State), P s → P (s.unbind id b)
  doorClear : ∀ (id : Nat) (s : State), P s → P (s.doorClear id)
  removeAtDoor : ∀ (r : Reservation) (s : State), r ∈ s.book.records → P s → P (s.removeRecord r)

/-! ### Removal as updates (R53, R57) -/

/-- The release of a bay does not read the expired-token list. -/
theorem State.releaseOf_expired (r : Reservation) (e : List Nat) (s : State) :
    State.releaseOf r { s with book.expired := e } = { s.releaseOf r with book := { s.book with expired := e } } := by
  have hbay : ∀ b : BayNo,
      State.releaseBay b { s with book.expired := e } = { s.releaseBay b with book := { s.book with expired := e } } := by
    intro b
    rw [State.releaseBay, State.releaseBay, show State.bay { s with book.expired := e } b = s.bay b from rfl]
    split
    · rw [State.enterBay_eq, State.enterBay_eq]; rfl
    · rw [State.enterBay_eq, State.enterBay_eq]; rfl
    · rfl
  unfold State.releaseOf
  split
  · exact hbay _
  · exact hbay _
  · rfl

@[simp] theorem State.releaseOf_book (r : Reservation) (s : State) : (s.releaseOf r).book = s.book := by
  unfold State.releaseOf; split <;> simp

theorem State.removeRecord_eq (r : Reservation) (s : State) :
    s.removeRecord r = (s.releaseOf r).dropRecord r s.book.expired := by
  rw [State.removeRecord, State.dropRecord, State.releaseOf_book]; rfl

theorem State.expire_eq (r : Reservation) (s : State) :
    s.expire r =
      ((s.releaseOf r).dropRecord r (pushExpired r.token s.book.expired)).raise (.resExpired r.id r.token r.cls) := by
  rw [State.expire, State.removeRecord, State.dropRecord, State.releaseOf_expired, State.releaseOf_book]; rfl

/-! ### What a notice leaves of the line (R168, R179) -/

/-- A notice touches the Outbound queue and its two lost counts alone. -/
theorem State.raise_line_eq (s : State) (n : Notice) :
    (s.raise n).line = { s.line with
      outQueue := (s.raise n).line.outQueue, noticesLost := (s.raise n).line.noticesLost
      sendsDropped := (s.raise n).line.sendsDropped } := by
  unfold State.raise
  dsimp only
  split
  · rfl
  · unfold State.post
    split
    · rfl
    · exact LineController.post_eq s.line (.notice n)

@[simp] theorem State.raise_line_state (s : State) (n : Notice) : (s.raise n).line.state = s.line.state := by
  rw [State.raise_line_eq]

/-! ### What the figures of the Feed Share Unit are after a change (R123 to R127) -/

/-- A notice neither reads nor writes the Feed Share Unit's figures (R179). -/
theorem State.raise_feed_with (s : State) (n : Notice) (f : Feed) :
    State.raise n { s with feed := f } = { s.raise n with feed := f } := by
  by_cases hsilent : s.cfg.disableMask.getLsbD (groupOfCode n.code) = true
  · simp [State.raise, State.silenced, hsilent]
  · cases hp : s.part <;> simp [State.raise, State.silenced, State.post, hsilent, hp]

theorem FeedFigures.raise_iff {n : Notice} {s : State} {f : Feed} : FeedFigures (s.raise n) f ↔ FeedFigures s f := by
  simp [FeedFigures, State.raise_line_state]

/-- One step of the trim stays within 500..1000 in steps of 10 (R123). -/
theorem trimStep_range {m l trim : Nat} (h : 500 ≤ trim ∧ trim ≤ 1000 ∧ trim % 10 = 0) :
    500 ≤ trimStep m l trim ∧ trimStep m l trim ≤ 1000 ∧ trimStep m l trim % 10 = 0 := by
  unfold trimStep
  split
  · omega
  split <;> omega

theorem peers_append {l : List Peer} {e : Peer} {Q : Peer → Prop} (hl : ∀ p ∈ l, Q p) (he : Q e) :
    ∀ p ∈ l ++ [e], Q p := by
  intro p hp
  obtain hp | hp := List.mem_append.1 hp
  · exact hl p hp
  · obtain rfl := List.mem_singleton.1 hp
    exact he

theorem stations_append {l : List Peer} {e : Peer} (hl : (l.map (·.station)).Nodup)
    (he : ∀ p ∈ l, p.station ≠ e.station) : ((l ++ [e]).map (·.station)).Nodup := by
  rw [List.map_append, List.nodup_append]
  refine ⟨hl, by simp, fun a ha b hb => ?_⟩
  obtain ⟨p, hp, rfl⟩ := List.mem_map.1 ha
  obtain rfl : b = e.station := by simpa using hb
  exact he p hp

/-- The entry that gives up its place is one of the table (R125). -/
theorem displaced_mem {l : List Peer} {q : Peer} (h : displaced l = some q) : q ∈ l := by
  induction l generalizing q with
  | nil => simp [displaced] at h
  | cons p ps ih =>
    unfold displaced at h
    split at h
    · split at h
      · simp_all
      · simp at h
    · next r hr =>
      split at h
      · simp_all
      · obtain rfl : r = q := by simpa using h
        exact List.mem_cons_of_mem _ (ih hr)

theorem dropPeer_length {l : List Peer} {q : Peer} (h : q ∈ l) : (dropPeer q.station l).length < l.length := by
  unfold dropPeer
  refine List.length_filter_lt_length_iff_exists.2 ⟨q, h, by simp⟩

theorem refreshPeer_stations (st : Station) (d p : Nat) (l : List Peer) :
    (refreshPeer st d p l).map (·.station) = l.map (·.station) := by
  rw [refreshPeer, List.map_map]
  refine List.map_congr_left fun x _ => ?_
  simp only [Function.comp]
  split
  · next hx => exact hx.symm
  · rfl

theorem markStale_stations (st : Station) (l : List Peer) : (markStale st l).map (·.station) = l.map (·.station) := by
  rw [markStale, List.map_map]
  refine List.map_congr_left fun x _ => ?_
  simp only [Function.comp]
  split <;> rfl

/-- The removal of the original pack shows in nothing of a bay's duty (R140). -/
theorem Bay.noteRemoval_sameDuty (r : Report) (x : Bay) : (x.noteRemoval r).SameDuty x := by
  unfold Bay.noteRemoval
  split
  · split <;> exact ⟨rfl, rfl, rfl, le_rfl⟩
  · exact ⟨rfl, rfl, rfl, le_rfl⟩

/-! ### The Held Answer Table after a change of one slot (R61) -/

/-- What `SlotsSound` asks of one occupied slot. -/
def SlotSound (k : Book) (x : Slot) : Prop :=
  (∀ id off c d, x.state = .won id off c d → (k.byId id).isSome = true) ∧
  (x.own = none → x.reason.isSome = true) ∧ (∀ d, x.state = .none d → x.reason.isSome = true)

/-- A slot given a sound content for an ask that no other slot holds. -/
theorem slotsSound_setSlot {s : State} {i : SlotNo} {x : Option Slot} (hs : SlotsSound s)
    (hx : ∀ y, x = some y → SlotSound s.book y ∧
      ∀ (j : SlotNo) (z : Slot), j ≠ i → s.asks.slots[j] = some z → ¬ (z.terminal = y.terminal ∧ z.ask = y.ask)) :
    SlotsSound (s.setSlot i x) := by
  obtain ⟨hunique, hslots, hdropped⟩ := hs
  have hget : ∀ j : SlotNo, (s.setSlot i x).asks.slots[j] = if i = j then x else s.asks.slots[j] := by
    intro j; simp [State.setSlot, Vector.getElem_set, Fin.ext_iff]
  refine ⟨fun j k y z hj hk ht ha => ?_, fun j y hj => ?_, hdropped⟩
  · rw [hget] at hj hk
    split at hj
    · split at hk
      · next hij hik => exact hij.symm.trans hik
      · next hij hik => exact absurd ⟨ht.symm, ha.symm⟩ ((hx y hj).2 k z (Ne.symm hik) hk)
    · split at hk
      · next hij hik => exact absurd ⟨ht, ha⟩ ((hx z hk).2 j y (Ne.symm hij) hj)
      · exact hunique j k y z hj hk ht ha
  · rw [hget] at hj
    split at hj
    · exact (hx y hj).1
    · exact hslots j y hj

/-- A slot that goes on with its own ask. -/
theorem slotsSound_setSlot_same_ask {s : State} {i : SlotNo} {x y : Slot} (hs : SlotsSound s)
    (hi : s.asks.slots[i] = some x) (ht : y.terminal = x.terminal) (ha : y.ask = x.ask) (hy : SlotSound s.book y) :
    SlotsSound (s.setSlot i (some y)) := by
  refine slotsSound_setSlot hs fun z hz => ?_
  obtain rfl := Option.some.inj hz
  refine ⟨hy, fun j w hj hw ⟨htw, haw⟩ => hj (hs.1 j i w x hw hi (htw.trans ht) (haw.trans ha))⟩

theorem slotsSound_setSlot_none {s : State} {i : SlotNo} (hs : SlotsSound s) : SlotsSound (s.setSlot i none) :=
  slotsSound_setSlot hs fun _ h => by simp at h

theorem slotSound_of_slots {s : State} {i : SlotNo} {x : Slot} (hs : SlotsSound s) (hi : s.asks.slots[i] = some x) :
    SlotSound s.book x := hs.2.1 i x hi

/-- An offer heard leaves a slot its ask, its state and its own offer (R69). -/
theorem Slot.hear_eq (o : Heard) (x : Slot) : x.hear o = { x with heard := (x.hear o).heard } := by
  unfold Slot.hear
  split
  · rfl
  · split <;> rfl

/-! ### Operations that move no bay but by the removal of a record -/

section
variable {P : State → Prop} (h : KeptCalm P) {s : State}
include h

theorem KeptCalm.expiryCheck (id : Nat) (hs : P s) : P (s.expiryCheck id) := by
  obtain heq | ⟨r, hr, -, hdoor, heq⟩ := State.expiryCheck_cases id s <;> rw [heq]
  · exact hs
  · exact h.expire _ _ (Book.byId_some hr).1 hdoor hs

theorem KeptCalm.discardRecord (id : Nat) (hs : P s) : P (s.discardRecord id).2 := by
  obtain heq | ⟨r, hr, hdoor, heq⟩ := State.discardRecord_cases id s <;> rw [heq]
  · exact hs
  · exact h.removeRecord _ _ (Book.byId_some hr).1 hdoor hs

theorem KeptCalm.releaseRecord (src : Station) (id : Nat) (hs : P s) : P (s.releaseRecord src id) := by
  unfold State.releaseRecord
  split
  · next r hr =>
    split
    · exact h.post _ _ hs
    · exact h.raise _ _ (h.removeRecord _ _ (Book.byId_some hr).1 (by simpa using ‹¬ r.atDoor = true›) hs)
  · exact h.raise _ _ (h.unknown _ hs)

theorem KeptCalm.raiseIf {c : Prop} [Decidable c] (n : Notice) (hs : P s) : P (if c then s.raise n else s) := by
  split
  · exact h.raise _ _ hs
  · exact hs

theorem KeptCalm.takeBoostFault (b : BayNo) (hs : P s) : P (s.takeBoostFault b) := by
  unfold State.takeBoostFault
  split
  · exact hs
  · dsimp only
    split
    · exact h.raise _ _ (h.endGrant _ _ rfl hs)
    · exact h.raise _ _ (h.fault _ ‹_› hs)

/-! ### The arbiter's timers -/

theorem KeptCalm.sliceEnds (hs : P s) : P s.sliceEnds := by
  unfold State.sliceEnds
  split
  · next hc =>
    split
    · exact h.endGrant _ _ rfl hs
    · exact h.renew _ _ _ _ hc hs
  · exact hs

theorem KeptCalm.switchEnds (hs : P s) : P s.switchEnds := by
  unfold State.switchEnds
  split
  · next hc => exact h.decide _ (.inr ⟨_, hc⟩) hs
  · exact hs

theorem KeptCalm.periodEnds (hs : P s) : P s.periodEnds := by
  unfold State.periodEnds
  split
  · exact h.request _ hs
  · exact hs

/-! ### The site feed -/

/-- New figures with a notice, the share then recomputed (R132). -/
theorem KeptCalm.reshareAfter {f : Feed} {n : Notice} {u : State} (hu : u = { s.raise n with feed := f }) (hf : FeedEdit s f)
    (hs : P s) : P u.recomputeShare := by
  subst hu
  refine h.reshare f _ ⟨by simpa using hf.share, fun hr => ?_⟩ (h.raise _ _ hs)
  rw [FeedFigures.raise_iff] at hr ⊢
  exact hf.figures (by simpa using hr)

theorem KeptCalm.takeSiteFeed (limit draw : Nat) (hs : P s) : P (s.takeSiteFeed limit draw) := by
  have hedit : FeedEdit s { s.feed with
      siteLimit := some (min 250000 limit), measuredDraw := some (min 500000 draw), meterAge := 0, meter := .present
      trim := trimStep (min 500000 draw) (min 250000 limit) s.feed.trim
      limit := limitInForce s.cfg .present (some (min 250000 limit)) } := by
    refine ⟨rfl, fun ⟨_, hdet, hown, hpeers, htrim, hlen, hnd⟩ => ⟨fun _ => rfl, hdet, hown, hpeers, ?_, hlen, hnd⟩⟩
    exact trimStep_range htrim
  unfold State.takeSiteFeed
  dsimp only
  split
  · exact h.reshareAfter (State.raise_feed_with _ _ _) hedit hs
  · exact h.reshare _ _ hedit hs

theorem KeptCalm.loseMeter (hs : P s) : P s.loseMeter := by
  unfold State.loseMeter
  split
  · refine h.reshareAfter (State.raise_feed_with _ _ _) ⟨rfl, fun ⟨_, hdet, hrest⟩ => ⟨fun _ => rfl, hdet, hrest⟩⟩ hs
  · exact hs

theorem KeptCalm.addPeer {st : Station} (d p : Nat) (hst : st ≠ s.cfg.station)
    (hnew : ¬ s.feed.peers.any (·.station = st) = true) (hs : P s) : P (s.addPeer st d p) := by
  have hnot : ∀ q ∈ s.feed.peers, q.station ≠ st := by simpa using hnew
  have hentry : (newPeer st d p).priority ≤ (newPeer st d p).demand := Nat.min_le_right _ _
  unfold State.addPeer
  dsimp only
  split
  · next hroom =>
    refine h.reshare _ _ ⟨rfl, fun ⟨hlim, hdet, hown, hpeers, htrim, hlen, hnd⟩ =>
      ⟨hlim, hdet, hown, ?_, htrim, ?_, ?_⟩⟩ hs
    · exact peers_append hpeers ⟨hentry, hst⟩
    · simp only [peerTableSize] at hroom
      simp only [List.length_append, List.length_singleton]; omega
    · exact stations_append hnd hnot
  · split
    · next q hq =>
      have hmem := displaced_mem hq
      refine h.reshareAfter (f := { s.feed with peers := dropPeer q.station s.feed.peers ++ [newPeer st d p] })
        (by rw [State.raise_feed_with]) ⟨rfl, fun ⟨hlim, hdet, hown, hpeers, htrim, hlen, hnd⟩ => ?_⟩ hs
      refine ⟨hlim, hdet, hown, ?_, htrim, ?_, ?_⟩
      · exact peers_append (fun p hp => hpeers p (List.mem_filter.1 hp).1) ⟨hentry, hst⟩
      · have := dropPeer_length hmem
        simp only [List.length_append, List.length_singleton]; omega
      · exact stations_append (hnd.sublist (List.filter_sublist.map _)) fun p hp => hnot p (List.mem_filter.1 hp).1
    · exact h.raise _ _ hs

theorem KeptCalm.takeDrawClaim (st : Station) (d p : Nat) (hs : P s) : P (s.takeDrawClaim st d p) := by
  unfold State.takeDrawClaim
  split
  · exact h.raise _ _ hs
  · next hst =>
    split
    · refine h.reshare _ _ ⟨rfl, fun ⟨hlim, hdet, hown, hpeers, htrim, hlen, hnd⟩ =>
        ⟨hlim, hdet, hown, ?_, htrim, by simpa [refreshPeer] using hlen, ?_⟩⟩ hs
      · intro q hq
        obtain ⟨x, hx, rfl⟩ := List.mem_map.1 hq
        split
        · exact ⟨Nat.min_le_right _ _, hst⟩
        · exact hpeers x hx
      · rw [refreshPeer_stations]; exact hnd
    · exact h.addPeer d p hst ‹_› hs

theorem KeptCalm.stalePeer (st : Station) (hs : P s) : P (s.stalePeer st) := by
  unfold State.stalePeer
  split
  · refine h.reshare _ _ ⟨rfl, fun ⟨hlim, hdet, hown, hpeers, htrim, hlen, hnd⟩ =>
      ⟨hlim, hdet, hown, ?_, htrim, by simpa [markStale] using hlen, by rw [markStale_stations]; exact hnd⟩⟩ hs
    intro q hq
    obtain ⟨x, hx, rfl⟩ := List.mem_map.1 hq
    have := hpeers x hx
    split <;> exact this
  · exact hs

theorem KeptCalm.losePeer (st : Station) (hs : P s) : P (s.losePeer st) := by
  unfold State.losePeer
  split
  · refine h.reshareAfter (State.raise_feed_with _ _ _) ⟨rfl, fun ⟨hlim, hdet, hown, hpeers, htrim, hlen, hnd⟩ =>
      ⟨hlim, hdet, hown, fun p hp => hpeers p (List.mem_filter.1 hp).1, htrim, ?_, ?_⟩⟩ hs
    · exact (List.length_filter_le _ _).trans hlen
    · exact hnd.sublist (List.filter_sublist.map _)
  · exact hs

theorem KeptCalm.claimTimerEnds (hs : P s) : P s.claimTimerEnds := by
  unfold State.claimTimerEnds
  split
  · exact h.claimTimer _ _ (h.post _ _ hs)
  · exact hs

/-! ### The line -/

theorem KeptCalm.setCounts (send recv : Nat) (hcounts : LineSound s → send ≤ 255 ∧ recv ≤ 127) (hs : P s) :
    P (s.setCounts send recv) := by
  have hst : stateOfCounts send recv ≠ .detached := by unfold stateOfCounts; split <;> simp
  exact h.recount _ _ _ _ _ (fun hl => ⟨(hcounts hl).1, (hcounts hl).2, fun _ => rfl, fun hd => absurd hd hst, by simp [hst]⟩) hs

theorem KeptCalm.logError (e : LineError) (hs : P s) : P (s.logError e) := by
  obtain ⟨hlog, heq⟩ | ⟨hlog, hrep, heq⟩ | ⟨hlog, hrep, heq⟩ := State.logError_cases e s <;> rw [heq]
  · refine h.relined _ _ rfl (fun ⟨⟨hsend, hrecv, _⟩, hst, hdet, hgaps, hgap, hcaution, hover, hrest⟩ => ?_) hs
    refine ⟨⟨hsend, hrecv, by dsimp only; omega⟩, hst, hdet, hgaps, hgap, hcaution, fun ho => ?_, hrest⟩
    have := hover ho
    omega
  · exact h.relined { s.line with lastError := e } _ rfl id hs
  · refine h.raise _ _ (h.relined _ _ rfl
      (fun ⟨⟨hsend, hrecv, herr⟩, hst, hdet, hgaps, hgap, hcaution, _, hrest⟩ => ?_) hs)
    exact ⟨⟨hsend, hrecv, herr⟩, hst, hdet, hgaps, hgap, hcaution, fun _ => le_antisymm herr hlog, hrest⟩

/-- A received frame stored in its queue, or counted as lost (R166, R167). -/
theorem KeptCalm.sortGood (f : RawFrame) (hs : P s) : P (s.sortGood f) := by
  have hfree := h.useFree (missingBytes f) _ hs
  unfold State.sortGood
  dsimp only
  split
  · next a _ =>
    obtain ⟨hlen, heq⟩ | ⟨-, heq⟩ := LineController.storeAsk_cases a (s.useFree (missingBytes f)).line
    · rw [heq]
      refine h.relined _ _ rfl (fun ⟨hcounts, hst, hdet, hgaps, hgap, hcaution, hover, ⟨_, hpeer, hout⟩, hrest⟩ => ?_) hfree
      refine ⟨hcounts, hst, hdet, hgaps, hgap, hcaution, hover, ⟨?_, hpeer, hout⟩, hrest⟩
      simp only [List.length_append, List.length_singleton]; omega
    · rw [heq]
      refine h.relined _ _ rfl (fun ⟨hcounts, hst, hdet, hgaps, hgap, hcaution, hover, hq, hclaim, _, hlost⟩ => ?_) hfree
      exact ⟨hcounts, hst, hdet, hgaps, hgap, hcaution, hover, hq, hclaim, Nat.min_le_left _ _, hlost⟩
  · next p _ =>
    obtain ⟨hlen, heq⟩ | ⟨hlen, heq⟩ := LineController.storePeer_cases p (s.useFree (missingBytes f)).line
    · rw [heq]
      refine h.relined _ _ rfl (fun ⟨hcounts, hst, hdet, hgaps, hgap, hcaution, hover, ⟨hask, _, hout⟩, hrest⟩ => ?_) hfree
      refine ⟨hcounts, hst, hdet, hgaps, hgap, hcaution, hover, ⟨hask, ?_, hout⟩, hrest⟩
      simp only [List.length_append, List.length_singleton]; omega
    · rw [heq]
      refine h.relined _ _ rfl
        (fun ⟨hcounts, hst, hdet, hgaps, hgap, hcaution, hover, ⟨hask, hpeer, hout⟩, hclaim, hasks, _, hlost⟩ => ?_) hfree
      refine ⟨hcounts, hst, hdet, hgaps, hgap, hcaution, hover, ⟨hask, ?_, hout⟩, hclaim, hasks, Nat.min_le_left _ _, hlost⟩
      simp only [List.length_append, List.length_singleton, List.length_drop]; omega
  · exact hfree

theorem KeptCalm.receive (r : Reception) (hs : P s) : P (s.receive r) := by
  have hbad : ∀ e, P (s.receiveBad e) := by
    intro e
    have hflag : P (if s.line.state = .full then { s with out.flagged := true } else s) := by
      split
      · exact h.out _ _ rfl rfl hs
      · exact hs
    unfold State.receiveBad
    dsimp only
    generalize (if s.line.state = .full then { s with out.flagged := true } else s) = u at hflag
    split
    · exact h.logError _ hflag
    · refine h.logError _ (h.setCounts _ _ (fun hl => ⟨hl.1.1, Nat.min_le_left _ _⟩) hflag)
  have hgood : ∀ f, P (s.receiveGood f) := by
    intro f
    unfold State.receiveGood
    dsimp only
    split
    · exact h.sortGood _ hs
    · refine h.sortGood _ (h.setCounts _ _ (fun hl => ⟨hl.1.1, (Nat.sub_le _ _).trans hl.1.2.1⟩) (h.out _ _ rfl rfl hs))
  unfold State.receive
  split
  · exact hbad _
  · split
    · exact hbad _
    · exact hgood _

/-- A transmission over, its frame queued or not (R161). -/
theorem KeptCalm.sentOver (q : List OutEntry) (hlen : q.length ≤ s.line.outQueue.length)
    (hclaim : (q.filter (·.frame.isDrawClaim)).length ≤ (s.line.outQueue.filter (·.frame.isDrawClaim)).length)
    (hs : P s) : P { s with line := { s.line with sending := none, outQueue := q } } := by
  refine h.relined _ _ rfl
    (fun ⟨hcounts, hst, hdet, hgaps, hgap, hcaution, hover, ⟨hask, hpeer, hout⟩, hclaims, hlost⟩ => ?_) hs
  exact ⟨hcounts, hst, fun hd => ⟨(hdet hd).1, rfl⟩, hgaps, hgap, hcaution, hover, ⟨hask, hpeer, hlen.trans hout⟩,
    hclaim.trans hclaims, hlost⟩

theorem KeptCalm.keepSent (hs : P s) : P s.keepSent :=
  h.sentOver _ (by simp) (by rw [List.filter_map, List.length_map]; exact le_rfl) hs

theorem KeptCalm.dropSent (hs : P s) : P s.dropSent :=
  h.sentOver _ (List.length_filter_le _ _) (List.filter_sublist.filter _).length_le hs

theorem KeptCalm.sendFails (e : LineError) (hs : P s) : P (s.sendFails e) := by
  have hkept := h.keepSent hs
  unfold State.sendFails
  dsimp only
  split
  · refine h.logError _ (h.recount _ _ _ _ _ (fun hl => ?_) hkept)
    exact ⟨le_rfl, hl.1.2.1, fun hd => absurd rfl hd, fun _ => ⟨rfl, rfl⟩, rfl⟩
  · exact h.logError _ (h.setCounts _ _ (fun hl => ⟨by omega, hl.1.2.1⟩) hkept)

theorem KeptCalm.endSend (r : SendResult) (hs : P s) : P (s.endSend r) := by
  unfold State.endSend
  split
  · exact hs
  · split
    · exact h.keepSent hs
    · exact h.setCounts _ _ (fun hl => ⟨(Nat.sub_le _ _).trans hl.1.1, hl.1.2.1⟩) (h.dropSent hs)
    · exact h.sendFails _ hs
    · exact h.sendFails _ hs
    · exact h.sendFails _ hs

theorem KeptCalm.countGaps (n : Nat) (hs : P s) : P (s.countGaps n) := by
  obtain ⟨-, heq⟩ | ⟨g, hg, ⟨hlt, heq⟩ | ⟨-, heq⟩⟩ := State.countGaps_cases n s <;> rw [heq]
  · exact hs
  · refine h.relined _ _ rfl (fun ⟨hcounts, hst, hdet, hgaps, _, hrest⟩ => ?_) hs
    refine ⟨hcounts, hst, hdet, by simpa [hg] using hgaps, fun k hk => ?_, hrest⟩
    obtain rfl := Option.some.inj hk
    exact hlt
  · exact h.recount _ _ _ _ _ (fun _ => by simp [stateOfCounts, guardedCount]) hs

theorem KeptCalm.answerStatus (src : Station) (page : Nat) (hs : P s) : P (s.answerStatus src page) :=
  h.relined { ((s.post (.statusReply src page (s.pageFigures page))).useFree 1).line with lastError := .noChange } _ rfl id
    (h.useFree _ _ (h.post _ _ hs))

/-! ### Templates -/

theorem KeptCalm.setContext (st : Station) (x : Option Context) (hs : P s) : P (s.setContext st x) :=
  h.templates _ _ (fun ht t x hx => ht t x hx) hs

theorem KeptCalm.cancelContext (st : Station) (c : CancelCause) (hs : P s) : P (s.cancelContext st c) := by
  unfold State.cancelContext
  split
  · exact hs
  · exact h.raise _ _ (h.setContext _ _ hs)

theorem KeptCalm.contextTimesOut (st : Station) (hs : P s) : P (s.contextTimesOut st) := by
  unfold State.contextTimesOut
  split
  · exact hs
  · split
    · exact h.cancelContext _ _ hs
    · exact hs

theorem KeptCalm.openTemplate (st : Station) (id : Nat) (hs : P s) : P (s.openTemplate st id) := by
  unfold State.openTemplate
  split
  · exact h.raise _ _ hs
  · exact h.setContext _ _ hs

omit h in
/-- A slot given a template within its ranges, or emptied (R150). -/
theorem templatesSound_setTemplate (t : TemplateNo) (x : Option Template)
    (hx : TemplatesSound s → ∀ y, x = some y →
      y.token ≠ 0 ∧ 500 ≤ y.target ∧ y.target ≤ 1000 ∧ y.todOpen < 86400 ∧ 120 ≤ y.window ∧ y.window ≤ 3600)
    (ht : TemplatesSound s) : TemplatesSound (s.setTemplate t x) := by
  intro u y hy
  simp only [State.setTemplate_ts, Fin.getElem_fin, Vector.getElem_set] at hy
  split at hy
  · exact hx ht y hy
  · exact ht u y hy

omit h in
theorem templatesSound_emptySlots (p : Template → Bool) (ht : TemplatesSound s) : TemplatesSound (s.emptySlots p) := by
  intro t x hx
  simp only [State.emptySlots, Fin.getElem_fin, Vector.getElem_ofFn, Option.filter_eq_some_iff] at hx
  exact ht t x hx.1

theorem KeptCalm.setTemplate (t : TemplateNo) (x : Option Template)
    (hx : TemplatesSound s → ∀ y, x = some y →
      y.token ≠ 0 ∧ 500 ≤ y.target ∧ y.target ≤ 1000 ∧ y.todOpen < 86400 ∧ 120 ≤ y.window ∧ y.window ≤ 3600)
    (hs : P s) : P (s.setTemplate t x) := h.templates _ _ (templatesSound_setTemplate t x hx) hs

theorem KeptCalm.templateBody (st : Station) (token cls : Nat) (kept : Bool) (tod target window : Nat) (hs : P s) :
    P (s.templateBody st token cls kept tod target window) := by
  unfold State.templateBody
  split
  · exact h.raise _ _ hs
  · have hclosed := h.setContext st none hs
    dsimp only
    split
    · exact h.raise _ _ hclosed
    · next hfields =>
      split
      · refine h.raise _ _ (h.setTemplate _ _ (fun _ y hy => ?_) hclosed)
        obtain rfl := Option.some.inj hy
        simp only [limitTo, daySeconds] at *
        omega
      · exact h.raise _ _ hclosed

theorem KeptCalm.emptySlots (p : Template → Bool) (hs : P s) : P (s.emptySlots p) :=
  h.templates _ _ (templatesSound_emptySlots p) hs

theorem KeptCalm.withTemplate (st : Station) (id : Nat) (f : Option Template → Option Template)
    (hf : ∀ x y, f x = some y → ∃ z, x = some z ∧ y.token = z.token ∧ y.target = z.target ∧ y.todOpen = z.todOpen ∧
      y.window = z.window) (hs : P s) : P (s.withTemplate st id f) := by
  unfold State.withTemplate
  split
  · exact h.raise _ _ hs
  · refine h.setTemplate _ _ (fun ht y hy => ?_) hs
    obtain ⟨z, hz, htoken, htarget, htod, hwindow⟩ := hf _ _ hy
    rw [htoken, htarget, htod, hwindow]
    exact ht _ z hz

theorem KeptCalm.dropTemplates (st : Station) (m : DropMode) (id : Nat) (hs : P s) : P (s.dropTemplates st m id) := by
  unfold State.dropTemplates
  split
  · exact h.withTemplate _ _ _ (by simp) hs
  · exact h.emptySlots _ hs
  · exact h.emptySlots _ hs
  · refine h.withTemplate _ _ _ (fun x y hy => ?_) hs
    obtain ⟨z, rfl, rfl⟩ := Option.map_eq_some_iff.1 hy
    exact ⟨z, rfl, rfl, rfl, rfl, rfl⟩
  · refine h.withTemplate _ _ _ (fun x y hy => ?_) hs
    obtain ⟨z, rfl, rfl⟩ := Option.map_eq_some_iff.1 hy
    exact ⟨z, rfl, rfl, rfl, rfl, rfl⟩

theorem KeptCalm.dayRolls (hs : P s) : P s.dayRolls := by
  unfold State.dayRolls
  split
  · exact h.emptySlots _ (h.templates _ _ (fun ht t x hx => ht t x hx) hs)
  · exact hs

/-! ### Asks and offers -/

theorem KeptCalm.answerRepeat (i : SlotNo) (x : Slot) (a : Ask) (hs : P s) : P (s.answerRepeat i x a) := by
  have hfreed : ∀ f, P ((s.post f).setSlot i none) := fun f =>
    h.setSlot _ _ _ (fun hl => slotsSound_setSlot_none hl) (h.post _ _ hs)
  unfold State.answerRepeat
  dsimp only
  split
  · exact h.post _ _ hs
  · split
    · exact hfreed _
    · exact h.post _ _ hs
  · split
    · exact hfreed _
    · exact h.post _ _ hs
  · exact hs

theorem KeptCalm.takeAsk (a : Ask) (hs : P s) : P (s.takeAsk a) := by
  unfold State.takeAsk
  split
  · exact h.answerRepeat _ _ _ hs
  · next hnone =>
    split
    · next i hi =>
      have hput : ∀ y : Slot, y.terminal = a.terminal → y.ask = a.ask → SlotSound s.book y → P (s.setSlot i (some y)) := by
        intro y ht ha hy
        refine h.setSlot _ _ _ (fun hl => slotsSound_setSlot hl fun z hz => ?_) hs
        obtain rfl := Option.some.inj hz
        exact ⟨hy, fun j w _ hw he => State.slotOf_none hnone hw ⟨he.1.trans ht, he.2.trans ha⟩⟩
      unfold State.openSlot
      dsimp only
      split
      · exact h.post _ _ (hput _ rfl rfl ⟨by simp, by simp, by simp⟩)
      · exact hput _ rfl rfl ⟨by simp, by simp, by simp⟩
    · exact h.raise _ _ (h.dropped _ hs)

theorem KeptCalm.takeOffer (src : Station) (t a o : Nat) (e : Bool) (hs : P s) : P (s.takeOffer src t a o e) := by
  by_cases hown : src = s.cfg.station
  · rw [State.takeOffer_own hown]; exact hs
  · obtain ⟨i, x, hi, -, heq⟩ | ⟨-, heq⟩ := State.takeOffer_cases t a o e hown <;> rw [heq]
    · refine h.setSlot _ _ _ (fun hl => ?_) hs
      have hx : SlotSound s.book x := slotSound_of_slots hl hi
      rw [Slot.hear_eq]
      exact slotsSound_setSlot_same_ask hl hi rfl rfl hx
    · exact hs

theorem KeptCalm.discardEnds (i : SlotNo) (hs : P s) : P (s.discardEnds i) := by
  have hfree : ∀ {u : State}, P u → P (u.setSlot i none) := fun hu => h.setSlot _ _ _ (fun hl => slotsSound_setSlot_none hl) hu
  unfold State.discardEnds
  split
  · split
    · unfold State.discardSlot
      split
      · next id _ _ _ =>
        have hdiscard := hfree (h.discardRecord id hs)
        dsimp only
        split
        · exact h.raise _ _ hdiscard
        · exact hdiscard
      · exact hfree hs
    · exact hs
  · exact hs

end

/-! ### Operations on bays -/

section
variable {P : State → Prop} (h : Kept P) {s : State}
include h

theorem Kept.doneRecord (id : Nat) (hs : P s) : P (s.doneRecord id) := by
  obtain heq | ⟨r, b, p, hr, -, heq⟩ := State.doneRecord_cases id s <;> rw [heq]
  · exact hs
  · exact h.removeAtDoor _ _ (Book.byId_some hr).1 hs

theorem Kept.leaveBay (b : BayNo) (n : BayState) (hs : P s) : P (s.leaveBay b n) := by
  unfold State.leaveBay
  dsimp only
  split
  · exact h.unbind _ _ _ (h.enterBay _ _ _ hs)
  · exact h.enterBay _ _ _ hs

theorem Kept.faultBay (b : BayNo) (k : FaultKind) (hs : P s) : P (s.faultBay b k) := by
  unfold State.faultBay
  dsimp only
  split
  · exact h.unbind _ _ _ (h.raise _ _ (h.enterBay _ _ _ hs))
  · exact h.raise _ _ (h.enterBay _ _ _ hs)

/-- A change of a bay record's fields that its duty does not show. -/
theorem Kept.setBay {b : BayNo} {x : Bay} (hx : x.SameDuty (s.bay b)) (hs : P s) : P (s.setBay b x) :=
  h.putBay b x s hx hs

theorem Kept.passSoc (b : BayNo) (soc : Nat) (hs : P s) : P (s.passSoc b soc) := by
  obtain heq | ⟨id, r, -, -, ⟨-, -, -, heq⟩ | ⟨-, -, -, heq⟩⟩ := State.passSoc_cases b soc s <;> rw [heq]
  · exact hs
  · exact h.edit _ _ _ ⟨by simp, by simp, .inr (by rw [State.enterBay_eq])⟩ (by simp) (h.enterBay _ _ _ hs)
  · exact h.edit _ _ _ ⟨by simp, by simp, .inr (by rw [State.enterBay_eq])⟩ (by simp) (h.enterBay _ _ _ hs)

/-- A change of a bay record that keeps its duty, the setpoint being forced to 0 where the bay is not chargeable (R21). -/
theorem Kept.changeBay {b : BayNo} {f : Bay → Bay} (hf : (f (s.bay b)).SameDuty (s.bay b)) (hs : P s) :
    P (s.changeBay b f) := by
  obtain ⟨hcode, hmask, hboost, hset⟩ := hf
  refine h.putBay _ _ _ ⟨hcode, hmask, hboost, ?_⟩ hs
  unfold Bay.writeSetpoint
  dsimp only
  split
  · exact hset
  · exact Nat.zero_le _

theorem Kept.copyFigures (b : BayNo) (r : Report) (hs : P s) : P (s.copyFigures b r) := by
  unfold State.copyFigures
  split
  · exact hs
  · next p hp =>
    have hchange := h.changeBay (f := fun x => { x with pack := some (p.copyFigures s.cfg r) })
      (b := b) ⟨rfl, rfl, rfl, le_rfl⟩ hs
    dsimp only
    split
    · split
      · exact h.request _ (h.raise _ _ hchange)
      · exact h.raise _ _ hchange
    · split
      · exact h.request _ hchange
      · exact hchange

theorem Kept.doorStep (b : BayNo) (r : Report) (hs : P s) : P (s.doorStep b r) := by
  have hduty : ((s.bay b).doorStep r).SameDuty (s.bay b) := by
    unfold Bay.doorStep
    split <;> exact ⟨rfl, rfl, rfl, le_rfl⟩
  exact h.raiseIf _ (h.setBay hduty hs)

/-! ### Reports -/

theorem Kept.reportChecking (b : BayNo) (r : Report) (hs : P s) : P (s.reportChecking b r) := by
  have hpack : ∀ p, P (s.setBay b { s.bay b with pack := p }) := fun p => h.setBay ⟨rfl, rfl, rfl, le_rfl⟩ hs
  unfold State.reportChecking
  dsimp only
  split
  · exact h.faultBay _ _ hs
  split
  · exact h.enterBay _ _ _ hs
  split
  · exact hs
  split
  · exact h.faultBay _ _ (hpack _)
  split
  · exact h.faultBay _ _ (hpack _)
  · exact h.enterBay _ _ _ (hpack _)

theorem Kept.checkPack (b : BayNo) (r : Report) (hs : P s) : P (s.checkPack b r) :=
  h.reportChecking b r (h.enterBay _ _ _ hs)

theorem Kept.reportEmpty (b : BayNo) (r : Report) (hs : P s) : P (s.reportEmpty b r) := by
  unfold State.reportEmpty
  split
  · exact h.faultBay _ _ hs
  split
  · exact hs
  · exact h.checkPack _ _ hs

theorem Kept.packMissing (b : BayNo) (hs : P s) : P (s.packMissing b) :=
  h.raiseIf _ (h.raise _ _ (h.leaveBay _ _ hs))

theorem Kept.reportAccepted (b : BayNo) (r : Report) (hs : P s) : P (s.reportAccepted b r) := by
  unfold State.reportAccepted
  dsimp only
  have hcopy : P (if (s.bay b).sameSerial r = true then s.copyFigures b r else s) := by
    split
    · exact h.copyFigures _ _ hs
    · exact hs
  generalize (if (s.bay b).sameSerial r = true then s.copyFigures b r else s) = u at hcopy
  split
  · exact h.faultBay _ _ hcopy
  split
  · exact h.packMissing _ hcopy
  split
  · exact h.checkPack _ _ (h.packMissing _ hcopy)
  split
  · exact h.setBay ⟨rfl, rfl, rfl, le_rfl⟩ hcopy
  split
  · exact h.faultBay _ _ hcopy
  · exact h.passSoc _ _ (h.setBay ⟨rfl, rfl, rfl, le_rfl⟩ hcopy)

theorem Kept.reportPackFault (b : BayNo) (r : Report) (hs : P s) : P (s.reportPackFault b r) := by
  unfold State.reportPackFault
  split
  · split
    · exact h.faultBay _ _ (h.setBay ⟨rfl, rfl, rfl, le_rfl⟩ hs)
    · exact h.enterBay _ _ _ hs
  split
  · exact h.checkPack _ _ hs
  split
  · exact h.copyFigures _ _ hs
  · exact hs

theorem Kept.reportStageFault (b : BayNo) (r : Report) (hs : P s) : P (s.reportStageFault b r) := by
  unfold State.reportStageFault
  split
  · split
    · exact hs
    · exact h.setBay ⟨rfl, rfl, rfl, le_rfl⟩ hs
  split
  · exact h.checkPack _ _ hs
  · exact h.enterBay _ _ _ hs

theorem Kept.reportOff (b : BayNo) (r : Report) (c : OffCause) (hs : P s) : P (s.reportOff b r c) := by
  unfold State.reportOff
  split
  · split
    · exact h.reportChecking _ _ (h.raise _ _ (h.enterBay _ _ _ hs))
    · exact h.reportEmpty _ _ (h.raise _ _ (h.enterBay _ _ _ hs))
  · exact hs
  · exact hs

/-! ### Handovers -/

theorem Kept.endHandover (b : BayNo) (e : HandoverEnd) (hs : P s) : P (s.endHandover b e) := by
  unfold State.endHandover
  split
  · exact h.faultBay _ _ hs
  · exact h.enterBay _ _ _ hs

theorem Kept.returnRecord (id : Nat) (hs : P s) : P (s.returnRecord id) := by
  obtain heq | ⟨r, b, p, hr, -, heq⟩ := State.returnRecord_cases id s <;> rw [heq]
  · exact hs
  · exact h.edit id (fun r => { r with state := p.state b, late := false }) s.request ⟨by simp, by simp, .inr rfl⟩ (by simp)
      (h.request _ hs)

theorem Kept.returnHandover (b : BayNo) (id : Nat) (hs : P s) : P (s.returnHandover b id) := by
  unfold State.returnHandover
  split
  · dsimp only
    split
    · exact h.doorClear _ _ (h.endHandover _ _ (h.returnRecord _ hs))
    · exact h.endHandover _ _ (h.returnRecord _ hs)
  · exact hs

theorem Kept.completeSwap (b : BayNo) (k : Handover) (n : Nat) (hs : P s) : P (s.completeSwap b k n) :=
  h.raise _ _ (h.doneRecord _ (h.endHandover _ _ hs))

theorem Kept.noReturn (b : BayNo) (k : Handover) (hs : P s) : P (s.noReturn b k) :=
  h.raise _ _ (h.doneRecord _ (h.endHandover _ _ hs))

theorem Kept.leaveAjar (b : BayNo) (k : Handover) (hs : P s) : P (s.leaveAjar b k) := by
  unfold State.leaveAjar
  split
  · dsimp only
    split
    · exact h.endHandover _ _ (h.returnRecord _ hs)
    · exact h.raise _ _ (h.enterBay _ _ _ (h.setBay ⟨rfl, rfl, rfl, le_rfl⟩ (h.returnRecord _ hs)))
  · exact hs

theorem Kept.handoverTimerEnds (b : BayNo) (hs : P s) : P (s.handoverTimerEnds b) := by
  unfold State.handoverTimerEnds
  split
  · split
    · unfold State.handoverEnds
      split
      · exact h.completeSwap _ _ _ hs
      · exact h.noReturn _ _ hs
      · exact h.raise _ _ (h.returnHandover _ _ hs)
      · exact h.leaveAjar _ _ hs
      · exact hs
    · exact hs
  · exact hs

theorem Kept.ajarTimerEnds (b : BayNo) (hs : P s) : P (s.ajarTimerEnds b) := by
  unfold State.ajarTimerEnds
  split
  · split
    · exact h.raise _ _ (h.setBay ⟨rfl, rfl, rfl, le_rfl⟩ hs)
    · exact hs
  · exact hs

theorem Kept.reportAtDoor (b : BayNo) (r : Report) (hs : P s) : P (s.reportAtDoor b r) := by
  unfold State.reportAtDoor
  dsimp only
  split
  · exact h.setBay ⟨rfl, rfl, rfl, le_rfl⟩ (h.copyFigures _ _ hs)
  · exact h.setBay ⟨rfl, rfl, rfl, le_rfl⟩ hs

theorem Kept.checkingThen (b : BayNo) (r : Report) (hs : P s) :
    P (if (s.bay b).state = .checking then s.reportChecking b r else s) := by
  split
  · exact h.reportChecking _ _ hs
  · exact hs

theorem Kept.reportOpen (b : BayNo) (d : Door) (r : Report) (hs : P s) : P (s.reportOpen b d r) := by
  have hnoted := h.setBay (b := b) (Bay.noteRemoval_sameDuty r _) (h.reportAtDoor b r hs)
  unfold State.reportOpen
  dsimp only
  split
  · exact hnoted
  · split
    · exact h.checkingThen _ _ (h.completeSwap _ _ _ hnoted)
    · exact hnoted

theorem Kept.ajarMissing (b : BayNo) (k : Handover) (e : HandoverEnd) (hs : P s) : P (s.ajarMissing b k e) :=
  h.raise _ _ (h.unbind _ _ _ (h.endHandover _ _ hs))

theorem Kept.ajarCloses (b : BayNo) (k : Handover) (hs : P s) : P (s.ajarCloses b k) := by
  unfold State.ajarCloses
  split
  · exact h.doorClear _ _ (h.endHandover _ _ hs)
  · exact hs

theorem Kept.reportAjar (b : BayNo) (r : Report) (hs : P s) : P (s.reportAjar b r) := by
  have hdoor := h.reportAtDoor b r hs
  unfold State.reportAjar
  dsimp only
  split
  · exact hdoor
  split
  · exact h.ajarMissing _ _ _ hdoor
  split
  · exact h.checkingThen _ _ (h.ajarMissing _ _ _ hdoor)
  split
  · exact h.ajarCloses _ _ hdoor
  · exact hdoor

theorem Kept.takeReport (b : BayNo) (r : Report) (hs : P s) : P (s.takeReport b r) := by
  have hnote : P (s.noteReport b r) := h.setBay ⟨rfl, rfl, rfl, le_rfl⟩ hs
  have hfault : P (if (s.noteReport b r).part == .run && r.boostFault then (s.noteReport b r).takeBoostFault b
      else s.noteReport b r) := by
    split
    · exact h.takeBoostFault _ hnote
    · exact hnote
  unfold State.takeReport
  dsimp only
  generalize (if (s.noteReport b r).part == .run && r.boostFault then (s.noteReport b r).takeBoostFault b
      else s.noteReport b r) = u at hfault
  have hdoor := h.doorStep b r hfault
  split
  · exact hdoor
  · unfold State.reportByState
    split
    · exact h.reportEmpty _ _ hdoor
    · exact h.reportChecking _ _ hdoor
    · exact h.reportAccepted _ _ hdoor
    · exact h.reportAccepted _ _ hdoor
    · exact h.reportAccepted _ _ hdoor
    · exact h.reportOpen _ _ _ hdoor
    · exact h.reportAjar _ _ hdoor
    · exact h.reportStageFault _ _ hdoor
    · exact h.reportPackFault _ _ hdoor
    · exact h.reportOff _ _ _ hdoor

/-! ### Bays taken out of use, service, claims -/

theorem Kept.loseLink (b : BayNo) (hs : P s) : P (s.loseLink b) := by
  have hopen : P (s.linkLostOpen b) := by
    unfold State.linkLostOpen
    split
    · split
      · exact h.noReturn _ _ hs
      · exact h.returnHandover _ _ hs
    · exact hs
  unfold State.loseLink
  split
  · dsimp only
    split
    · exact h.raise _ _ (h.leaveBay _ _ hopen)
    · exact h.raise _ _ (h.leaveBay _ _ hs)
  · exact hs

theorem Kept.dataTimerEnds (b : BayNo) (hs : P s) : P (s.dataTimerEnds b) := by
  unfold State.dataTimerEnds
  split
  · exact h.faultBay _ _ hs
  · exact hs

theorem Kept.serviceOff (n : Nat) (hs : P s) : P (s.serviceOff n) := by
  unfold State.serviceOff
  split
  · exact h.raise _ _ hs
  · split
    · exact h.raise _ _ hs
    · exact h.raise _ _ hs
    · exact h.raise _ _ hs
    · next hoff => exact h.setBay ⟨by rw [hoff]; rfl, rfl, rfl, le_rfl⟩ hs
    · exact hs
    · exact h.leaveBay _ _ hs

theorem Kept.serviceOn (n : Nat) (hs : P s) : P (s.serviceOn n) := by
  unfold State.serviceOn
  split
  · exact h.raise _ _ hs
  · split
    · exact h.raise _ _ hs
    · next hoff =>
      have hlink : ∀ b : BayNo, (s.bay b).state = .off .service → P (s.setBay b { s.bay b with state := .off .link }) :=
        fun b hb => h.setBay ⟨by rw [hb]; rfl, rfl, rfl, le_rfl⟩ hs
      split
      · split
        · exact h.enterBay _ _ _ hs
        · exact hlink _ hoff
      · exact hlink _ hoff
    · exact hs

theorem Kept.takeClaim (src : Station) (token : Nat) (hs : P s) : P (s.takeClaim src token) := by
  have hgo : ∀ r b p e, P (s.go src r b p e) := by
    intro r b p e
    have hrecord : P (s.goRecord r b p) :=
      h.request _ (h.edit _ _ _ ⟨by simp, by simp, .inr (by rw [State.enterBay_eq])⟩ (by simp) (h.enterBay _ _ _ hs))
    unfold State.go
    dsimp only
    split
    · exact h.raise _ _ (h.post _ _ (h.setBay ⟨rfl, rfl, rfl, le_rfl⟩ hrecord))
    · exact h.post _ _ (h.setBay ⟨rfl, rfl, rfl, le_rfl⟩ hrecord)
  unfold State.takeClaim
  split
  · exact hs
  split
  · unfold State.answerClaim
    dsimp only
    split
    · exact h.post _ _ hs
    · exact h.post _ _ hs
    · split
      · exact h.post _ _ hs
      · exact hgo _ _ _ _
    · split
      · exact h.post _ _ hs
      · split
        · split
          · exact hgo _ _ _ _
          · exact h.post _ _ hs
        · exact h.post _ _ hs
  · split
    · exact h.post _ _ hs
    · exact hs

end

/-! ### The operations that create records -/

/-- A property that the creation of a record keeps (R41), and what else the commands that create records do. -/
structure KeptNew (P : State → Prop) : Prop where
  raise : ∀ (n : Notice) (s : State), P s → P (s.raise n)
  request : ∀ s : State, P s → P s.request
  useFree : ∀ (n : Nat) (s : State), P s → P (s.useFree n)
  templates : ∀ (ts : TemplateStore) (s : State), (TemplatesSound s → TemplatesSound { s with ts := ts }) → P s →
    P { s with ts := ts }
  setSlot : ∀ (i : SlotNo) (x : Option Slot) (s : State), (SlotsSound s → SlotsSound (s.setSlot i x)) → P s →
    P (s.setSlot i x)
  create : ∀ (q : Request) (s : State), s.book.check s.cfg q = none → P s →
    P ({ s with book := s.book.insert (s.book.freeId (s.book.records.length + 1) s.book.nextId) q }.request)

theorem KeptCalm.new {P : State → Prop} (h : KeptCalm P)
    (hcreate : ∀ (q : Request) (s : State), s.book.check s.cfg q = none → P s →
      P ({ s with book := s.book.insert (s.book.freeId (s.book.records.length + 1) s.book.nextId) q }.request)) :
    KeptNew P :=
  { h with create := hcreate }

section
variable {P : State → Prop} (h : KeptNew P) {s : State}
include h

theorem KeptNew.createRecord (q : Request) (hs : P s) : P (s.createRecord q).2 := by
  obtain ⟨why, -, heq⟩ | ⟨hcheck, id, rfl, heq⟩ := State.createRecord_cases q s <;> rw [heq]
  · exact hs
  · exact h.create _ _ hcheck hs

theorem KeptNew.winExisting {i : SlotNo} {x : Slot} (hi : s.asks.slots[i] = some x) (hs : P s) :
    P (s.winExisting i x) := by
  unfold State.winExisting
  split
  · next r hr =>
    refine h.setSlot _ _ _ (fun hl => slotsSound_setSlot_same_ask hl hi rfl rfl ⟨fun id off c d he => ?_, (slotSound_of_slots hl hi).2.1, by simp⟩) hs
    obtain ⟨rfl, -⟩ := SlotState.won.inj he
    rw [Option.isSome_iff_ne_none, Ne, Book.byId_none]
    exact fun hne => hne r (Book.byToken_some hr).1 rfl
  · exact h.setSlot _ _ _ (fun hl => slotsSound_setSlot_same_ask hl hi rfl rfl ⟨by simp [Slot.toNone], by simp [Slot.toNone],
      by simp [Slot.toNone]⟩) hs

theorem KeptNew.toNone {i : SlotNo} {x : Slot} (m : Nat) (r : NoneReason) (hi : s.asks.slots[i] = some x) (hs : P s) :
    P (s.setSlot i (some (x.toNone m r))) :=
  h.setSlot _ _ _ (fun hl => slotsSound_setSlot_same_ask hl hi rfl rfl ⟨by simp [Slot.toNone], by simp [Slot.toNone],
    by simp [Slot.toNone]⟩) hs

theorem KeptNew.winNew {i : SlotNo} {x : Slot} (off : Nat) (hi : s.asks.slots[i] = some x) (hs : P s) :
    P (s.winNew i x off) := by
  unfold State.winNew
  split
  · exact h.toNone _ _ hi hs
  · next c _ =>
    generalize hq : Request.mk x.token c x.target (x.arrival + x.arrivalEstimate) x.window .ask = q
    obtain ⟨why, -, heq⟩ | ⟨hcheck, id, hid, heq⟩ := State.createRecord_cases q s <;> rw [heq]
    · dsimp only
      cases why with
      | noRider => exact h.toNone _ _ hi hs
      | tokenHeld => exact h.winExisting hi hs
      | bookFull => exact h.toNone _ _ hi hs
      | limit => exact h.toNone _ _ hi hs
    · dsimp only
      subst hid
      refine h.setSlot _ _ _ (fun hl => slotsSound_setSlot_same_ask hl hi rfl rfl ⟨fun n o k d he => ?_, (slotSound_of_slots hl hi).2.1, by simp⟩)
        (h.create _ _ hcheck hs)
      obtain ⟨rfl, -⟩ := SlotState.won.inj he
      rw [Option.isSome_iff_ne_none, Ne, Book.byId_none]
      exact fun hne => hne _ (mem_insertRecord.2 (.inl rfl)) rfl

theorem KeptNew.bidEnds (i : SlotNo) (hs : P s) : P (s.bidEnds i) := by
  unfold State.bidEnds
  split
  · next x hi =>
    have hlost : P (s.setSlot i (some { x with state := .lost s.discardMillis })) :=
      h.setSlot _ _ _ (fun hl => slotsSound_setSlot_same_ask hl hi rfl rfl ⟨by simp, (slotSound_of_slots hl hi).2.1, by simp⟩) hs
    split
    · unfold State.resolveBid
      split
      · split
        · split
          · exact h.winExisting hi hs
          · exact h.winNew _ hi hs
        · exact hlost
      · exact hlost
      · next hown _ =>
        exact h.setSlot _ _ _ (fun hl => slotsSound_setSlot_same_ask hl hi rfl rfl
          ⟨by simp, (slotSound_of_slots hl hi).2.1, fun _ _ => (slotSound_of_slots hl hi).2.1 hown⟩) hs
    · exact hs
  · exact hs

theorem KeptNew.instantiate (t : TemplateNo) (day : Int) (hs : P s) : P (s.instantiate t day) := by
  unfold State.instantiate
  split
  · exact hs
  · next x hx =>
    split
    · exact hs
    · have hnoted := h.templates _ _ (templatesSound_setTemplate t (some { x with lastDay := some day }) fun ht y hy => by
        obtain rfl := Option.some.inj hy
        exact ht t x hx) hs
      dsimp only
      generalize hq : Request.mk x.token x.cls x.target _ x.window (.standing t) = q
      have hmade := h.createRecord q hnoted
      split
      · exact h.request _ hmade
      · exact h.request _ (h.raise _ _ hmade)

theorem KeptNew.instantPassed (t : TemplateNo) (hs : P s) : P (s.instantPassed t) := by
  unfold State.instantPassed
  split
  · exact hs
  · next x hx =>
    split
    · exact hs
    · refine h.instantiate _ _ (h.templates _ _ (templatesSound_setTemplate _ _ fun ht y hy => ?_) hs)
      obtain rfl := Option.some.inj hy
      exact ht t x hx

theorem KeptNew.takeDayTime (v : Nat) (hs : P s) : P (s.takeDayTime v) := by
  have hclock : ∀ o, P { s with ts.dayOffset := o } := fun o => h.templates _ _ (fun ht t x hx => ht t x hx) hs
  have hpoint : ∀ (p : Point) (u : State), P u → P (u.passPoint p) := by
    intro p u hu
    cases p with
    | instant at_ t => exact h.instantiate _ _ hu
    | midnight at_ => exact h.templates _ _ (templatesSound_emptySlots _) hu
  have hpoints : ∀ (l : List Point) (u : State), P u → P (l.foldl State.passPoint u) := by
    intro l
    induction l with
    | nil => exact fun _ hu => hu
    | cons p ps ih => exact fun u hu => ih _ (hpoint p u hu)
  unfold State.takeDayTime
  split
  · exact hs
  · split
    · exact h.raise _ _ (hclock _)
    · dsimp only
      split
      · exact hs
      · exact h.raise _ _ (hpoints _ _ (h.useFree _ _ (hclock _)))

end

end Sys2Proof.Machine
end

section
/-! SUPPORT. Commands and steps: a property kept by each update of the part's blocks is kept by every command, and, where the
millisecond and the restarts keep it too, by every step. -/

namespace Sys2Proof.Machine

open Sys2Proof.Machine.Safety

/-! ### How a command takes its frame (R166, R167) -/

section
variable {P : State → Prop} (h : KeptCalm P) {s : State}
include h

theorem KeptCalm.fromAsk {f : AskFrame → Option (State → State)}
    (hf : ∀ x body, f x = some body → ∀ u, P u → P (body u)) (hs : P s) : P (s.fromAsk f) := by
  unfold State.fromAsk
  split
  · exact hs
  · next x rest hq =>
    split
    · next body hx =>
      have hpop : ({ s with line.askQueue := rest } : State) = Safety.popAsk s := by simp [Safety.popAsk, hq]
      exact hf x body hx _ (hpop ▸ h.popAsk s hs)
    · exact hs

omit h in
theorem kept_fromPeer {f : PeerFrame → Option (State → State)} (hkept : ∀ u, P u → P (Safety.popPeer u))
    (hf : ∀ x body, f x = some body → ∀ u, P u → P (body u)) (hs : P s) : P (s.fromPeer f) := by
  unfold State.fromPeer
  split
  · exact hs
  · next x rest hq =>
    split
    · next body hx =>
      have hpop : ({ s with line.peerQueue := rest } : State) = Safety.popPeer s := by simp [Safety.popPeer, hq]
      exact hf x body hx _ (hpop ▸ hkept s hs)
    · exact hs

theorem KeptCalm.fromPeer {f : PeerFrame → Option (State → State)}
    (hf : ∀ x body, f x = some body → ∀ u, P u → P (body u)) (hs : P s) : P (s.fromPeer f) :=
  kept_fromPeer h.popPeer hf hs

omit h in
theorem kept_inRun {body : State → State} (hbody : ∀ u, P u → P (body u)) (hs : P s) : P (inRun body s) := by
  unfold inRun
  split
  · exact hs
  · exact hbody s hs

theorem KeptCalm.addressed {st : Station} {body : State → State} (hbody : ∀ u, P u → P (body u)) (hs : P s) :
    P (addressed st body s) :=
  kept_inRun (fun _ hu => hbody _ (h.cancelContext st .otherFrame hu)) hs

theorem KeptCalm.refuseService (bay action : Nat) (hs : P s) : P (s.refuseService bay action) := h.raise _ _ hs

theorem KeptCalm.takeDrop (m : DropMode) (x : AskFrame) (body : State → State) (hx : takeDrop m x = some body) (u : State)
    (hu : P u) : P (body u) := by
  unfold Sys2Proof.Machine.takeDrop at hx
  split at hx
  · split at hx
    · obtain rfl := Option.some.inj hx
      exact h.addressed (fun v hv => h.dropTemplates _ _ _ hv) hu
    · simp at hx
  · simp at hx

end

/-! ### Commands -/

/-- A property that each rule of the Bay Table and the Handover Unit keeps, as a whole, besides the updates that move no
bay. -/
structure KeptRules (P : State → Prop) : Prop extends KeptCalm P where
  takeReport : ∀ (b : BayNo) (r : Report) (s : State), P s → P (s.takeReport b (limitReport r))
  loseLink : ∀ (b : BayNo) (s : State), P s → P (s.loseLink b)
  dataTimerEnds : ∀ (b : BayNo) (s : State), P s → P (s.dataTimerEnds b)
  serviceOff : ∀ (n : Nat) (s : State), P s → P (s.serviceOff n)
  serviceOn : ∀ (n : Nat) (s : State), P s → P (s.serviceOn n)
  takeClaim : ∀ (src : Station) (token : Nat) (s : State), P s → P (s.takeClaim src token)
  handoverTimerEnds : ∀ (b : BayNo) (s : State), P s → P (s.handoverTimerEnds b)
  ajarTimerEnds : ∀ (b : BayNo) (s : State), P s → P (s.ajarTimerEnds b)

theorem Kept.rules {P : State → Prop} (h : Kept P) : KeptRules P :=
  { h with
    takeReport := fun b _ _ => h.takeReport b _
    loseLink := fun b _ => h.loseLink b
    dataTimerEnds := fun b _ => h.dataTimerEnds b
    serviceOff := fun n _ => h.serviceOff n
    serviceOn := fun n _ => h.serviceOn n
    takeClaim := fun src token _ => h.takeClaim src token
    handoverTimerEnds := fun b _ => h.handoverTimerEnds b
    ajarTimerEnds := fun b _ => h.ajarTimerEnds b }

/-- The commands that may create a record (R41). -/
def Instr.creates : Instr → Bool
  | .bidWindowEnd _ => true
  | .templateInstant _ => true
  | .dayTime => true
  | _ => false

/-- What a command does beyond the updates of `Kept`, each with the command it belongs to. -/
structure Covers (P : State → Prop) (c : Instr) : Prop where
  new : Instr.creates c = true → ∀ (q : Request) (s : State), s.book.check s.cfg q = none → P s →
    P ({ s with book := s.book.insert (s.book.freeId (s.book.records.length + 1) s.book.nextId) q }.request)
  pass : c = .passCompletion → ∀ s, P s → P s.completePass
  send : ∀ n, c = .sendStart n → ∀ s, P s → P (s.startSend n)
  clear : c = .statusClear → ∀ m s, P s → P (s.clearFlags m)
  select : ((∃ g, c = .setup g) ∨ c = .selectRelease) → ∀ level s, P s → P (s.setSelect level)
  piece : (∃ g, c = .setup g) → ∀ n content s, UnsetHeld s → s.part = .unset → P s → P (s.takePiece n content)

/-- An event that began in `s` has ended in `t`, its body having left a state with the property (R20, R84). -/
def EndsWith (P : State → Prop) (s t : State) : Prop := ∃ reply u, P u ∧ t = State.finish reply s u

theorem endsWith_event {P : State → Prop} {s t : State} {body : State → State} (hlive : s.pins.restart = false)
    (hbody : P (body s.quiet)) (he : event body s = .next t) : EndsWith P s t := by
  rw [event, State.take_live hlive] at he
  exact ⟨none, _, hbody, (Host.Outcome.next.inj he).symm⟩

/-- SELECT at any level and the oldest frame of the Ask queue taken leave an UNSET part at its restart values (R176). -/
theorem unsetHeld_setSelect {s : State} (level : Bool) (hs : UnsetHeld s) : UnsetHeld (s.setSelect level) := by
  unfold State.setSelect
  dsimp only
  split <;> exact hs

@[simp] theorem State.setSelect_part (level : Bool) (s : State) : (s.setSelect level).part = s.part := by
  unfold State.setSelect
  dsimp only
  split <;> rfl

theorem KeptCalm.takeSetup {P : State → Prop} (h : KeptCalm P) {c : Instr} (hc : Covers P c) (hsetup : ∃ g, c = .setup g)
    {s : State} (hunset : UnsetHeld s) (level : Bool) (n : Nat) (content : List Byte) (hs : P s) :
    P ((s.setSelect level).takeSetup n content) := by
  have hselect := hc.select (.inl hsetup) level s hs
  have hheld := unsetHeld_setSelect level hunset
  generalize s.setSelect level = u at hselect hheld
  unfold State.takeSetup
  split
  · exact h.raise _ _ hselect
  · split
    · exact hc.piece hsetup n content u hheld ‹_› hselect
    · exact hselect

/-- Only a SETUP that brings a restart has its write cut short (R174). -/
theorem not_cut_of_not_restart {s : State} {g : Setting} (h : isRestart s (.setup g) = false) :
    (g.cut && s.bringsWrite g.select) = false := by
  have hunset : s.bringsWrite g.select = true → s.part = .unset := by
    intro hw
    unfold State.bringsWrite at hw
    split at hw
    · simp only [Bool.and_eq_true, beq_iff_eq] at hw
      exact hw.1.1.1.2
    · simp at hw
  by_contra hcut
  simp only [Bool.not_eq_false, Bool.and_eq_true] at hcut
  simp [isRestart, hcut.1, hunset hcut.2] at h

/-- A SETUP whose write is not cut short (R174 to R177). -/
theorem KeptCalm.setup {P : State → Prop} (h : KeptCalm P) {g : Setting} (hc : Covers P (.setup g)) {s t : State}
    (hunset : UnsetHeld s) (hlive : s.pins.restart = false) (hcut : (g.cut && s.bringsWrite g.select) = false)
    (hs : P s.quiet) (he : exec (.setup g) s = .next t) : EndsWith P s t := by
  simp only [exec, execSetup, hcut, Bool.false_eq_true, if_false] at he
  refine endsWith_event hlive ?_ he
  unfold State.fromAsk
  split
  · exact hs
  · next x rest hq =>
    have hpop : ({ s.quiet with line.askQueue := rest } : State) = Safety.popAsk s.quiet := by
      simp only [Safety.popAsk, hq, List.tail_cons]
    have hpopped : P { s.quiet with line.askQueue := rest } := hpop ▸ h.popAsk _ hs
    split
    · next body hbody =>
      dsimp only at hbody
      split at hbody
      · obtain rfl := Option.some.inj hbody
        exact h.takeSetup hc ⟨g, rfl⟩ (s := { s.quiet with line.askQueue := rest }) hunset _ _ _ hpopped
      · simp at hbody
    · exact hs

/-- While RESTART is held asserted a command leaves the part as it is (R172), the edges of the two pins apart. -/
theorem exec_held {s t : State} {c : Instr} (hheld : s.pins.restart = true)
    (hc : c ≠ .restartAsserted ∧ c ≠ .selectRelease ∧ ∀ erase, c ≠ .restart erase) (he : exec c s = .next t) : t = s.quiet := by
  have htake : ∀ reply body, s.take reply body = s.quiet := fun _ _ => if_pos hheld
  obtain ⟨hasserted, hselect, hrestart⟩ := hc
  cases c with
  | restart erase => exact absurd rfl (hrestart erase)
  | restartAsserted => exact absurd rfl hasserted
  | selectRelease => exact absurd rfl hselect
  | bayReport b r =>
    simp only [exec, execBayReport, event, htake, ite_self] at he
    exact (Host.Outcome.next.inj he).symm
  | setup g =>
    have hwrite : s.bringsWrite g.select = false := by
      unfold State.bringsWrite
      split
      · simp [hheld]
      · rfl
    simp only [exec, execSetup, hwrite, Bool.and_false, Bool.false_eq_true, if_false, event, htake] at he
    exact (Host.Outcome.next.inj he).symm
  | _ => exact (Host.Outcome.next.inj (he.symm.trans (congrArg Host.Outcome.next (htake _ _))))

/-- Every command but a restart, on a part whose RESTART is released, ends with the property where each of its updates keeps
it. -/
theorem KeptRules.exec {P : State → Prop} (h : KeptRules P) {c : Instr} (hc : Covers P c) {s t : State}
    (hunset : ∀ g, c = .setup g → UnsetHeld s) (hlive : s.pins.restart = false) (hrestart : isRestart s c = false)
    (hs : P s.quiet) (he : exec c s = .next t) : EndsWith P s t := by
  have hnew : Instr.creates c = true → KeptNew P := fun hcreates => h.toKeptCalm.new (hc.new hcreates)
  cases c with
  | restart erase => simp [isRestart] at hrestart
  | restartAsserted => simp [isRestart] at hrestart
  | setup g => exact h.setup hc (hunset g rfl) hlive (not_cut_of_not_restart hrestart) hs he
  | selectRelease =>
    refine ⟨none, _, hc.select (.inr rfl) false _ hs, ?_⟩
    have : State.finish none s (s.quiet.setSelect false) = t := by
      simpa [Sys2Proof.Machine.exec, execSelectRelease, hlive] using he
    exact this.symm
  | bayReport b r =>
    simp only [Sys2Proof.Machine.exec, execBayReport] at he
    split at he
    · rw [State.take_live hlive] at he
      exact ⟨some b, _, h.takeReport b r _ hs, (Host.Outcome.next.inj he).symm⟩
    · exact endsWith_event hlive hs he
  | linkLoss b => exact endsWith_event hlive (h.loseLink b _ hs) he
  | dataTimerExpiry b => exact endsWith_event hlive (h.dataTimerEnds b _ hs) he
  | serviceOff =>
    refine endsWith_event hlive (h.fromAsk (fun x body hx u hu => ?_) hs) he
    split at hx
    · obtain rfl := Option.some.inj hx
      exact h.addressed (fun v hv => h.serviceOff _ _ hv) hu
    · simp at hx
  | serviceOn =>
    refine endsWith_event hlive (h.fromAsk (fun x body hx u hu => ?_) hs) he
    split at hx
    · obtain rfl := Option.some.inj hx
      exact h.addressed (fun v hv => h.serviceOn _ _ hv) hu
    · simp at hx
  | serviceBadAction =>
    refine endsWith_event hlive (h.fromAsk (fun x body hx u hu => ?_) hs) he
    split at hx
    · split at hx
      · obtain rfl := Option.some.inj hx
        exact h.addressed (fun v hv => h.refuseService _ _ hv) hu
      · simp at hx
    · simp at hx
  | swapAsk =>
    refine endsWith_event hlive (h.fromAsk (fun x body hx u hu => ?_) hs) he
    split at hx
    · obtain rfl := Option.some.inj hx
      exact kept_inRun (fun v hv => h.takeAsk _ hv) hu
    · simp at hx
  | offer =>
    refine endsWith_event hlive (h.fromPeer (fun x body hx u hu => ?_) hs) he
    split at hx
    · obtain rfl := Option.some.inj hx
      exact kept_inRun (fun v hv => h.takeOffer _ _ _ _ _ hv) hu
    · simp at hx
  | bidWindowEnd i => exact endsWith_event hlive ((hnew rfl).bidEnds i hs) he
  | discardTimerExpiry i => exact endsWith_event hlive (h.discardEnds i hs) he
  | recordExpiry id => exact endsWith_event hlive (h.expiryCheck id hs) he
  | release =>
    refine endsWith_event hlive (h.fromAsk (fun x body hx u hu => ?_) hs) he
    split at hx
    · obtain rfl := Option.some.inj hx
      exact h.addressed (fun v hv => h.releaseRecord _ _ hv) hu
    · simp at hx
  | claim =>
    refine endsWith_event hlive (h.fromAsk (fun x body hx u hu => ?_) hs) he
    split at hx
    · obtain rfl := Option.some.inj hx
      exact kept_inRun (fun v hv => h.takeClaim _ _ _ hv) hu
    · simp at hx
  | handoverTimerExpiry b => exact endsWith_event hlive (h.handoverTimerEnds b _ hs) he
  | doorAjarTimerExpiry b => exact endsWith_event hlive (h.ajarTimerEnds b _ hs) he
  | periodTimerExpiry => exact endsWith_event hlive (h.periodEnds hs) he
  | passCompletion => exact endsWith_event hlive (hc.pass rfl _ hs) he
  | sliceTimerExpiry => exact endsWith_event hlive (h.sliceEnds hs) he
  | switchTimerExpiry => exact endsWith_event hlive (h.switchEnds hs) he
  | siteFeed =>
    refine endsWith_event hlive (h.fromPeer (fun x body hx u hu => ?_) hs) he
    split at hx
    · obtain rfl := Option.some.inj hx
      exact kept_inRun (fun v hv => h.takeSiteFeed _ _ hv) hu
    · simp at hx
  | meterLost => exact endsWith_event hlive (h.loseMeter hs) he
  | drawClaim =>
    refine endsWith_event hlive (h.fromPeer (fun x body hx u hu => ?_) hs) he
    split at hx
    · obtain rfl := Option.some.inj hx
      exact kept_inRun (fun v hv => h.takeDrawClaim _ _ _ hv) hu
    · simp at hx
  | peerStale st => exact endsWith_event hlive (h.stalePeer st hs) he
  | peerLost st => exact endsWith_event hlive (h.losePeer st hs) he
  | claimTimerExpiry => exact endsWith_event hlive (h.claimTimerEnds hs) he
  | templateOpen =>
    refine endsWith_event hlive (h.fromAsk (fun x body hx u hu => ?_) hs) he
    split at hx
    · obtain rfl := Option.some.inj hx
      exact h.addressed (fun v hv => h.openTemplate _ _ hv) hu
    · simp at hx
  | templateBody =>
    refine endsWith_event hlive (h.fromAsk (fun x body hx u hu => ?_) hs) he
    split at hx
    · obtain rfl := Option.some.inj hx
      exact kept_inRun (fun v hv => h.templateBody _ _ _ _ _ _ _ hv) hu
    · simp at hx
  | templateContextTimeout st => exact endsWith_event hlive (h.contextTimesOut st hs) he
  | templateDropOne => exact endsWith_event hlive (h.fromAsk (h.takeDrop _) hs) he
  | templateDropAllTemporary => exact endsWith_event hlive (h.fromAsk (h.takeDrop _) hs) he
  | templateDropAll => exact endsWith_event hlive (h.fromAsk (h.takeDrop _) hs) he
  | templateDropMakeTemporary => exact endsWith_event hlive (h.fromAsk (h.takeDrop _) hs) he
  | templateDropMakeKept => exact endsWith_event hlive (h.fromAsk (h.takeDrop _) hs) he
  | templateDropBadMode =>
    refine endsWith_event hlive (h.fromAsk (fun x body hx u hu => ?_) hs) he
    split at hx
    · split at hx
      · obtain rfl := Option.some.inj hx
        exact h.addressed (fun v hv => h.raise _ _ hv) hu
      · simp at hx
    · simp at hx
  | dayTime =>
    refine endsWith_event hlive (h.fromPeer (fun x body hx u hu => ?_) hs) he
    split at hx
    · obtain rfl := Option.some.inj hx
      exact kept_inRun (fun v hv => (hnew rfl).takeDayTime _ hv) hu
    · simp at hx
  | templateInstant t => exact endsWith_event hlive ((hnew rfl).instantPassed t hs) he
  | dayRoll => exact endsWith_event hlive (h.dayRolls hs) he
  | frameReceive r => exact endsWith_event hlive (h.receive r hs) he
  | sendStart n => exact endsWith_event hlive (hc.send n rfl _ hs) he
  | sendEnd r => exact endsWith_event hlive (h.endSend r hs) he
  | rejoin n => exact endsWith_event hlive (h.countGaps n hs) he
  | statusAsk =>
    refine endsWith_event hlive (h.fromAsk (fun x body hx u hu => ?_) hs) he
    split at hx
    · obtain rfl := Option.some.inj hx
      exact h.addressed (fun v hv => h.answerStatus _ _ hv) hu
    · simp at hx
  | statusClear =>
    refine endsWith_event hlive (h.fromAsk (fun x body hx u hu => ?_) hs) he
    split at hx
    · obtain rfl := Option.some.inj hx
      exact h.addressed (fun v hv => hc.clear rfl _ _ hv) hu
    · simp at hx

end Sys2Proof.Machine
end

section
/-! SUPPORT. The completion of a pass and the step as a whole, from the updates they make. -/

namespace Sys2Proof.Machine

open Sys2Proof.Machine.Safety

/-! ### The moves and late flags of a pass (R44, R45, R49) -/

section
variable {P : State → Prop} (h : Kept P) {s : State}
include h

theorem Kept.bindBay (b : BayNo) (id : Nat) (hs : P s) : P (s.bindBay b id) :=
  h.enterBay _ _ _ (h.setBay ⟨rfl, rfl, rfl, le_rfl⟩ hs)

theorem Kept.bindRecord (id : Nat) (b : BayNo) (hs : P s) : P (s.bindRecord id b) := by
  obtain heq | ⟨r, -, -, -, heq⟩ := State.bindRecord_cases id b s <;> rw [heq]
  · exact hs
  · exact h.edit _ _ _ ⟨by simp, by simp, .inr (by rw [State.bindBay, State.enterBay_eq])⟩ (by simp) (h.bindBay _ _ hs)

theorem Kept.rebindRecord (id : Nat) (old new : BayNo) (hs : P s) : P (s.rebindRecord id old new) := by
  obtain heq | ⟨r, -, -, -, -, -, -, heq⟩ := State.rebindRecord_cases id old new s <;> rw [heq]
  · exact hs
  · exact h.edit _ _ _ ⟨by simp, by simp, .inr (by rw [State.bindBay, State.enterBay_eq])⟩ (by simp)
      (h.bindBay _ _ (h.enterBay _ _ _ hs))

theorem Kept.writeLate (id : Nat) (b : BayNo) (late : Bool) (hs : P s) : P (s.writeLate id b late) := by
  obtain heq | ⟨r, hr, hbound, heq⟩ := State.writeLate_cases id b late s <;> rw [heq]
  · exact hs
  · refine h.raiseIf _ (h.edit _ _ _ ⟨by simp, fun q hq _ _ => ?_, .inl fun _ => rfl⟩ (by simp) hs)
    obtain rfl := Option.some.inj (hq.symm.trans hr)
    exact ⟨b, hbound⟩

end

/-! ### What moves and late flags leave alone -/

@[simp] theorem State.bindRecord_feed (id : Nat) (b : BayNo) (s : State) : (s.bindRecord id b).feed = s.feed := by
  obtain heq | ⟨r, -, -, -, heq⟩ := State.bindRecord_cases id b s <;> rw [heq]
  simp [State.bindBay]

@[simp] theorem State.rebindRecord_feed (id : Nat) (old new : BayNo) (s : State) :
    (s.rebindRecord id old new).feed = s.feed := by
  obtain heq | ⟨r, -, -, -, -, -, -, heq⟩ := State.rebindRecord_cases id old new s <;> rw [heq]
  simp [State.bindBay]

@[simp] theorem State.writeLate_feed (id : Nat) (b : BayNo) (late : Bool) (s : State) :
    (s.writeLate id b late).feed = s.feed := by
  obtain heq | ⟨r, -, -, heq⟩ := State.writeLate_cases id b late s <;> rw [heq]
  dsimp only
  split <;> simp

theorem State.applyMoves_feed (l : List Move) (s : State) : (l.foldl State.applyMove s).feed = s.feed := by
  induction l generalizing s with
  | nil => rfl
  | cons m ms ih =>
    rw [List.foldl_cons, ih]
    cases m with
    | bind id b => exact State.bindRecord_feed id b s
    | rebind id old new => exact State.rebindRecord_feed id old new s

theorem State.applyLates_feed (l : List LateFlag) (s : State) : (l.foldl State.applyLate s).feed = s.feed := by
  induction l generalizing s with
  | nil => rfl
  | cons f fs ih =>
    rw [List.foldl_cons, ih]
    exact State.writeLate_feed f.id f.bay f.late s

/-! ### The allocations of the bays (R90) -/

/-- The draw of the allocations over the twelve bays is that of the walk. -/
theorem allocationOf_draw {l : List (BayNo × Nat)} (hl : (l.map (·.1)).Nodup) :
    (allBays.map fun b => siteDraw (allocationOf l b)).sum = (l.map fun x => siteDraw x.2).sum := by
  induction l with
  | nil => simp [allocationOf, allBays]
  | cons x xs ih =>
    obtain ⟨hx, hxs⟩ := List.nodup_cons.1 hl
    have hnone : ∀ b, b = x.1 → allocationOf xs b = 0 := by
      rintro b rfl
      have : xs.find? (·.1 == x.1) = none := by
        refine List.find?_eq_none.2 fun y hy => ?_
        have : y.1 ≠ x.1 := fun he => hx (List.mem_map.2 ⟨y, hy, he⟩)
        simpa using this
      simp [allocationOf, this]
    have hstep : ∀ b, siteDraw (allocationOf (x :: xs) b) =
        (if b = x.1 then siteDraw x.2 else 0) + siteDraw (allocationOf xs b) := by
      intro b
      by_cases hb : b = x.1
      · rw [hnone b hb]
        simp [allocationOf, List.find?_cons, hb]
      · have : ¬ x.1 = b := fun he => hb he.symm
        simp [allocationOf, List.find?_cons, hb, this]
    have hone : (allBays.map fun b => if b = x.1 then siteDraw x.2 else 0).sum = siteDraw x.2 := by
      rw [allBays, ← Fin.sum_univ_def]
      simp
    simp only [hstep, List.sum_map_add, hone, ih hxs, List.map_cons, List.sum_cons]

theorem Snapshot.allocation_nodup (cfg : Setup) (n : Snapshot) : ((n.plan cfg).allocation.map (·.1)).Nodup := by
  have hbays : (n.plan cfg).allocation.map (·.1) = (n.plan cfg).order := allocate_bays _ _ _
  rw [hbays]
  exact View.urgency_nodup _ _ _

/-- The allocations of a pass to the twelve bays draw no more than its snapshot's share (R90). -/
theorem Snapshot.allocationOf_draw_le (cfg : Setup) (n : Snapshot) :
    (allBays.map fun b => siteDraw (allocationOf (n.plan cfg).allocation b)).sum ≤ n.share := by
  rw [allocationOf_draw (n.allocation_nodup cfg)]
  exact n.allocation_draw_le cfg

/-- The allocations of a pass are multiples of 10 W (R90). -/
theorem Snapshot.allocationOf_mod (cfg : Setup) (n : Snapshot) (b : BayNo) : allocationOf (n.plan cfg).allocation b % 10 = 0 := by
  unfold allocationOf
  cases hx : (n.plan cfg).allocation.find? (·.1 == b) with
  | none => rfl
  | some x =>
    obtain ⟨left, heq⟩ := allocate_mem _ (List.mem_of_find?_eq_some hx)
    simp only [Option.map_some, Option.getD_some, heq]
    exact (takeFrom_range (capAt_mod _ _ _ _) left).1

/-! ### A completion (R96 to R99) -/

/-- A property that a completion's own updates keep too. -/
structure KeptPass (P : State → Prop) : Prop extends Kept P where
  setpoints : ∀ (l : List (BayNo × Nat)) (s : State),
    (allBays.map fun b => siteDraw (allocationOf l b)).sum ≤ s.feed.share → P s → P (s.writeSetpoints l)
  sets : ∀ (high low : List BayNo) (s : State), (∀ b ∈ high, b ∉ low) → P s →
    P { s with boost.high := high, boost.low := low }
  order : ∀ (o : List BayNo) (s : State), o.Nodup → P s → P { s with plan.lastOrder := o }
  startPass : ∀ s : State, P s → P s.startPass
  idle : ∀ s : State, s.plan.again = false → P s → P { s with plan.pass := none }

/-- A property that the moves and late flags of a completion keep, each as a whole, and its other updates too. -/
structure KeptMoves (P : State → Prop) : Prop extends KeptCalm P where
  bindRecord : ∀ (id : Nat) (b : BayNo) (s : State), P s → P (s.bindRecord id b)
  rebindRecord : ∀ (id : Nat) (old new : BayNo) (s : State), P s → P (s.rebindRecord id old new)
  writeLate : ∀ (id : Nat) (b : BayNo) (late : Bool) (s : State), P s → P (s.writeLate id b late)
  setpoints : ∀ (l : List (BayNo × Nat)) (s : State),
    (allBays.map fun b => siteDraw (allocationOf l b)).sum ≤ s.feed.share → (∀ b, allocationOf l b % 10 = 0) → P s →
    P (s.writeSetpoints l)
  sets : ∀ (high low : List BayNo) (s : State), (∀ b ∈ high, b ∉ low) → P s →
    P { s with boost.high := high, boost.low := low }
  order : ∀ (o : List BayNo) (s : State), o.Nodup → P s → P { s with plan.lastOrder := o }
  startPass : ∀ s : State, P s → P s.startPass
  idle : ∀ s : State, s.plan.again = false → P s → P { s with plan.pass := none }

section
variable {P : State → Prop} (h : KeptMoves P) {s : State}
include h

theorem KeptMoves.applyMoves (l : List Move) (hs : P s) : P (l.foldl State.applyMove s) := by
  induction l generalizing s with
  | nil => exact hs
  | cons m ms ih =>
    refine ih ?_
    cases m with
    | bind id b => exact h.bindRecord id b s hs
    | rebind id old new => exact h.rebindRecord id old new s hs

theorem KeptMoves.applyLates (l : List LateFlag) (hs : P s) : P (l.foldl State.applyLate s) := by
  induction l generalizing s with
  | nil => exact hs
  | cons f fs ih => exact ih (h.writeLate _ _ _ _ hs)

theorem KeptMoves.takeSets {high low : List BayNo} (hdisjoint : ∀ b ∈ high, b ∉ low) (hs : P s) :
    P (s.takeSets high low) := by
  have hsets := h.sets high low s hdisjoint hs
  unfold State.takeSets
  dsimp only
  split
  · next hc => exact h.decide _ (.inl hc) hsets
  · split
    · exact hsets
    · exact h.endGrant _ _ rfl hsets
  · exact hsets
  · exact hsets

theorem KeptMoves.applyPlan (n : Snapshot) (hshare : n.share ≤ s.feed.share) (hs : P s) :
    P (s.applyPlan (n.plan s.cfg)) := by
  have hmoves := h.applyMoves (n.plan s.cfg).moves hs
  have hlates := h.applyLates (n.plan s.cfg).lates hmoves
  have hfeed : ((n.plan s.cfg).lates.foldl State.applyLate ((n.plan s.cfg).moves.foldl State.applyMove s)).feed = s.feed := by
    rw [State.applyLates_feed, State.applyMoves_feed]
  have hsetpoints := h.setpoints (n.plan s.cfg).allocation _
    (by rw [hfeed]; exact (n.allocationOf_draw_le s.cfg).trans hshare) (n.allocationOf_mod s.cfg) hlates
  have hsets := h.takeSets (View.high_low_disjoint (cfg := s.cfg) (now := n.now) (v := n.finalView s.cfg)) hsetpoints
  refine h.order _ _ (View.urgency_nodup _ _ _) (h.reshare _ _ ⟨rfl, ?_⟩ hsets)
  exact fun ⟨hlim, hdet, _, hrest⟩ => ⟨hlim, hdet, n.priority_le_demand s.cfg, hrest⟩

theorem KeptMoves.endPass (hs : P s) : P s.endPass := by
  unfold State.endPass
  split
  · exact h.startPass s hs
  · next hno => exact h.idle s (by simp_all) hs

theorem KeptMoves.completePass (hs : P s) : P s.completePass := by
  unfold State.completePass
  split
  · exact hs
  · split
    · exact h.startPass s hs
    · exact h.endPass (h.applyPlan _ (by omega) hs)

end

theorem KeptPass.moves {P : State → Prop} (h : KeptPass P) : KeptMoves P :=
  { h with
    bindRecord := fun id b _ => h.bindRecord id b
    rebindRecord := fun id old new _ => h.rebindRecord id old new
    writeLate := fun id b late _ => h.writeLate id b late
    setpoints := fun l s hl _ => h.setpoints l s hl }

theorem KeptPass.completePass {P : State → Prop} (h : KeptPass P) {s : State} (hs : P s) : P s.completePass := h.moves.completePass hs

/-! ### The step -/

/-- How a command ends: by the edges of RESTART and a write cut short as R172 and R174 say, while RESTART is held asserted
with nothing but a pin changed, and otherwise as an event whose body keeps what its updates keep. -/
inductive ExecCase (c : Instr) (s : State) : State → Prop
  | restart (erase : Bool) : ExecCase c s (s.start erase).settlePass
  | asserted : ExecCase c s { s.restarted with pins.restart := true }
  | cut : ExecCase c s s.cutWrite
  | held (pins : Pins) : s.pins.restart = true → pins.restart = true → ExecCase c s { s.quiet with pins := pins }
  | live {t : State} : s.pins.restart = false → (c ≠ .restartAsserted ∧ ∀ erase, c ≠ .restart erase) →
      (∀ g, c = .setup g → (g.cut && s.bringsWrite g.select) = false) →
      (∀ P : State → Prop, KeptRules P → Covers P c → (∀ g, c = .setup g → UnsetHeld s) → P s.quiet → EndsWith P s t) → ExecCase c s t

theorem execCases {c : Instr} {s t : State} (he : exec c s = .next t) : ExecCase c s t := by
  cases hheld : s.pins.restart with
  | true =>
    cases c with
    | restart erase => exact Host.Outcome.next.inj he ▸ .restart erase
    | restartAsserted => exact Host.Outcome.next.inj he ▸ .asserted
    | selectRelease =>
      obtain rfl := Host.Outcome.next.inj he
      rw [if_pos hheld]
      exact .held { s.pins with select := false } hheld hheld
    | _ =>
      rw [exec_held hheld ⟨by simp, by simp, by simp⟩ he]
      exact .held s.pins hheld hheld
  | false =>
    cases c with
    | restart erase => exact Host.Outcome.next.inj he ▸ .restart erase
    | restartAsserted => exact Host.Outcome.next.inj he ▸ .asserted
    | setup g =>
      by_cases hcut : (g.cut && s.bringsWrite g.select) = true
      · simp only [exec, execSetup, hcut, if_true] at he
        exact Host.Outcome.next.inj he ▸ .cut
      · refine .live hheld ⟨by simp, by simp⟩ (fun g' hg => ?_) fun P h hc hunset hs => h.setup hc (hunset g rfl) hheld (by simpa using hcut) hs he
        obtain rfl := Instr.setup.inj hg
        simpa using hcut
    | _ => exact .live hheld ⟨by simp, by simp⟩ (by simp) fun P h hc hunset hs => h.exec hc hunset hheld rfl hs he

/-- The restart values are those UNSET keeps (R172, R176). -/
theorem State.restarted_unsetHeld (s : State) : UnsetHeld s.restarted := fun _ =>
  ⟨rfl, rfl, rfl, rfl, rfl, rfl, rfl, rfl, rfl, fun b => by simp [BayUnset, State.restarted, State.reset, State.bay]⟩

/-- A property that every step keeps: the rules and the updates of the part's blocks do, a completion, a restart, the entry to
RUN and the millisecond too, and what the property does not read may change. -/
structure Steady (P : State → Prop) : Prop extends KeptRules P where
  outputs : ∀ (o : Outputs) (s : State), P s → P { s with out := o }
  completePass : ∀ s : State, P s → P s.completePass
  create : ∀ (q : Request) (s : State), s.book.check s.cfg q = none → P s →
    P ({ s with book := s.book.insert (s.book.freeId (s.book.records.length + 1) s.book.nextId) q }.request)
  startSend : ∀ (n : Nat) (s : State), P s → P (s.startSend n)
  clearLog : ∀ s : State, P s → P { s with line := { s.line with errorLog := 0, overflowReported := false } }
  unread : ∀ (pins : Pins) (store : SetupStore) (assembly : Option Assembly) (pending : List Instr) (flags : BitVec 34)
    (s : State), P s → P { s with pins, store, assembly, pending, flags }
  settle : ∀ s : State, P s → P s.settlePass
  enterRun : ∀ (record : List Byte) (s : State), UnsetHeld s → s.part = .unset → P s → P (s.enterRun record)
  restarted : ∀ s : State, P s.restarted
  advance : ∀ s : State, P s → P s.advance

section
variable {P : State → Prop} (h : Steady P) {s : State}
include h

theorem Steady.clearFlags (m : List Byte) (hs : P s) : P (s.clearFlags m) := by
  have hflags := h.unread s.pins s.store s.assembly s.pending (s.flags &&& ~~~ maskOfBytes m) s hs
  unfold State.clearFlags
  dsimp only
  split
  · exact h.clearLog _ hflags
  · exact hflags

theorem Steady.setSelect (level : Bool) (hs : P s) : P (s.setSelect level) := by
  unfold State.setSelect
  dsimp only
  split
  · exact h.unread { s.pins with select := level } s.store none s.pending s.flags s hs
  · exact h.unread { s.pins with select := level } s.store s.assembly s.pending s.flags s hs

theorem Steady.takePiece (n : Nat) (content : List Byte) (hunset : UnsetHeld s) (hpart : s.part = .unset) (hs : P s) :
    P (s.takePiece n content) := by
  have hassembly : ∀ a, P { s with assembly := a } := fun a => h.unread s.pins s.store a s.pending s.flags s hs
  unfold State.takePiece
  split
  · split
    · split
      · unfold State.finishAssembly
        dsimp only
        split
        · exact h.raise _ _ (h.enterRun _ _ hunset hpart (h.unread s.pins (storeOf _) s.assembly s.pending s.flags s hs))
        · exact hassembly _
      · exact hassembly _
    · exact hassembly _
  · exact hassembly _

theorem Steady.covers (c : Instr) : Covers P c where
  new _ := h.create
  pass _ _ hs := h.completePass _ hs
  send n _ s hs := h.startSend n s hs
  clear _ m _ hs := h.clearFlags m hs
  select _ level _ hs := h.setSelect level hs
  piece _ n content _ hunset hpart hs := h.takePiece n content hunset hpart hs

theorem Steady.finish (reply : Option BayNo) (s₀ : State) (hs : P s) : P (State.finish reply s₀ s) :=
  h.outputs _ _ (h.settle s hs)

theorem Steady.start (erase : Bool) (s : State) : P (s.start erase) := by
  have hrestarted := h.unread { s.pins with restart := false, erase := erase } s.store none s.pending 0 _ (h.restarted s)
  unfold State.start
  dsimp only
  split
  · exact h.enterRun _ _ (s.restarted_unsetHeld) rfl hrestarted
  · exact h.unread { s.pins with restart := false, erase := erase } .empty none s.pending 0 _ (h.restarted s)

theorem Steady.cutWrite (s : State) : P s.cutWrite :=
  h.useFree 44 _ (h.unread { s.pins with restart := true, select := true } (cutStore s.free) none s.pending 0 _ (h.restarted s))

theorem Steady.exec {c : Instr} {t : State} (hunset : UnsetHeld s) (hs : P s) (he : Sys2Proof.Machine.exec c s = .next t) :
    P t := by
  have hquiet : P s.quiet := h.outputs .quiet s hs
  cases execCases he with
  | restart erase => exact h.settle _ (h.start erase s)
  | asserted => exact h.unread { s.pins with restart := true } s.store none s.pending 0 _ (h.restarted s)
  | cut => exact h.cutWrite s
  | held pins _ => exact h.unread pins s.store s.assembly s.pending s.flags _ hquiet
  | live _ _ _ hends =>
    obtain ⟨reply, u, hu, rfl⟩ := hends P h.toKeptRules (h.covers c) (fun _ _ => hunset) hquiet
    exact h.finish reply s hu

theorem Steady.tick (hs : P s) : P s.tick := by
  have hquiet : P s.quiet := h.outputs .quiet s hs
  unfold State.tick
  dsimp only
  split
  · exact hquiet
  · have hon := h.advance _ hquiet
    generalize s.quiet.advance = u at hon
    exact h.unread u.pins u.store u.assembly _ u.flags _ (h.useFree _ _ hon)

/-- Every step of a part whose UNSET blocks are at their restart values keeps the property. -/
theorem Steady.step {t : State} (hunset : UnsetHeld s) (hs : P s) (he : Sys2Proof.Machine.step s = .next t) : P t := by
  unfold Sys2Proof.Machine.step at he
  split at he
  · obtain rfl := Host.Outcome.next.inj he
    exact h.tick hs
  · next c rest _ =>
    exact h.exec (s := { s with pending := rest }) hunset (h.unread s.pins s.store s.assembly rest s.flags s hs) he

end

/-- A property that every step keeps because every single update does. -/
structure Lasting (P : State → Prop) : Prop extends KeptPass P where
  outputs : ∀ (o : Outputs) (s : State), P s → P { s with out := o }
  create : ∀ (q : Request) (s : State), s.book.check s.cfg q = none → P s →
    P ({ s with book := s.book.insert (s.book.freeId (s.book.records.length + 1) s.book.nextId) q }.request)
  startSend : ∀ (n : Nat) (s : State), P s → P (s.startSend n)
  clearLog : ∀ s : State, P s → P { s with line := { s.line with errorLog := 0, overflowReported := false } }
  unread : ∀ (pins : Pins) (store : SetupStore) (assembly : Option Assembly) (pending : List Instr) (flags : BitVec 34)
    (s : State), P s → P { s with pins, store, assembly, pending, flags }
  settle : ∀ s : State, P s → P s.settlePass
  enterRun : ∀ (record : List Byte) (s : State), UnsetHeld s → s.part = .unset → P s → P (s.enterRun record)
  restarted : ∀ s : State, P s.restarted
  advance : ∀ s : State, P s → P s.advance

theorem Lasting.steady {P : State → Prop} (h : Lasting P) : Steady P :=
  { h.toKept.rules with
    outputs := h.outputs
    completePass := fun _ => h.completePass
    create := h.create
    startSend := h.startSend
    clearLog := h.clearLog
    unread := h.unread
    settle := h.settle
    enterRun := h.enterRun
    restarted := h.restarted
    advance := h.advance }

theorem Lasting.step {P : State → Prop} (h : Lasting P) {s t : State} (hunset : UnsetHeld s) (hs : P s)
    (he : Sys2Proof.Machine.step s = .next t) : P t := h.steady.step hunset hs he

end Sys2Proof.Machine
end

section
/-! SUPPORT. The Line Controller, the Feed Share Unit, the setpoints, the Boost Arbiter, the book, the slots, the planner and
the templates: what each keeps at every step. -/

namespace Sys2Proof.Machine

open Sys2Proof.Machine.Safety

/-! ### Properties that do not read the line -/

/-- A property that reads neither the outputs, nor the line, the flags and the count of free values. -/
structure KeptAside (P : State → Prop) : Prop where
  aside : ∀ (out : Outputs) (line : LineController) (flags : BitVec 34) (free : Nat) (s : State), P s →
    P { s with out, line, flags, free }

section
variable {P : State → Prop} (h : KeptAside P) {s : State}
include h

theorem KeptAside.line (l : LineController) (hs : P s) : P { s with line := l } := h.aside s.out l s.flags s.free s hs

theorem KeptAside.post (f : OutFrame) (hs : P s) : P (s.post f) := by
  unfold State.post
  split
  · exact hs
  · exact h.line _ hs

theorem KeptAside.raise (n : Notice) (hs : P s) : P (s.raise n) := by
  have hflags := h.aside s.out s.line (setFlag n.code s.flags) s.free s hs
  unfold State.raise
  dsimp only
  split
  · exact hflags
  · exact h.post _ hflags

theorem KeptAside.startSend (n : Nat) (hs : P s) : P (s.startSend n) := by
  unfold State.startSend
  split
  · split
    · exact hs
    · exact h.aside _ _ s.flags _ s hs
  · exact hs

end

/-- Such a property that the updates of the other blocks keep, where they move no bay but by the removal of a record. -/
structure CalmApart (P : State → Prop) : Prop extends KeptAside P where
  request : ∀ s : State, P s → P s.request
  removeRecord : ∀ (r : Reservation) (s : State), r ∈ s.book.records → r.atDoor = false → P s → P (s.removeRecord r)
  expire : ∀ (r : Reservation) (s : State), r ∈ s.book.records → r.atDoor = false → P s → P (s.expire r)
  unknown : ∀ s : State, P s → P { s with book.unknownReleases := addTo255 s.book.unknownReleases 1 }
  endGrant : ∀ (c : Converter) (s : State), c.holder = none → P s → P (s.endGrant c)
  fault : ∀ s : State, s.boost.converter.holder = none → P s → P { s with boost.converter := .faulted }
  renew : ∀ (h : BayNo) (n m : Nat) (s : State), s.boost.converter = .granted h n → P s →
    P { s with boost.converter := .granted h m }
  decide : ∀ s : State, (s.boost.converter = .idle ∨ ∃ n, s.boost.converter = .switching n) → P s → P s.decideGrant
  reshare : ∀ (f : Feed) (s : State), FeedEdit s f → P s → P (s.reshare f)
  claimTimer : ∀ (t : Option Nat) (s : State), P s → P { s with feed.claimTimer := t }
  templates : ∀ (ts : TemplateStore) (s : State), (TemplatesSound s → TemplatesSound { s with ts := ts }) → P s →
    P { s with ts := ts }
  setSlot : ∀ (i : SlotNo) (x : Option Slot) (s : State), (SlotsSound s → SlotsSound (s.setSlot i x)) → P s →
    P (s.setSlot i x)
  dropped : ∀ s : State, P s → P { s with asks.dropped := addTo255 s.asks.dropped 1 }

section
variable {P : State → Prop} (h : CalmApart P) {s : State}
include h

theorem CalmApart.tellLineState {l : LineState} (hl : l = s.line.state) (hs : P s) : P (s.tellLineState l) := by
  subst hl
  unfold State.tellLineState
  split
  · exact hs
  · dsimp only
    split
    · exact hs
    · refine h.reshare { s.feed with detached := s.line.state == .detached } s ⟨rfl, ?_⟩ hs
      exact fun ⟨hlim, _, hrest⟩ => ⟨hlim, fun _ => beq_eq_decide _ _, hrest⟩

theorem CalmApart.recount (send recv : Nat) (st : LineState) (gaps : Option Nat) (hs : P s) :
    P ((s.setLine send recv st gaps).setCaution) := by
  have hcaution : ∀ u, P u → P u.setCaution := by
    intro u hu
    unfold State.setCaution
    dsimp only
    split
    · exact h.raise _ (h.line _ hu)
    · exact h.line _ hu
  refine hcaution _ ?_
  unfold State.setLine
  dsimp only
  split
  · exact h.line _ hs
  · exact h.raise _ (h.tellLineState rfl (h.line _ hs))

/-- Such a property is kept by every update that moves no bay. -/
theorem CalmApart.calm : KeptCalm P :=
  { h with
    out := fun o s _ _ => h.aside o s.line s.flags s.free s
    raise := fun n _ => h.raise n
    post := fun f _ => h.post f
    useFree := fun n s => h.aside s.out s.line s.flags (s.free + n) s
    popAsk := fun _ => h.line _
    popPeer := fun _ => h.line _
    relined := fun l _ _ _ => h.line l
    recount := fun send recv st gaps _ _ => h.recount send recv st gaps }

end

/-- Such a property that the updates of the other blocks keep, whatever bay or record they move. -/
structure KeptApart (P : State → Prop) : Prop extends KeptAside P where
  request : ∀ s : State, P s → P s.request
  enterBay : ∀ (b : BayNo) (n : BayState) (s : State), P s → P (s.enterBay b n)
  putBay : ∀ (b : BayNo) (x : Bay) (s : State), x.SameDuty (s.bay b) → P s → P (s.setBay b x)
  edit : ∀ (id : Nat) (f : Reservation → Reservation) (s : State), RecordEdit id f s → P s → P (s.updateRecord id f)
  drop : ∀ (r : Reservation) (e : List Nat) (s : State), r ∈ s.book.records →
    e = s.book.expired ∨ e = pushExpired r.token s.book.expired → P s → P (s.dropRecord r e)
  unknown : ∀ s : State, P s → P { s with book.unknownReleases := addTo255 s.book.unknownReleases 1 }
  endGrant : ∀ (c : Converter) (s : State), c.holder = none → P s → P (s.endGrant c)
  fault : ∀ s : State, s.boost.converter.holder = none → P s → P { s with boost.converter := .faulted }
  renew : ∀ (h : BayNo) (n m : Nat) (s : State), s.boost.converter = .granted h n → P s →
    P { s with boost.converter := .granted h m }
  decide : ∀ s : State, (s.boost.converter = .idle ∨ ∃ n, s.boost.converter = .switching n) → P s → P s.decideGrant
  reshare : ∀ (f : Feed) (s : State), FeedEdit s f → P s → P (s.reshare f)
  claimTimer : ∀ (t : Option Nat) (s : State), P s → P { s with feed.claimTimer := t }
  templates : ∀ (ts : TemplateStore) (s : State), (TemplatesSound s → TemplatesSound { s with ts := ts }) → P s →
    P { s with ts := ts }
  setSlot : ∀ (i : SlotNo) (x : Option Slot) (s : State), (SlotsSound s → SlotsSound (s.setSlot i x)) → P s →
    P (s.setSlot i x)
  dropped : ∀ s : State, P s → P { s with asks.dropped := addTo255 s.asks.dropped 1 }

section
variable {P : State → Prop} (h : KeptApart P) {s : State}
include h

theorem KeptApart.releaseOf (r : Reservation) (hs : P s) : P (s.releaseOf r) := by
  have hrelease : ∀ (b : BayNo), P (s.releaseBay b) := by
    intro b
    unfold State.releaseBay
    split
    · exact h.enterBay _ _ _ hs
    · exact h.enterBay _ _ _ hs
    · exact hs
  unfold State.releaseOf
  split
  · exact hrelease _
  · exact hrelease _
  · exact hs

theorem KeptApart.removeRecord {r : Reservation} (hr : r ∈ s.book.records) (hs : P s) : P (s.removeRecord r) := by
  rw [State.removeRecord_eq]
  exact h.drop _ _ _ (by rwa [State.releaseOf_book]) (.inl (by rw [State.releaseOf_book])) (h.releaseOf r hs)

theorem KeptApart.expire {r : Reservation} (hr : r ∈ s.book.records) (hs : P s) : P (s.expire r) := by
  rw [State.expire_eq]
  exact h.raise _
    (h.drop _ _ _ (by rwa [State.releaseOf_book]) (.inr (by rw [State.releaseOf_book])) (h.releaseOf r hs))

theorem KeptApart.calm : KeptCalm P :=
  CalmApart.calm { h with
    removeRecord := fun _ _ hr _ => h.removeRecord hr
    expire := fun _ _ hr _ => h.expire hr }

/-- A record unbound is PENDING and not at the door, whichever came first (R46). -/
theorem KeptApart.unbind (id : Nat) (b : BayNo) (hs : P s) : P (s.unbind id b) := by
  obtain ⟨-, heq⟩ | ⟨r, hr, -, heq⟩ := State.unbind_cases id b s <;> rw [heq]
  · exact hs
  · have hpending : P (s.request.updateRecord id fun r => { r with state := .pending, late := false, atDoor := false }) :=
      h.edit _ _ _ ⟨by simp, by simp, .inr rfl⟩ (h.request s hs)
    dsimp only
    split
    · exact h.calm.expiryCheck id hpending
    · exact hpending

theorem KeptApart.doorClear (id : Nat) (hs : P s) : P (s.doorClear id) := by
  obtain heq | ⟨r, hr, -, heq⟩ := State.doorClear_cases id s <;> rw [heq]
  · exact hs
  · refine h.calm.expiryCheck id (h.edit _ _ _ ⟨by simp, fun q hq hlate => ?_, .inl fun _ => rfl⟩ hs)
    exact hlate

/-- Such a property is kept by every update of the part's blocks. -/
theorem KeptApart.kept : Kept P :=
  { h.calm with
    enterBay := h.enterBay
    putBay := h.putBay
    edit := fun id f s hf _ => h.edit id f s hf
    unbind := fun id b _ => h.unbind id b
    doorClear := fun id _ => h.doorClear id
    removeAtDoor := fun _ _ => h.removeRecord }

end

/-! ### What a recomputed share leaves alone (R132) -/

/-- A recomputed share may lower setpoints and request a pass. -/
theorem State.reshare_eq (f : Feed) (s : State) :
    ∃ (v : Vector Bay 12) (q : Bool),
      s.reshare f = { s with bays := v, feed := { f with share := f.shareNow s.cfg }, plan := { s.plan with requested := q } } ∧
      ∀ b : BayNo, ∃ p, p ≤ (s.bay b).setpoint ∧ v[b] = { s.bay b with setpoint := p } :=
  State.recomputeShare_eq { s with feed := f }

/-- A decision sets the converter and the ring pointers, and may grant the boost field of one bay and request a pass. -/
theorem State.decideGrant_eq (s : State) :
    ∃ (bays : Vector Bay 12) (q : Bool) (a : Arbiter),
      s.decideGrant = { s with bays := bays, plan := { s.plan with requested := q }, boost := a } := by
  unfold State.decideGrant
  split
  · exact ⟨_, true, _, rfl⟩
  · exact ⟨s.bays, s.plan.requested, _, rfl⟩

/-- The end of a grant touches the holder's bay, the converter and the request for a pass alone. -/
theorem State.endGrant_frame (c : Converter) (s : State) :
    ∃ (bays : Vector Bay 12) (q : Bool) (a : Arbiter),
      s.endGrant c = { s with bays := bays, plan := { s.plan with requested := q }, boost := a } := by
  unfold State.endGrant
  split
  · exact ⟨s.bays, s.plan.requested, s.boost, rfl⟩
  · exact ⟨_, true, _, rfl⟩

section
variable (f : Feed) (s : State)

@[simp] theorem State.reshare_part : (s.reshare f).part = s.part := by
  obtain ⟨v, q, heq, -⟩ := s.reshare_eq f; rw [heq]

@[simp] theorem State.reshare_cfg : (s.reshare f).cfg = s.cfg := by
  obtain ⟨v, q, heq, -⟩ := s.reshare_eq f; rw [heq]

@[simp] theorem State.reshare_book : (s.reshare f).book = s.book := by
  obtain ⟨v, q, heq, -⟩ := s.reshare_eq f; rw [heq]

@[simp] theorem State.reshare_asks : (s.reshare f).asks = s.asks := by
  obtain ⟨v, q, heq, -⟩ := s.reshare_eq f; rw [heq]

@[simp] theorem State.reshare_boost : (s.reshare f).boost = s.boost := by
  obtain ⟨v, q, heq, -⟩ := s.reshare_eq f; rw [heq]

@[simp] theorem State.reshare_ts : (s.reshare f).ts = s.ts := by
  obtain ⟨v, q, heq, -⟩ := s.reshare_eq f; rw [heq]

@[simp] theorem State.reshare_line : (s.reshare f).line = s.line := by
  obtain ⟨v, q, heq, -⟩ := s.reshare_eq f; rw [heq]

end

@[simp] theorem State.dropRecord_ts (r : Reservation) (e : List Nat) (s : State) : (s.dropRecord r e).ts = s.ts := rfl
@[simp] theorem State.dropRecord_line (r : Reservation) (e : List Nat) (s : State) : (s.dropRecord r e).line = s.line := rfl

theorem State.part_cases (s : State) : s.part = .unset ∨ s.part = .run := by cases s.part <;> simp

/-- What a millisecond touches; in RUN each block's own timers and ages. -/
theorem State.advance_eq (s : State) :
    ∃ (asks : AskTable) (plan : Planner) (boost : Arbiter) (feed : Feed) (ts : TemplateStore),
      s.advance = { s with
        clock := s.clock.tick, bays := Vector.ofFn fun i => (s.bays[i]).tick, asks, plan, boost, feed, ts } ∧
      (s.part = .unset → asks = s.asks ∧ plan = s.plan ∧ boost = s.boost ∧ feed = s.feed ∧ ts = s.ts) ∧
      (s.part = .run → asks = s.asks.tick ∧ plan = s.plan.tick ∧
        boost = { s.boost with converter := s.boost.converter.tick } ∧ feed = s.feed.tick ∧
        (ts = s.ts.tick ∨ ∃ l, ts = s.ts.tick.reach s.cfg l)) := by
  unfold State.advance
  cases hp : s.part with
  | unset => exact ⟨_, _, _, _, _, rfl, fun _ => ⟨rfl, rfl, rfl, rfl, rfl⟩, by simp⟩
  | run =>
    dsimp only
    split
    · unfold State.reachSecond
      split
      · exact ⟨_, _, _, _, _, rfl, by simp, fun _ => ⟨rfl, rfl, rfl, rfl, .inr ⟨_, rfl⟩⟩⟩
      · exact ⟨_, _, _, _, _, rfl, by simp, fun _ => ⟨rfl, rfl, rfl, rfl, .inl rfl⟩⟩
    · exact ⟨_, _, _, _, _, rfl, by simp, fun _ => ⟨rfl, rfl, rfl, rfl, .inl rfl⟩⟩

theorem State.settlePass_eq (s : State) : s.settlePass = { s with plan := s.settlePass.plan } := by
  unfold State.settlePass
  split
  · split <;> rfl
  · rfl

/-! ### The Template Store (R150) -/

theorem templatesSound_congr {s t : State} (h : t.ts = s.ts) (hs : TemplatesSound s) : TemplatesSound t := by
  unfold TemplatesSound
  rwa [h]

theorem templatesSound_apart : KeptApart TemplatesSound where
  aside _ _ _ _ _ hs := hs
  request _ hs := hs
  enterBay b n s := templatesSound_congr (by simp)
  putBay _ _ _ _ hs := hs
  edit _ _ _ _ hs := hs
  drop _ _ _ _ _ hs := hs
  unknown _ hs := hs
  endGrant c s _ := templatesSound_congr (by simp)
  fault _ _ hs := hs
  renew _ _ _ _ _ hs := hs
  decide s _ := templatesSound_congr (by simp)
  reshare f s _ := templatesSound_congr (by simp)
  claimTimer _ _ hs := hs
  templates _ _ h hs := h hs
  setSlot _ _ _ _ hs := hs
  dropped _ hs := hs

theorem templatesSound_lasting : Lasting TemplatesSound where
  toKept := templatesSound_apart.kept
  setpoints _ _ _ hs := hs
  sets _ _ _ _ hs := hs
  order _ _ _ hs := hs
  startPass _ hs := hs
  idle _ _ hs := hs
  create _ _ _ hs := hs
  startSend n _ := templatesSound_apart.startSend n
  clearLog _ hs := hs
  unread _ _ _ _ _ _ hs := hs
  outputs _ _ hs := hs
  settle s := templatesSound_congr (by rw [State.settlePass_eq])
  enterRun _ _ _ _ hs := hs
  restarted s t x hx := by simp [State.restarted, State.reset, TemplateStore.restart] at hx
  advance s hs := by
    obtain ⟨asks, plan, boost, feed, ts, heq, hunset, hrun⟩ := s.advance_eq
    rw [heq]
    cases hp : s.part with
    | unset =>
      obtain ⟨-, -, -, -, rfl⟩ := hunset hp
      exact hs
    | run =>
      obtain ⟨-, -, -, -, rfl | ⟨l, rfl⟩⟩ := hrun hp
      · exact hs
      · intro t x hx
        obtain ⟨y, hy, rfl⟩ : ∃ y, s.ts.slots[t] = some y ∧ y.reach s.cfg l = x := by
          simpa [TemplateStore.reach, TemplateStore.tick] using hx
        have := hs t y hy
        unfold Template.reach
        split <;> exact this

/-! ### The planner (R82, R84, R88) -/

/-- What `PlanSound` says within an event, while a request may stand open. -/
def PlanInEvent (s : State) : Prop :=
  (s.plan.again = true → s.plan.pass.isSome = true) ∧ (s.part = .run → s.plan.period.isSome = true) ∧ s.plan.lastOrder.Nodup

theorem planInEvent_congr {s t : State} (h : ∃ q, t.plan = { s.plan with requested := q }) (hpart : t.part = s.part)
    (hs : PlanInEvent s) : PlanInEvent t := by
  obtain ⟨q, hplan⟩ := h
  unfold PlanInEvent
  rw [hplan, hpart]
  exact hs

theorem planInEvent_apart : KeptApart PlanInEvent where
  aside _ _ _ _ _ hs := hs
  request _ hs := hs
  enterBay b n s hs := by rw [State.enterBay_eq]; exact hs
  putBay _ _ _ _ hs := hs
  edit _ _ _ _ hs := hs
  drop _ _ _ _ _ hs := hs
  unknown _ hs := hs
  endGrant c s _ hs := by
    obtain ⟨v, q, a, heq⟩ := s.endGrant_frame c
    rw [heq]; exact hs
  fault _ _ hs := hs
  renew _ _ _ _ _ hs := hs
  decide s _ hs := by
    obtain ⟨v, q, a, heq⟩ := s.decideGrant_eq
    rw [heq]; exact hs
  reshare f s _ hs := by
    obtain ⟨v, q, heq, -⟩ := s.reshare_eq f
    rw [heq]; exact hs
  claimTimer _ _ hs := hs
  templates _ _ _ hs := hs
  setSlot _ _ _ _ hs := hs
  dropped _ hs := hs

theorem planInEvent_startPass {s : State} (hs : PlanInEvent s) : PlanInEvent s.startPass :=
  ⟨fun _ => rfl, fun _ => rfl, hs.2.2⟩

theorem planInEvent_lasting : Lasting PlanInEvent where
  toKept := planInEvent_apart.kept
  setpoints _ _ _ hs := hs
  sets _ _ _ _ hs := hs
  order _ _ ho hs := ⟨hs.1, hs.2.1, ho⟩
  startPass _ := planInEvent_startPass
  idle s hno hs := ⟨fun h => by simp [hno] at h, hs.2⟩
  create _ _ _ hs := hs
  startSend n _ := planInEvent_apart.startSend n
  clearLog _ hs := hs
  unread _ _ _ _ _ _ hs := hs
  outputs _ _ hs := hs
  settle s hs := by
    unfold State.settlePass
    split
    · split
      · exact hs
      · exact planInEvent_startPass hs
      · next hpass => exact ⟨fun _ => by simp [hpass], hs.2⟩
    · exact hs
  enterRun _ _ _ _ hs := ⟨hs.1, fun _ => rfl, hs.2.2⟩
  restarted s := ⟨by simp [State.restarted, State.reset, Planner.restart],
    by simp [State.restarted, State.reset], by simp [State.restarted, State.reset, Planner.restart]⟩
  advance s hs := by
    obtain ⟨asks, plan, boost, feed, ts, heq, hunset, hrun⟩ := s.advance_eq
    rw [heq]
    cases hp : s.part with
    | unset =>
      obtain ⟨-, rfl, -, -, -⟩ := hunset hp
      exact ⟨hs.1, by simp [hp], hs.2.2⟩
    | run =>
      obtain ⟨-, rfl, -⟩ := hrun hp
      exact ⟨by simpa [Planner.tick] using hs.1, by simpa [hp, Planner.tick, countDown] using hs.2.1 hp, hs.2.2⟩

/-! ### Requests are met by the end of a step (R84) -/

theorem true_apart : KeptApart fun _ => True where
  aside := by simp
  request := by simp
  enterBay := by simp
  putBay := by simp
  edit := by simp
  drop := by simp
  unknown := by simp
  endGrant := by simp
  fault := by simp
  renew := by simp
  decide := by simp
  reshare := by simp
  claimTimer := by simp
  templates := by simp
  setSlot := by simp
  dropped := by simp

@[simp] theorem State.settlePass_requested (s : State) : s.settlePass.plan.requested = false := by
  unfold State.settlePass
  split
  · split <;> rfl
  · simp_all

theorem exec_settles {c : Instr} {s t : State} (hunset : UnsetHeld s) (hs : s.plan.requested = false)
    (he : exec c s = .next t) : t.plan.requested = false := by
  cases execCases he with
  | restart erase => simp
  | asserted => rfl
  | cut => rfl
  | held pins _ => exact hs
  | live _ _ _ hends =>
    obtain ⟨reply, u, -, rfl⟩ := hends _ true_apart.kept.rules ⟨by simp, by simp, by simp, by simp, by simp, by simp⟩
      (fun _ _ => hunset) trivial
    simp [State.finish]

theorem step_settles {s t : State} (hunset : UnsetHeld s) (hs : s.plan.requested = false) (he : step s = .next t) :
    t.plan.requested = false := by
  unfold step at he
  split at he
  · obtain rfl := Host.Outcome.next.inj he
    unfold State.tick
    dsimp only
    split
    · exact hs
    · obtain ⟨asks, plan, boost, feed, ts, heq, hrest, hrun⟩ := s.quiet.advance_eq
      rw [heq]
      cases hp : s.part with
      | unset => rw [(hrest hp).2.1]; exact hs
      | run => rw [(hrun hp).2.1]; exact hs
  · next c rest _ => exact exec_settles (s := { s with pending := rest }) hunset hs he

/-! ### The Held Answer Table (R61) -/

theorem slotsSound_congr {s t : State} (hbook : t.book = s.book) (hasks : t.asks = s.asks) (hs : SlotsSound s) :
    SlotsSound t := by
  unfold SlotsSound
  rwa [hbook, hasks]

/-- Whether a record of an id is in the book can be told from the ids alone. -/
theorem Book.byId_isSome {k : Book} {id : Nat} : (k.byId id).isSome = true ↔ id ∈ k.records.map (·.id) := by
  simp [Book.byId, List.find?_isSome]

/-- A change of a record does not change its id. -/
theorem State.updateRecord_ids {s : State} {id : Nat} {f : Reservation → Reservation} (hf : ∀ r, (f r).id = r.id) :
    (s.updateRecord id f).book.records.map (·.id) = s.book.records.map (·.id) := by
  simp only [State.updateRecord, List.map_map]
  refine List.map_congr_left fun r _ => ?_
  simp only [Function.comp]
  split
  · exact hf r
  · rfl

/-- The table of a part whose book holds the same ids, or more. -/
theorem slotsSound_book {s t : State} (hasks : t.asks = s.asks)
    (hbook : ∀ id ∈ s.book.records.map (·.id), id ∈ t.book.records.map (·.id)) (hs : SlotsSound s) : SlotsSound t := by
  obtain ⟨hunique, hslots, hdropped⟩ := hs
  rw [SlotsSound, hasks]
  refine ⟨hunique, fun i x hx => ?_, hdropped⟩
  obtain ⟨hwon, hrest⟩ := hslots i x hx
  exact ⟨fun id off k d he => Book.byId_isSome.2 (hbook id (Book.byId_isSome.1 (hwon id off k d he))), hrest⟩

theorem Slot.forget_ask (id : Nat) (x : Slot) :
    (x.forget id).terminal = x.terminal ∧ (x.forget id).ask = x.ask ∧ (x.forget id).own = x.own := by
  unfold Slot.forget
  split
  · split <;> exact ⟨rfl, rfl, rfl⟩
  · exact ⟨rfl, rfl, rfl⟩

/-- A slot that is told of a removal is as sound without the record (R80). -/
theorem slotSound_forget {k : Book} {r : Reservation} {e : List Nat} {x : Slot} (hx : SlotSound k x) :
    SlotSound { k.remove r with expired := e } (x.forget r.id) := by
  obtain ⟨hwon, hown, hnone⟩ := hx
  have hkept : ∀ id off w d, x.state = .won id off w d → r.id ≠ id →
      (Book.byId { k.remove r with expired := e } id).isSome = true := by
    intro id off w d he hne
    obtain ⟨q, hq, rfl⟩ := List.mem_map.1 (Book.byId_isSome.1 (hwon id off w d he))
    exact Book.byId_isSome.2 (List.mem_map.2 ⟨q, by simp [Book.remove, hq, hne.symm], rfl⟩)
  unfold Slot.forget
  split
  · next n off w d he =>
    split
    · exact ⟨by simp, by simp, by simp⟩
    · next hne =>
      refine ⟨fun id off' w' d' he' => hkept id off' w' d' he' fun hr => ?_, hown, hnone⟩
      obtain ⟨hn, -⟩ := SlotState.won.inj (he.symm.trans he')
      exact hne (hn.trans hr.symm)
  · next hno => exact ⟨fun id off w d he => absurd he (hno id off w d), hown, hnone⟩

theorem slotsSound_drop {s : State} {r : Reservation} {e : List Nat} (hs : SlotsSound s) : SlotsSound (s.dropRecord r e) := by
  obtain ⟨hunique, hslots, hdropped⟩ := hs
  have hget : ∀ (i : SlotNo) (y : Slot), (s.dropRecord r e).asks.slots[i] = some y →
      ∃ x, s.asks.slots[i] = some x ∧ x.forget r.id = y := by
    intro i y hy
    simpa [State.dropRecord, State.tellRemoved, State.request] using hy
  refine ⟨fun i j y z hy hz ht ha => ?_, fun i y hy => ?_, hdropped⟩
  · obtain ⟨x, hx, rfl⟩ := hget i y hy
    obtain ⟨w, hw, rfl⟩ := hget j z hz
    obtain ⟨hxt, hxa, -⟩ := Slot.forget_ask r.id x
    obtain ⟨hwt, hwa, -⟩ := Slot.forget_ask r.id w
    exact hunique i j x w hx hw (hxt.symm.trans (ht.trans hwt)) (hxa.symm.trans (ha.trans hwa))
  · obtain ⟨x, hx, rfl⟩ := hget i y hy
    exact slotSound_forget (hslots i x hx)

theorem slotsSound_apart : KeptApart SlotsSound where
  aside _ _ _ _ _ hs := hs
  request _ hs := hs
  enterBay b n s := slotsSound_congr (by simp) (by simp)
  putBay _ _ _ _ hs := hs
  edit id f s hf := slotsSound_book rfl fun n hn => by rwa [State.updateRecord_ids fun r => (hf.made r).1]
  drop _ _ _ _ _ := slotsSound_drop
  unknown _ hs := hs
  endGrant c s _ := slotsSound_congr (by simp) (by simp)
  fault _ _ hs := hs
  renew _ _ _ _ _ hs := hs
  decide s _ := slotsSound_congr (by simp) (by simp)
  reshare f s _ := slotsSound_congr (by simp) (by simp)
  claimTimer _ _ hs := hs
  templates _ _ _ hs := hs
  setSlot _ _ _ h hs := h hs
  dropped s hs := ⟨hs.1, hs.2.1, Nat.min_le_left _ _⟩

theorem Slot.tick_sound {k : Book} {x : Slot} (hx : SlotSound k x) : SlotSound k { x with state := x.state.tick } := by
  obtain ⟨hwon, hown, hnone⟩ := hx
  cases he : x.state with
  | bidding t => exact ⟨by simp [SlotState.tick], hown, by simp [SlotState.tick]⟩
  | won id off w d =>
    refine ⟨fun id' off' w' d' h => ?_, hown, by simp [SlotState.tick]⟩
    obtain ⟨rfl, -⟩ := SlotState.won.inj h
    exact hwon id off w d he
  | lost d => exact ⟨by simp [SlotState.tick], hown, by simp [SlotState.tick]⟩
  | none d => exact ⟨by simp [SlotState.tick], hown, fun _ _ => hnone d he⟩

theorem slotsSound_tick {s : State} (hs : SlotsSound s) : SlotsSound { s with asks := s.asks.tick } := by
  obtain ⟨hunique, hslots, hdropped⟩ := hs
  have hget : ∀ (i : SlotNo) (y : Slot), s.asks.tick.slots[i] = some y →
      ∃ x, s.asks.slots[i] = some x ∧ { x with state := x.state.tick } = y := by
    intro i y hy
    simpa [AskTable.tick] using hy
  refine ⟨fun i j y z hy hz ht ha => ?_, fun i y hy => ?_, hdropped⟩
  · obtain ⟨x, hx, rfl⟩ := hget i y hy
    obtain ⟨w, hw, rfl⟩ := hget j z hz
    exact hunique i j x w hx hw ht ha
  · obtain ⟨x, hx, rfl⟩ := hget i y hy
    exact Slot.tick_sound (hslots i x hx)

theorem slotsSound_lasting : Lasting SlotsSound where
  toKept := slotsSound_apart.kept
  setpoints _ _ _ hs := hs
  sets _ _ _ _ hs := hs
  order _ _ _ hs := hs
  startPass _ hs := hs
  idle _ _ hs := hs
  create q s _ := slotsSound_book rfl fun id hid => by
    obtain ⟨r, hr, rfl⟩ := List.mem_map.1 hid
    exact List.mem_map.2 ⟨r, mem_insertRecord.2 (.inr hr), rfl⟩
  startSend n _ := slotsSound_apart.startSend n
  clearLog _ hs := hs
  unread _ _ _ _ _ _ hs := hs
  outputs _ _ hs := hs
  settle s := slotsSound_congr (by rw [State.settlePass_eq]) (by rw [State.settlePass_eq])
  enterRun _ _ _ _ hs := hs
  restarted s := ⟨by simp [State.restarted, State.reset, AskTable.restart],
    by simp [State.restarted, State.reset, AskTable.restart], by simp [State.restarted, State.reset, AskTable.restart]⟩
  advance s hs := by
    obtain ⟨asks, plan, boost, feed, ts, heq, hunset, hrun⟩ := s.advance_eq
    rw [heq]
    cases hp : s.part with
    | unset =>
      obtain ⟨rfl, -⟩ := hunset hp
      exact hs
    | run =>
      obtain ⟨rfl, -⟩ := hrun hp
      exact slotsSound_tick hs

/-- Settles O8: each of the three by the updates that every step is made of. -/
theorem asksPlannerAndTemplatesStaySound : Obligations.AsksPlannerAndTemplatesStaySound := by
  intro s t hs he
  have hunset := hs.start.1
  obtain ⟨hsettled, hplan⟩ := hs.plan
  exact ⟨slotsSound_lasting.step hunset hs.slots he,
    ⟨step_settles hunset hsettled he, planInEvent_lasting.step hunset hplan he⟩,
    templatesSound_lasting.step hunset hs.templates he⟩

end Sys2Proof.Machine
end

section
/-! SUPPORT. The Line Controller and the Feed Share Unit: what every step keeps of each (R119 to R132, R162 to R169). -/

namespace Sys2Proof.Machine

open Sys2Proof.Machine.Safety

/-! ### The queues of the Line Controller (R166 to R169) -/

/-- The number of DRAW CLAIMs queued to be sent. -/
def LineController.claims (l : LineController) : Nat := (l.outQueue.filter (·.frame.isDrawClaim)).length

/-- What `LineSound` says of the queues and their lost counts. -/
def LineQueues (l : LineController) : Prop :=
  (l.askQueue.length ≤ 8 ∧ l.peerQueue.length ≤ 16 ∧ l.outQueue.length ≤ 8) ∧ l.claims ≤ 1 ∧
  (l.asksLost ≤ 255 ∧ l.peerLost ≤ 255 ∧ l.noticesLost ≤ 255 ∧ l.sendsDropped ≤ 255)

theorem filter_changeFirst_length_le {α : Type} {p q : α → Bool} {f : α → α} (h : ∀ x, q (f x) = true → q x = true)
    (l : List α) : ((changeFirst p f l).filter q).length ≤ (l.filter q).length := by
  induction l with
  | nil => simp [changeFirst]
  | cons x xs ih =>
    have hx := h x
    rw [changeFirst]
    split
    · cases hfx : q (f x) <;> cases hqx : q x <;> simp_all
    · rw [List.filter_cons, List.filter_cons]
      split
      · simpa using ih
      · exact ih

/-- The first member that passes a test erased leaves one fewer that does. -/
theorem filter_eraseP_length {α : Type} {p : α → Bool} {l : List α} {x : α} (hx : x ∈ l) (hp : p x = true) :
    ((l.eraseP p).filter p).length + 1 = (l.filter p).length := by
  induction l with
  | nil => simp at hx
  | cons y ys ih =>
    by_cases hy : p y = true
    · simp [hy]
    · obtain rfl | hmem := List.mem_cons.1 hx
      · exact absurd hp hy
      · simpa [List.eraseP_cons, hy] using ih hmem

theorem OutEntry.bump_claim (e : OutEntry) : e.bump.frame.isDrawClaim = e.frame.isDrawClaim := by
  obtain ⟨frame, sending⟩ := e
  cases frame <;> rfl

/-- Posting keeps at most one DRAW CLAIM queued (R129). -/
theorem LineController.post_claims {l : LineController} (f : OutFrame) (h : l.claims ≤ 1) : (l.post f).claims ≤ 1 := by
  have happend : ∀ q : List OutEntry, (q.filter (·.frame.isDrawClaim)).length ≤ l.claims →
      ¬ (f.isDrawClaim = true ∧ l.outQueue.any (·.frame.isDrawClaim) = true) →
      ((q ++ [(⟨f, false⟩ : OutEntry)]).filter (·.frame.isDrawClaim)).length ≤ 1 := by
    intro q hq hno
    rw [List.filter_append, List.length_append]
    cases hf : f.isDrawClaim with
    | false =>
      have hlast : ([(⟨f, false⟩ : OutEntry)].filter (·.frame.isDrawClaim)).length = 0 := by simp [hf]
      rw [hlast]
      exact hq.trans h
    | true =>
      have hlast : ([(⟨f, false⟩ : OutEntry)].filter (·.frame.isDrawClaim)).length = 1 := by simp [hf]
      have hnone : l.claims = 0 := by simpa [LineController.claims, hf] using hno
      rw [hlast]
      exact Nat.succ_le_succ (hq.trans hnone.le)
  unfold LineController.post
  split
  · next hc =>
    simp only [Bool.and_eq_true, List.any_eq_true] at hc
    obtain ⟨hf, e, he, hclaim⟩ := hc
    have hcount := filter_eraseP_length (p := fun e : OutEntry => e.frame.isDrawClaim) he hclaim
    have hlast : ([(⟨f, false⟩ : OutEntry)].filter (·.frame.isDrawClaim)).length = 1 := by simp [hf]
    rw [LineController.claims] at h ⊢
    rw [List.filter_append, List.length_append, hlast, hcount]
    exact h
  · next hno =>
    have hno : ¬ (f.isDrawClaim = true ∧ l.outQueue.any (·.frame.isDrawClaim) = true) := by simpa using hno
    split
    · exact happend _ le_rfl hno
    · split
      · unfold LineController.postNoticeFull
        split
        · exact (filter_changeFirst_length_le (fun e he => by rwa [OutEntry.bump_claim] at he) _).trans h
        · split
          · refine le_trans ?_ h
            have := filter_changeFirst_length_le (p := OutEntry.idleNotice)
              (q := fun e : OutEntry => e.frame.isDrawClaim) (f := fun e => { e with frame := .overrun 2 })
              (fun e he => by simp [OutFrame.isDrawClaim] at he) l.outQueue.reverse
            simpa [LineController.claims, List.filter_reverse] using this
          · exact h
      · unfold LineController.postOtherFull
        split
        · exact happend _ (List.eraseP_sublist.filter _).length_le hno
        · exact h

theorem LineController.post_counts {l : LineController} (f : OutFrame)
    (h : l.asksLost ≤ 255 ∧ l.peerLost ≤ 255 ∧ l.noticesLost ≤ 255 ∧ l.sendsDropped ≤ 255) :
    (l.post f).asksLost ≤ 255 ∧ (l.post f).peerLost ≤ 255 ∧ (l.post f).noticesLost ≤ 255 ∧
      (l.post f).sendsDropped ≤ 255 := by
  obtain ⟨hasks, hpeer, hnotices, hsends⟩ := h
  have hle : ∀ c n, addTo255 c n ≤ 255 := fun _ _ => Nat.min_le_left _ _
  unfold LineController.post
  split
  · exact ⟨hasks, hpeer, hnotices, hsends⟩
  · split
    · exact ⟨hasks, hpeer, hnotices, hsends⟩
    · split
      · unfold LineController.postNoticeFull
        split
        · exact ⟨hasks, hpeer, hle _ _, hsends⟩
        · split <;> exact ⟨hasks, hpeer, hle _ _, hsends⟩
      · unfold LineController.postOtherFull
        split
        · exact ⟨hasks, hpeer, hle _ _, hsends⟩
        · exact ⟨hasks, hpeer, hnotices, hle _ _⟩

theorem lineQueues_post {l : LineController} (f : OutFrame) (h : LineQueues l) : LineQueues (l.post f) := by
  obtain ⟨⟨hask, hpeer, hout⟩, hclaims, hcounts⟩ := h
  refine ⟨⟨?_, ?_, LineController.post_length f hout⟩, LineController.post_claims f hclaims,
    LineController.post_counts f hcounts⟩ <;> rw [LineController.post_eq]
  · exact hask
  · exact hpeer

theorem lineQueues_raise {s : State} (n : Notice) (h : LineQueues s.line) : LineQueues (s.raise n).line := by
  unfold State.raise
  dsimp only
  split
  · exact h
  · unfold State.post
    split
    · exact h
    · exact lineQueues_post _ h

/-! ### The counts and the line state (R162 to R165) -/

/-- What `LineSound` says of the counts, the line state and the error log, caution aside. -/
def LineCounts (l : LineController) : Prop :=
  (l.sendCount ≤ 255 ∧ l.recvCount ≤ 127 ∧ l.errorLog ≤ 255) ∧
  (l.state ≠ .detached → l.state = stateOfCounts l.sendCount l.recvCount) ∧
  (l.state = .detached → l.sendCount = 255 ∧ l.sending = none) ∧
  (l.gaps.isSome = decide (l.state = .detached)) ∧ (∀ g, l.gaps = some g → g < 100) ∧
  (l.overflowReported = true → l.errorLog = 255)

/-- Whether caution is the one the counts give (R165). -/
def LineCaution (l : LineController) : Prop := l.caution = decide (l.sendCount ≥ 80 ∨ l.recvCount ≥ 80)

theorem lineSound_iff {s : State} : LineSound s ↔ LineCounts s.line ∧ LineCaution s.line ∧ LineQueues s.line := by
  unfold LineSound LineCounts LineCaution LineQueues
  exact ⟨fun ⟨hcounts, hst, hdet, hgaps, hgap, hcaution, hover, hq⟩ => ⟨⟨hcounts, hst, hdet, hgaps, hgap, hover⟩, hcaution, hq⟩,
    fun ⟨⟨hcounts, hst, hdet, hgaps, hgap, hover⟩, hcaution, hq⟩ => ⟨hcounts, hst, hdet, hgaps, hgap, hcaution, hover, hq⟩⟩

theorem lineSound_congr {s t : State} (h : t.line = s.line) (hs : LineSound s) : LineSound t := by
  unfold LineSound
  rw [h]
  exact hs

theorem lineSound_raise (n : Notice) (s : State) (hs : LineSound s) : LineSound (s.raise n) := by
  obtain ⟨hcounts, hcaution, hq⟩ := lineSound_iff.1 hs
  refine lineSound_iff.2 ⟨?_, ?_, lineQueues_raise n hq⟩ <;> rw [State.raise_line_eq]
  · exact hcounts
  · exact hcaution

theorem lineSound_post (f : OutFrame) (s : State) (hs : LineSound s) : LineSound (s.post f) := by
  unfold State.post
  split
  · exact hs
  · obtain ⟨hcounts, hcaution, hq⟩ := lineSound_iff.1 hs
    refine lineSound_iff.2 ⟨?_, ?_, lineQueues_post f hq⟩ <;> rw [LineController.post_eq]
    · exact hcounts
    · exact hcaution

@[simp] theorem State.recomputeShare_line (s : State) : s.recomputeShare.line = s.line := by
  obtain ⟨v, q, heq, -⟩ := s.recomputeShare_eq
  rw [heq]

@[simp] theorem State.tellLineState_line (l : LineState) (s : State) : (s.tellLineState l).line = s.line := by
  unfold State.tellLineState
  split
  · rfl
  · dsimp only
    split
    · rfl
    · rw [State.recomputeShare_line]

/-- Counts and line state set together: what becomes of the line (R163). -/
theorem State.setLine_line (send recv : Nat) (st : LineState) (gaps : Option Nat) (s : State) (hq : LineQueues s.line) :
    LineQueues (s.setLine send recv st gaps).line ∧
    ∃ q a b, (s.setLine send recv st gaps).line =
      { s.line with
        sendCount := send, recvCount := recv, state := st, gaps := gaps, outQueue := q, noticesLost := a, sendsDropped := b } := by
  unfold State.setLine
  dsimp only
  split
  · exact ⟨hq, _, _, _, rfl⟩
  · exact ⟨lineQueues_raise _ (by rw [State.tellLineState_line]; exact hq), _, _, _,
      (State.raise_line_eq _ _).trans (by rw [State.tellLineState_line])⟩

/-- Caution follows the counts, whatever it was (R165). -/
theorem lineSound_setCaution {s : State} (hcounts : LineCounts s.line) (hq : LineQueues s.line) : LineSound s.setCaution := by
  have hset : LineSound { s with line := { s.line with
      caution := s.line.sendCount ≥ cautionCount || s.line.recvCount ≥ cautionCount } } := by
    refine lineSound_iff.2 ⟨hcounts, ?_, hq⟩
    simp [LineCaution, cautionCount]
  unfold State.setCaution
  dsimp only
  split
  · exact lineSound_raise _ _ hset
  · exact hset

theorem lineSound_recount {send recv : Nat} {st : LineState} {gaps : Option Nat} {s : State}
    (h : LineSound s → send ≤ 255 ∧ recv ≤ 127 ∧ (st ≠ .detached → st = stateOfCounts send recv) ∧
      (st = .detached → send = 255 ∧ s.line.sending = none) ∧ gaps = (if st = .detached then some 0 else none))
    (hs : LineSound s) : LineSound ((s.setLine send recv st gaps).setCaution) := by
  obtain ⟨hsend, hrecv, hst, hdet, rfl⟩ := h hs
  obtain ⟨⟨⟨-, -, hlog⟩, -, -, -, -, hover⟩, -, hq⟩ := lineSound_iff.1 hs
  obtain ⟨hq', q, a, b, heq⟩ := s.setLine_line send recv st (if st = .detached then some 0 else none) hq
  refine lineSound_setCaution ?_ hq'
  rw [heq]
  refine ⟨⟨hsend, hrecv, hlog⟩, hst, hdet, ?_, ?_, hover⟩
  · by_cases hd : st = .detached <;> simp [hd]
  · by_cases hd : st = .detached <;> simp [hd]

theorem State.removeRecord_line (r : Reservation) (s : State) : (s.removeRecord r).line = s.line := by
  rw [State.removeRecord_eq, State.dropRecord_line]
  unfold State.releaseOf
  split <;> simp

theorem lineSound_expire (r : Reservation) (s : State) (hs : LineSound s) : LineSound (s.expire r) := by
  rw [State.expire_eq]
  refine lineSound_raise _ _ (lineSound_congr ?_ hs)
  rw [State.dropRecord_line]
  unfold State.releaseOf
  split <;> simp

theorem lineSound_expiryCheck (id : Nat) (s : State) (hs : LineSound s) : LineSound (s.expiryCheck id) := by
  obtain heq | ⟨r, -, -, -, heq⟩ := State.expiryCheck_cases id s <;> rw [heq]
  · exact hs
  · exact lineSound_expire r s hs

theorem lineSound_kept : Kept LineSound where
  out _ _ _ _ hs := hs
  raise := lineSound_raise
  post := lineSound_post
  request _ hs := hs
  useFree _ _ hs := hs
  popAsk s hs := by
    obtain ⟨hcounts, hcaution, ⟨hask, hpeer, hout⟩, hrest⟩ := lineSound_iff.1 hs
    exact lineSound_iff.2 ⟨hcounts, hcaution, ⟨by simp [popAsk]; omega, hpeer, hout⟩, hrest⟩
  popPeer s hs := by
    obtain ⟨hcounts, hcaution, ⟨hask, hpeer, hout⟩, hrest⟩ := lineSound_iff.1 hs
    exact lineSound_iff.2 ⟨hcounts, hcaution, ⟨hask, by simp [popPeer]; omega, hout⟩, hrest⟩
  enterBay b n s := lineSound_congr (by simp)
  putBay _ _ _ _ hs := hs
  edit _ _ _ _ _ hs := hs
  unbind id b s hs := by
    obtain ⟨-, heq⟩ | ⟨r, -, -, heq⟩ := State.unbind_cases id b s <;> rw [heq]
    · exact hs
    · dsimp only
      split
      · exact lineSound_expiryCheck id _ hs
      · exact hs
  doorClear id s hs := by
    obtain heq | ⟨r, -, -, heq⟩ := State.doorClear_cases id s <;> rw [heq]
    · exact hs
    · exact lineSound_expiryCheck id _ hs
  removeRecord r s _ _ := lineSound_congr (s.removeRecord_line r)
  expire r s _ _ := lineSound_expire r s
  removeAtDoor r s _ := lineSound_congr (s.removeRecord_line r)
  unknown _ hs := hs
  endGrant c s _ := lineSound_congr (by simp)
  fault _ _ hs := hs
  renew _ _ _ _ _ hs := hs
  decide s _ := lineSound_congr (by simp)
  reshare f s _ := lineSound_congr (by simp)
  claimTimer _ _ hs := hs
  templates _ _ _ hs := hs
  relined _ _ _ h hs := h hs
  recount _ _ _ _ _ h hs := lineSound_recount h hs
  setSlot _ _ _ _ hs := hs
  dropped _ hs := hs

theorem markSending_claims (p : Nat) (l : List OutEntry) :
    ((markSending p l).filter (·.frame.isDrawClaim)).length ≤ (l.filter (·.frame.isDrawClaim)).length :=
  filter_changeFirst_length_le (q := fun e : OutEntry => e.frame.isDrawClaim)
    (f := fun e => { e with sending := true }) (fun _ h => h) l

theorem lineSound_startSend (n : Nat) (s : State) (hs : LineSound s) : LineSound (s.startSend n) := by
  obtain heq | ⟨hmay, e, -, -, heq⟩ := State.startSend_cases n s <;> rw [heq]
  · exact hs
  · obtain ⟨⟨hcounts, hst, hdet, hgaps⟩, hcaution, ⟨hask, hpeer, hout⟩, hclaims, hlost⟩ := lineSound_iff.1 hs
    have hon : s.line.state ≠ .detached := by
      simp only [State.maySend, Bool.and_eq_true, bne_iff_ne] at hmay
      exact hmay.1.1.2
    refine lineSound_iff.2 ⟨⟨hcounts, hst, fun hd => absurd hd hon, hgaps⟩, hcaution, ⟨hask, hpeer, ?_⟩, ?_, hlost⟩
    · simpa [markSending, changeFirst_length] using hout
    · exact (markSending_claims _ _).trans hclaims

theorem lineSound_lasting : Lasting LineSound where
  toKept := lineSound_kept
  setpoints _ _ _ hs := hs
  sets _ _ _ _ hs := hs
  order _ _ _ hs := hs
  startPass _ hs := hs
  idle _ _ hs := hs
  create _ _ _ hs := hs
  startSend := lineSound_startSend
  clearLog s hs := by
    obtain ⟨⟨⟨hsend, hrecv, -⟩, hst, hdet, hgaps, hgap, -⟩, hrest⟩ := lineSound_iff.1 hs
    exact lineSound_iff.2 ⟨⟨⟨hsend, hrecv, Nat.zero_le _⟩, hst, hdet, hgaps, hgap, by simp⟩, hrest⟩
  unread _ _ _ _ _ _ hs := hs
  outputs _ _ hs := hs
  settle s := lineSound_congr (by rw [State.settlePass_eq])
  enterRun _ _ _ _ hs := hs
  restarted s := by
    refine lineSound_iff.2 ⟨?_, rfl, ?_⟩
    · simp [State.restarted, State.reset, LineCounts, LineController.restart, stateOfCounts, guardedCount]
    · simp [State.restarted, State.reset, LineQueues, LineController.restart, LineController.claims]
  advance s := lineSound_congr (by obtain ⟨asks, plan, boost, feed, ts, heq, -⟩ := s.advance_eq; rw [heq])

/-- Settles O12: the Line Controller's own updates keep its queues and counts, and no other update touches the line but by
posting. -/
theorem lineControllerStaysSound : Obligations.LineControllerStaysSound :=
  fun _ _ hs he => lineSound_lasting.step hs.start.1 hs.line he

/-! ### The Feed Share Unit (R119 to R132) -/

/-- The share is within its bounds because it is the one the figures give (R130, R131). -/
theorem feedSound_iff {s : State} : FeedSound s ↔ FeedFigures s s.feed ∧ s.feed.share = s.feed.shareNow s.cfg := by
  constructor
  · exact fun ⟨hlim, hshare, _, _, hdet, hown, hpeers, htrim, hlen, hnd⟩ => ⟨⟨hlim, hdet, hown, hpeers, htrim, hlen, hnd⟩, hshare⟩
  · rintro ⟨⟨hlim, hdet, hown, hpeers, htrim, hlen, hnd⟩, hshare⟩
    have hraw : roundTen (s.feed.rawShare * s.feed.trim / 1000) ≤ s.feed.limit := by
      have hle := Feed.rawShare_le_limit s.feed hown fun p hp => (hpeers p hp).1
      have hmul := Nat.mul_le_mul hle htrim.2.1
      have := roundTen_le (s.feed.rawShare * s.feed.trim / 1000)
      omega
    refine ⟨hlim, hshare, ?_, fun hd => ?_, hdet, hown, hpeers, htrim, hlen, hnd⟩
    · rw [hshare, Feed.shareNow]
      split
      · exact (Nat.min_le_left _ _).trans hraw
      · exact hraw
    · rw [hshare, Feed.shareNow, if_pos hd]
      exact Nat.min_le_right _ _

theorem feedFigures_congr {s t : State} {f : Feed} (hpart : t.part = s.part) (hcfg : t.cfg = s.cfg)
    (hline : t.line.state = s.line.state) (h : FeedFigures s f) : FeedFigures t f := by
  unfold FeedFigures
  rw [hpart, hcfg, hline]
  exact h

theorem feedSound_congr {s t : State} (hfeed : t.feed = s.feed) (hpart : t.part = s.part) (hcfg : t.cfg = s.cfg)
    (hline : t.line.state = s.line.state) (hs : FeedSound s) : FeedSound t := by
  obtain ⟨hfigures, hshare⟩ := feedSound_iff.1 hs
  refine feedSound_iff.2 ⟨?_, by rw [hfeed, hcfg]; exact hshare⟩
  rw [hfeed]
  exact feedFigures_congr hpart hcfg hline hfigures

/-- Figures recomputed are sound whatever the share was (R132). -/
theorem feedSound_reshare {s : State} {f : Feed} (h : FeedFigures s f) : FeedSound (s.reshare f) := by
  obtain ⟨v, q, heq, -⟩ := s.reshare_eq f
  rw [heq]
  exact feedSound_iff.2 ⟨h, rfl⟩

theorem feedSound_raise (n : Notice) (s : State) : FeedSound s → FeedSound (s.raise n) :=
  feedSound_congr (by simp) (by simp) (by simp) (by simp)

theorem feedSound_releaseOf (r : Reservation) (s : State) (hs : FeedSound s) : FeedSound (s.releaseOf r) := by
  unfold State.releaseOf
  split
  · exact feedSound_congr (by simp) (by simp) (by simp) (by simp) hs
  · exact feedSound_congr (by simp) (by simp) (by simp) (by simp) hs
  · exact hs

theorem feedSound_removeRecord (r : Reservation) (s : State) (hs : FeedSound s) : FeedSound (s.removeRecord r) := by
  rw [State.removeRecord_eq]
  exact feedSound_congr rfl rfl rfl rfl (feedSound_releaseOf r s hs)

theorem feedSound_expire (r : Reservation) (s : State) (hs : FeedSound s) : FeedSound (s.expire r) := by
  rw [State.expire_eq]
  exact feedSound_raise _ _ (feedSound_congr rfl rfl rfl rfl (feedSound_releaseOf r s hs))

theorem feedSound_expiryCheck (id : Nat) (s : State) (hs : FeedSound s) : FeedSound (s.expiryCheck id) := by
  obtain heq | ⟨r, -, -, -, heq⟩ := State.expiryCheck_cases id s <;> rw [heq]
  · exact hs
  · exact feedSound_expire r s hs

/-- A new line state reaches the Feed Share Unit's flag (R131). -/
theorem feedSound_tellLineState {s : State} {l : LineController} (hs : FeedSound s) :
    FeedSound (State.tellLineState l.state { s with line := l }) := by
  obtain ⟨⟨hlim, hdet, hown, hpeers, htrim, hlen, hnd⟩, hshare⟩ := feedSound_iff.1 hs
  unfold State.tellLineState
  split
  · next hpart =>
    have hunset : s.part = .unset := hpart
    exact feedSound_iff.2 ⟨⟨hlim, by simp [hunset], hown, hpeers, htrim, hlen, hnd⟩, hshare⟩
  · dsimp only
    split
    · next hsame =>
      exact feedSound_iff.2 ⟨⟨hlim, fun _ => hsame.trans (beq_eq_decide _ _), hown, hpeers, htrim, hlen, hnd⟩, hshare⟩
    · exact feedSound_reshare (s := { s with line := l }) (f := { s.feed with detached := l.state == .detached })
        ⟨hlim, fun _ => beq_eq_decide _ _, hown, hpeers, htrim, hlen, hnd⟩

theorem feedSound_recount (send recv : Nat) (st : LineState) (gaps : Option Nat) (s : State) (hs : FeedSound s) :
    FeedSound ((s.setLine send recv st gaps).setCaution) := by
  have hcaution : ∀ u : State, FeedSound u → FeedSound u.setCaution := by
    intro u hu
    unfold State.setCaution
    dsimp only
    split
    · exact feedSound_raise _ _ (feedSound_congr rfl rfl rfl rfl hu)
    · exact feedSound_congr rfl rfl rfl rfl hu
  refine hcaution _ ?_
  unfold State.setLine
  dsimp only
  split
  · next hsame => exact feedSound_congr (s := s) rfl rfl rfl hsame.symm hs
  · exact feedSound_raise _ _ (feedSound_tellLineState
      (l := { s.line with sendCount := send, recvCount := recv, state := st, gaps := gaps }) hs)

theorem feedSound_kept : Kept FeedSound where
  out _ _ _ _ hs := hs
  raise := feedSound_raise
  post f s := feedSound_congr (by simp) (by simp) (by simp) (by
    unfold State.post
    split
    · rfl
    · rw [LineController.post_eq])
  request _ hs := hs
  useFree _ _ hs := hs
  popAsk _ hs := hs
  popPeer _ hs := hs
  enterBay b n s := feedSound_congr (by simp) (by simp) (by simp) (by simp)
  putBay _ _ _ _ hs := hs
  edit _ _ _ _ _ hs := hs
  unbind id b s hs := by
    obtain ⟨-, heq⟩ | ⟨r, -, -, heq⟩ := State.unbind_cases id b s <;> rw [heq]
    · exact hs
    · dsimp only
      split
      · exact feedSound_expiryCheck id _ hs
      · exact hs
  doorClear id s hs := by
    obtain heq | ⟨r, -, -, heq⟩ := State.doorClear_cases id s <;> rw [heq]
    · exact hs
    · exact feedSound_expiryCheck id _ hs
  removeRecord r s _ _ := feedSound_removeRecord r s
  expire r s _ _ := feedSound_expire r s
  removeAtDoor r s _ := feedSound_removeRecord r s
  unknown _ hs := hs
  endGrant c s _ := feedSound_congr (by simp) (by simp) (by simp) (by simp)
  fault _ _ hs := hs
  renew _ _ _ _ _ hs := hs
  decide s _ := feedSound_congr (by simp) (by simp) (by simp) (by simp)
  reshare f s hf hs := feedSound_reshare (hf.figures (feedSound_iff.1 hs).1)
  claimTimer _ _ hs := hs
  templates _ _ _ hs := hs
  relined l s hl _ := feedSound_congr rfl rfl rfl hl
  recount send recv st gaps s _ := feedSound_recount send recv st gaps s
  setSlot _ _ _ _ hs := hs
  dropped _ hs := hs

theorem Feed.tick_shareNow (cfg : Setup) (f : Feed) : f.tick.shareNow cfg = f.shareNow cfg := by
  have hraw : f.tick.rawShare = f.rawShare := by
    simp [Feed.rawShare, Feed.totalDemand, Feed.totalPriority, Feed.tick, Function.comp_def]
  rw [Feed.shareNow, Feed.shareNow, hraw]
  rfl

theorem feedSound_tick {s : State} (hs : FeedSound s) : FeedSound { s with feed := s.feed.tick } := by
  obtain ⟨⟨hlim, hdet, hown, hpeers, htrim, hlen, hnd⟩, hshare⟩ := feedSound_iff.1 hs
  refine feedSound_iff.2 ⟨⟨hlim, hdet, hown, ?_, htrim, ?_, ?_⟩, hshare.trans (Feed.tick_shareNow _ _).symm⟩
  · intro p hp
    obtain ⟨q, hq, rfl⟩ := List.mem_map.1 hp
    exact hpeers q hq
  · simpa [Feed.tick] using hlen
  · simpa [Feed.tick, Function.comp_def] using hnd

theorem feedSound_lasting : Lasting FeedSound where
  toKept := feedSound_kept
  setpoints _ _ _ hs := hs
  sets _ _ _ _ hs := hs
  order _ _ _ hs := hs
  startPass _ hs := hs
  idle _ _ hs := hs
  create _ _ _ hs := hs
  startSend n s hs := by
    obtain heq | ⟨-, e, -, -, heq⟩ := State.startSend_cases n s <;> rw [heq]
    · exact hs
    · exact hs
  clearLog _ hs := hs
  unread _ _ _ _ _ _ hs := hs
  outputs _ _ hs := hs
  settle s := feedSound_congr (by rw [State.settlePass_eq]) (by rw [State.settlePass_eq]) (by rw [State.settlePass_eq])
    (by rw [State.settlePass_eq])
  enterRun record s _ _ _ := by
    refine feedSound_iff.2 ⟨⟨fun _ => rfl, fun _ => beq_eq_decide _ _, ?_⟩, rfl⟩
    simp [State.enterRun, State.request, Feed.enterRun, Feed.restart]
  restarted s := by
    have hshare : Feed.restart.share = Feed.restart.shareNow .unloaded := by decide
    refine feedSound_iff.2 ⟨⟨by simp [State.restarted, State.reset], by simp [State.restarted, State.reset], ?_⟩, hshare⟩
    simp [State.restarted, State.reset, Feed.restart]
  advance s hs := by
    obtain ⟨asks, plan, boost, feed, ts, heq, hunset, hrun⟩ := s.advance_eq
    rw [heq]
    obtain hp | hp := s.part_cases
    · obtain ⟨-, -, -, rfl, -⟩ := hunset hp
      exact feedSound_congr (s := s) rfl rfl rfl rfl hs
    · obtain ⟨-, -, -, rfl, -⟩ := hrun hp
      exact feedSound_congr (s := { s with feed := s.feed.tick }) rfl rfl rfl rfl (feedSound_tick hs)

/-- Settles O11: each new figure is followed by the share it gives. -/
theorem feedFiguresStaySound : Obligations.FeedFiguresStaySound :=
  fun _ _ hs he => feedSound_lasting.step hs.start.1 hs.feed he

end Sys2Proof.Machine
end

section
/-! SUPPORT. The Boost Arbiter's holder and the draw of the setpoints: what every step keeps of them (R98, R105). -/

namespace Sys2Proof.Machine

open Sys2Proof.Machine.Safety

/-! ### The Boost Arbiter (R104 to R117) -/

/-- A decision's winner is eligible, and the decision moves the ring pointers alone (R108 to R110). -/
theorem Arbiter.decide_winner {a a' : Arbiter} {w : Option BayNo} (h : a.decide = (w, a')) :
    (∀ b, w = some b → a.eligible[b] = true) ∧ ∃ hi lo, a' = { a with highPtr := hi, lowPtr := lo } := by
  unfold Arbiter.decide at h
  split at h
  · obtain ⟨rfl, rfl⟩ := Prod.mk.inj h
    exact ⟨by simp, _, _, rfl⟩
  · next p hp =>
    have hreq := List.find?_some hp
    split at h
    · next hlt =>
      obtain ⟨rfl, rfl⟩ := Prod.mk.inj h
      refine ⟨fun b hb => ?_, _, _, rfl⟩
      obtain rfl := Option.some.inj hb
      simp only [Arbiter.positionRequests, hlt, dite_true, Arbiter.highRequests, Bool.and_eq_true] at hreq
      exact hreq.2
    · split at h
      · next b hb =>
        obtain ⟨rfl, rfl⟩ := Prod.mk.inj h
        refine ⟨fun c hc => ?_, _, _, rfl⟩
        obtain rfl := Option.some.inj hc
        exact (Arbiter.lowWinner_some hb).1.2
      · obtain ⟨rfl, rfl⟩ := Prod.mk.inj h
        exact ⟨by simp, _, _, rfl⟩

theorem State.enterBay_bay (s : State) (b d : BayNo) (n : BayState) :
    (s.enterBay b n).bay d =
      if b = d then { (s.bay b).entering s.cfg n with boost := (s.bay b).boost && !endsGrant b n s.boost } else s.bay d := by
  rw [State.enterBay_eq]
  exact State.setBay_bay s b d _

theorem State.endGrant_bay {s : State} {h : BayNo} (c : Converter) (hh : s.boost.converter.holder = some h) (d : BayNo) :
    (s.endGrant c).bay d =
      if h = d then
        { s.bay h with
          boost := false
          setpoint := if (s.bay h).chargeable s.cfg = true then min (s.bay h).setpoint (s.normalCapOf h) else 0 }
      else s.bay d := by
  rw [State.endGrant_eq c hh]
  exact State.setBay_bay s h d _

theorem boostSound_congr {s t : State} (hboost : t.boost = s.boost)
    (hbays : ∀ b : BayNo, (t.bay b).boost = (s.bay b).boost ∧ (t.bay b).state.eligible = (s.bay b).state.eligible)
    (hs : BoostSound s) : BoostSound t := by
  obtain ⟨hfield, heligible, hholder, hsets⟩ := hs
  unfold BoostSound
  rw [hboost]
  exact ⟨fun b => (hbays b).1.trans (hfield b), fun b => (heligible b).trans (hbays b).2.symm,
    fun d hd => (hbays d).2.trans (hholder d hd), hsets⟩

theorem boostSound_enterBay {b : BayNo} {n : BayState} {s : State} (hs : BoostSound s) : BoostSound (s.enterBay b n) := by
  obtain ⟨hfield, heligible, hholder, hsets⟩ := hs
  have hholder' : (s.enterBay b n).boost.converter.holder =
      if endsGrant b n s.boost = true then none else s.boost.converter.holder := by
    rw [State.enterBay_eq]
    dsimp only
    split <;> rfl
  have heligible' : ∀ d : BayNo, (s.enterBay b n).boost.eligible[d] = if b = d then n.eligible else s.boost.eligible[d] := by
    intro d
    rw [State.enterBay_eq]
    simp [Vector.getElem_set, Fin.ext_iff]
  have hends : endsGrant b n s.boost = true ↔ s.boost.converter.holder = some b ∧ n.eligible = false := by
    simp [endsGrant]
  refine ⟨fun d => ?_, fun d => ?_, fun d hd => ?_, ?_⟩
  · rw [hholder', State.enterBay_bay]
    have hd := hfield d
    by_cases hg : endsGrant b n s.boost = true
    · have hb := (hends.1 hg).1
      by_cases hbd : b = d
      · subst hbd
        simp [hg]
      · simp [hg, hbd, hd, hb]
    · by_cases hbd : b = d
      · subst hbd
        simp [hg, hd]
      · simp [hg, hbd, hd]
  · rw [heligible', State.enterBay_bay]
    by_cases hbd : b = d
    · simp [hbd, Bay.entering, Bay.writeSetpoint]
    · simpa [hbd] using heligible d
  · rw [hholder'] at hd
    split at hd
    · simp at hd
    · next hg =>
      rw [State.enterBay_bay]
      by_cases hbd : b = d
      · subst hbd
        have : n.eligible = true := by
          by_contra hno
          exact hg (hends.2 ⟨hd, by simpa using hno⟩)
        simpa [Bay.entering, Bay.writeSetpoint] using this
      · simpa [hbd] using hholder d hd
  · rw [State.enterBay_eq]
    exact hsets

theorem boostSound_endGrant {c : Converter} {s : State} (hc : c.holder = none) (hs : BoostSound s) :
    BoostSound (s.endGrant c) := by
  obtain ⟨hfield, heligible, hholder, hsets⟩ := hs
  cases hh : s.boost.converter.holder with
  | none =>
    rw [State.endGrant, hh]
    exact ⟨hfield, heligible, hholder, hsets⟩
  | some d =>
    have hbay : ∀ b : BayNo, ((s.endGrant c).bay b).boost = false ∧
        ((s.endGrant c).bay b).state = (s.bay b).state := by
      intro b
      rw [State.endGrant_bay c hh]
      split
      · next hdb => exact ⟨rfl, by rw [hdb]⟩
      · next hdb =>
        refine ⟨(hfield b).trans ?_, rfl⟩
        rw [hh]
        simpa using hdb
    have hboost : (s.endGrant c).boost = { s.boost with converter := c } := by rw [State.endGrant_eq c hh]
    refine ⟨fun b => ?_, fun b => ?_, fun b hb => ?_, ?_⟩
    · rw [(hbay b).1, hboost]
      simp [hc]
    · rw [(hbay b).2, hboost]
      exact heligible b
    · rw [hboost] at hb
      simp [hc] at hb
    · rw [hboost]
      exact hsets

theorem boostSound_decide {s : State} (hidle : s.boost.converter.holder = none) (hs : BoostSound s) :
    BoostSound s.decideGrant := by
  obtain ⟨hfield, heligible, hholder, hsets⟩ := hs
  have hoff : ∀ b : BayNo, (s.bay b).boost = false := fun b => by simp [hfield b, hidle]
  unfold State.decideGrant
  split
  · next b a ha =>
    obtain ⟨hwinner, hi, lo, rfl⟩ := Arbiter.decide_winner ha
    generalize hu : State.grant b { s with boost := { s.boost with highPtr := hi, lowPtr := lo } } = u
    have hbay : ∀ d : BayNo, u.bay d = if b = d then { s.bay b with boost := true } else s.bay d := by
      subst hu
      exact fun d => State.setBay_bay _ b d _
    obtain ⟨hconverter, heligible', hhigh, hlow⟩ : u.boost.converter.holder = some b ∧
        u.boost.eligible = s.boost.eligible ∧ u.boost.high = s.boost.high ∧ u.boost.low = s.boost.low := by
      subst hu
      exact ⟨rfl, rfl, rfl, rfl⟩
    refine ⟨fun d => ?_, fun d => ?_, fun d hd => ?_, by rw [hhigh, hlow]; exact hsets⟩
    · rw [hbay, hconverter]
      by_cases hbd : b = d
      · simp [hbd]
      · simp [hbd, hoff d]
    · rw [hbay, heligible', heligible d]
      by_cases hbd : b = d
      · simp [hbd]
      · simp [hbd]
    · obtain rfl : b = d := by simpa [hconverter] using hd
      rw [hbay, if_pos rfl, ← heligible b]
      exact hwinner b rfl
  · next a ha =>
    obtain ⟨-, hi, lo, rfl⟩ := Arbiter.decide_winner ha
    exact ⟨hoff, heligible, fun d hd => by simp [Converter.holder] at hd, hsets⟩

theorem boostSound_apart : KeptApart BoostSound where
  aside _ _ _ _ _ hs := hs
  request _ hs := hs
  enterBay _ _ _ := boostSound_enterBay
  putBay b x s hx := boostSound_congr rfl fun d => by
    rw [State.setBay_bay]
    split
    · next hbd =>
      subst hbd
      exact ⟨hx.boost, BayState.eligible_of_code hx.code⟩
    · exact ⟨rfl, rfl⟩
  edit _ _ _ _ hs := hs
  drop _ _ _ _ _ hs := hs
  unknown _ hs := hs
  endGrant _ _ hc := boostSound_endGrant hc
  fault s hidle hs := by
    obtain ⟨hfield, heligible, -, hsets⟩ := hs
    exact ⟨fun b => (hfield b).trans (by rw [hidle]; rfl), heligible, by simp [Converter.holder], hsets⟩
  renew h n m s hc hs := by
    obtain ⟨hfield, heligible, hholder, hsets⟩ := hs
    have hsame : s.boost.converter.holder = some h := by rw [hc]; rfl
    exact ⟨fun b => (hfield b).trans (by rw [hsame]; rfl), heligible, fun d hd => hholder d (hsame.trans hd), hsets⟩
  decide s hc := boostSound_decide (by obtain hc | ⟨n, hc⟩ := hc <;> rw [hc] <;> rfl)
  reshare f s _ := by
    obtain ⟨v, q, heq, hv⟩ := s.reshare_eq f
    rw [heq]
    refine boostSound_congr rfl fun b => ?_
    obtain ⟨p, -, hp⟩ := hv b
    have : ({ s with bays := v, feed := { f with share := f.shareNow s.cfg }, plan := { s.plan with requested := q } } : State).bay b =
        { s.bay b with setpoint := p } := hp
    rw [this]
    exact ⟨rfl, rfl⟩
  claimTimer _ _ hs := hs
  templates _ _ _ hs := hs
  setSlot _ _ _ _ hs := hs
  dropped _ hs := hs

theorem State.writeSetpoints_bay (l : List (BayNo × Nat)) (s : State) (b : BayNo) :
    (s.writeSetpoints l).bay b = (s.bay b).writeSetpoint s.cfg (min (allocationOf l b) (s.capOf b)) := by
  simp [State.writeSetpoints, State.bay]

theorem State.enterRun_bay (record : List Byte) (s : State) (b : BayNo) :
    (s.enterRun record).bay b = (s.bay b).enterRun (loadMask record b) := by
  simp [State.enterRun, State.request, State.bay]

theorem boostSound_lasting : Lasting BoostSound where
  toKept := boostSound_apart.kept
  setpoints l s _ := boostSound_congr rfl fun b => by rw [State.writeSetpoints_bay]; exact ⟨rfl, rfl⟩
  sets _ _ _ hdisjoint hs := ⟨hs.1, hs.2.1, hs.2.2.1, hdisjoint⟩
  order _ _ _ hs := hs
  startPass _ hs := hs
  idle _ _ hs := hs
  create _ _ _ hs := hs
  startSend n _ := boostSound_apart.startSend n
  clearLog _ hs := hs
  unread _ _ _ _ _ _ hs := hs
  outputs _ _ hs := hs
  settle s := boostSound_congr (by rw [State.settlePass_eq]) fun b => by rw [State.settlePass_eq]; exact ⟨rfl, rfl⟩
  enterRun record s hunset hpart := boostSound_congr rfl fun b => by
    obtain ⟨-, -, -, -, -, -, -, -, -, hbays⟩ := hunset hpart
    rw [State.enterRun_bay]
    refine ⟨rfl, ?_⟩
    have hoff : (s.bay b).state = .off .link := by rw [hbays b]; rfl
    unfold Bay.enterRun
    dsimp only
    rw [hoff]
    split <;> rfl
  restarted s := by
    refine ⟨fun b => ?_, fun b => ?_, by simp [State.restarted, State.reset, Arbiter.restart, Converter.holder],
      by simp [State.restarted, State.reset, Arbiter.restart]⟩
    · simp [State.restarted, State.reset, Arbiter.restart, Converter.holder, State.bay, Bay.restart]
    · simp [State.restarted, State.reset, Arbiter.restart, State.bay, Bay.restart, BayState.eligible]
  advance s hs := by
    obtain ⟨asks, plan, boost, feed, ts, heq, hunset, hrun⟩ := s.advance_eq
    rw [heq]
    have hbays : ∀ (b : BayNo) (a : Arbiter), ({ s with clock := s.clock.tick, bays := Vector.ofFn fun i => (s.bays[i]).tick, asks := asks, plan := plan, boost := a, feed := feed, ts := ts } : State).bay b = (s.bay b).tick := by
      intro b a
      simp [State.bay]
    obtain hp | hp := s.part_cases
    · obtain ⟨-, -, rfl, -, -⟩ := hunset hp
      exact boostSound_congr (s := s) rfl (fun b => by rw [hbays]; exact ⟨rfl, rfl⟩) hs
    · obtain ⟨-, -, rfl, -, -⟩ := hrun hp
      obtain ⟨hfield, heligible, hholder, hsets⟩ := hs
      have htick : s.boost.converter.tick.holder = s.boost.converter.holder := by cases s.boost.converter <;> rfl
      refine ⟨fun b => ?_, fun b => ?_, fun d hd => ?_, hsets⟩
      · rw [hbays, htick]
        exact hfield b
      · rw [hbays]
        exact heligible b
      · rw [hbays]
        exact hholder d (htick.symm.trans hd)

/-- Settles O10: a grant, its end and a change of a bay's state move the boost field and the holder together. -/
theorem boostFollowsHolder : Obligations.BoostFollowsHolder :=
  fun _ _ hs he => boostSound_lasting.step hs.start.1 hs.boost he

/-! ### The draw of the setpoints (R98, R100, R101) -/

theorem totalDraw_mono {u v : Vector Bay 12} (h : ∀ b : BayNo, u[b].setpoint ≤ v[b].setpoint) : totalDraw u ≤ totalDraw v :=
  sum_le_sum fun b _ => siteDraw_mono (h b)

theorem totalDraw_eq_zero {v : Vector Bay 12} (h : ∀ b : BayNo, v[b].setpoint = 0) : totalDraw v = 0 := by
  refine List.sum_eq_zero fun x hx => ?_
  obtain ⟨b, -, rfl⟩ := List.mem_map.1 hx
  rw [h b, siteDraw_zero]

/-- The sum of the setpoints, which bounds the steps of the clamp. -/
def totalSetpoint (bays : Vector Bay 12) : Nat := (allBays.map fun b => bays[b].setpoint).sum

theorem totalSetpoint_set_lt {v : Vector Bay 12} {b : BayNo} {x : Bay} (h : x.setpoint < v[b].setpoint) :
    totalSetpoint (v.set b x b.isLt) < totalSetpoint v := by
  have hsum : ∀ u : Vector Bay 12, totalSetpoint u = ∑ c : BayNo, u[c].setpoint := fun u => (Fin.sum_univ_def _).symm
  rw [hsum, hsum]
  refine Finset.sum_lt_sum (fun c _ => ?_) ⟨b, Finset.mem_univ b, ?_⟩
  · simp only [Fin.getElem_fin, Vector.getElem_set]
    split
    · next hbc =>
      obtain rfl : b = c := Fin.ext hbc
      exact h.le
    · exact le_rfl
  · simpa using h

/-- The clamp goes on while the draw is above the share, as some setpoint is above 0 then (R101). -/
theorem clampVictim_spec {order : List BayNo} {v : Vector Bay 12} :
    (∀ b, clampVictim order v = some b → 0 < v[b].setpoint) ∧
    (clampVictim order v = none → ∀ b : BayNo, v[b].setpoint = 0) := by
  unfold clampVictim
  split
  · next c hc =>
    refine ⟨fun b hb => ?_, by simp⟩
    obtain rfl := Option.some.inj hb
    have := mem_baysWhere.1 (List.mem_of_getLast? hc)
    simp only [Bool.and_eq_true, decide_eq_true_eq] at this
    exact this.1
  · next hnone =>
    refine ⟨fun b hb => ?_, fun hb b => ?_⟩
    · have := (List.mem_filter.1 (List.mem_of_getLast? hb)).2
      simpa using this
    · by_contra hb0
      have hpos : 0 < v[b].setpoint := Nat.pos_of_ne_zero hb0
      by_cases hmem : b ∈ order
      · have : b ∈ order.filter fun b => v[b].setpoint > 0 := List.mem_filter.2 ⟨hmem, by simpa using hpos⟩
        rw [List.getLast?_eq_none_iff.1 hb] at this
        simp at this
      · have : b ∈ baysWhere fun b => v[b].setpoint > 0 && b ∉ order := mem_baysWhere.2 (by simp [hmem]; exact hpos)
        rw [List.getLast?_eq_none_iff.1 hnone] at this
        simp at this

theorem lowerToShare_draw_le (cfg : Setup) (share : Nat) (order : List BayNo) {fuel : Nat} {v : Vector Bay 12}
    (h : totalSetpoint v ≤ fuel) : totalDraw (lowerToShare cfg share order fuel v) ≤ share := by
  induction fuel generalizing v with
  | zero =>
    rw [lowerToShare]
    refine (totalDraw_eq_zero fun b => ?_).le.trans (Nat.zero_le _)
    have hb : v[b].setpoint ≤ totalSetpoint v := List.le_sum_of_mem (List.mem_map.2 ⟨b, by simp [allBays], rfl⟩)
    omega
  | succ n ih =>
    rw [lowerToShare]
    split
    · assumption
    · next hover =>
      split
      · next hnone => exact absurd ((totalDraw_eq_zero (clampVictim_spec.2 hnone)).le.trans (Nat.zero_le _)) hover
      · next b hb =>
        have hpos := clampVictim_spec.1 b hb
        have hlt : (v[b].writeSetpoint cfg (noTrickle (v[b].setpoint - 10))).setpoint < v[b].setpoint := by
          have := noTrickle_le (v[b].setpoint - 10)
          unfold Bay.writeSetpoint
          dsimp only
          split <;> omega
        have hfuel := totalSetpoint_set_lt hlt
        exact ih (by omega)

theorem State.clampShare_draw_le (old new : Nat) (s : State) : totalDraw (s.clampShare old new).bays ≤ new := by
  unfold State.clampShare State.request
  dsimp only
  generalize (Vector.ofFn fun i => (s.bays[i]).writeSetpoint s.cfg (scaleSetpoint old new s.bays[i].setpoint)) = v
  exact lowerToShare_draw_le s.cfg new s.plan.lastOrder (Nat.le_of_eq (totalSetpoint.eq_1 v))

/-- A recomputed share is kept by the setpoints where the old one was (R100, R101). -/
theorem drawWithinShare_recompute {s : State} (hs : DrawWithinShare s) : DrawWithinShare s.recomputeShare := by
  obtain ⟨-, heq⟩ | ⟨hlt, heq⟩ | ⟨-, heq⟩ := s.recomputeShare_cases <;> rw [heq]
  · exact hs
  · exact hs.trans hlt.le
  · have hfeed : (State.clampShare s.feed.share (s.feed.shareNow s.cfg)
        { s with feed := { s.feed with share := s.feed.shareNow s.cfg } }).feed.share = s.feed.shareNow s.cfg := rfl
    rw [DrawWithinShare, hfeed]
    exact State.clampShare_draw_le _ _ _

theorem drawWithinShare_mono {s t : State} (hfeed : t.feed.share = s.feed.share)
    (hbays : ∀ b : BayNo, (t.bay b).setpoint ≤ (s.bay b).setpoint) (hs : DrawWithinShare s) : DrawWithinShare t := by
  unfold DrawWithinShare
  rw [hfeed]
  exact (totalDraw_mono hbays).trans hs

theorem Bay.entering_setpoint_le (cfg : Setup) (n : BayState) (b : Bay) : (b.entering cfg n).setpoint ≤ b.setpoint := by
  have hwrite : ∀ x : Bay, (x.writeSetpoint cfg x.setpoint).setpoint ≤ x.setpoint := by
    intro x
    unfold Bay.writeSetpoint
    dsimp only
    split
    · exact le_rfl
    · exact Nat.zero_le _
  exact hwrite _

theorem drawWithinShare_apart : KeptApart DrawWithinShare where
  aside _ _ _ _ _ hs := hs
  request _ hs := hs
  enterBay b n s := drawWithinShare_mono (by simp) fun d => by
    rw [State.enterBay_bay]
    split
    · next hbd =>
      subst hbd
      exact Bay.entering_setpoint_le _ _ _
    · exact le_rfl
  putBay b x s hx := drawWithinShare_mono rfl fun d => by
    rw [State.setBay_bay]
    split
    · next hbd =>
      subst hbd
      exact hx.setpoint
    · exact le_rfl
  edit _ _ _ _ hs := hs
  drop _ _ _ _ _ hs := hs
  unknown _ hs := hs
  endGrant c s _ hs := by
    cases hh : s.boost.converter.holder with
    | none => rwa [State.endGrant, hh]
    | some h =>
      refine drawWithinShare_mono (by simp) (fun d => ?_) hs
      rw [State.endGrant_bay c hh]
      split
      · next hhd =>
        subst hhd
        dsimp only
        split
        · exact Nat.min_le_left _ _
        · exact Nat.zero_le _
      · exact le_rfl
  fault _ _ hs := hs
  renew _ _ _ _ _ hs := hs
  decide s _ := by
    refine drawWithinShare_mono (by simp) fun d => ?_
    unfold State.decideGrant
    split
    · next b a _ =>
      rw [show (State.grant b { s with boost := a }).bay d = if b = d then { s.bay b with boost := true } else s.bay d from
        State.setBay_bay _ b d _]
      split
      · next hbd => rw [← hbd]
      · exact le_rfl
    · exact le_rfl
  reshare f s hf hs := by
    refine drawWithinShare_recompute (s := { s with feed := f }) ?_
    have : s.feed.share = f.share := hf.share.symm
    exact hs.trans this.le
  claimTimer _ _ hs := hs
  templates _ _ _ hs := hs
  setSlot _ _ _ _ hs := hs
  dropped _ hs := hs

theorem drawWithinShare_zero {s : State} (h : ∀ b : BayNo, (s.bay b).setpoint = 0) : DrawWithinShare s :=
  (totalDraw_eq_zero h).le.trans (Nat.zero_le _)

theorem drawWithinShare_lasting : Lasting DrawWithinShare where
  toKept := drawWithinShare_apart.kept
  setpoints l s hl _ := by
    refine le_trans (sum_le_sum fun b _ => siteDraw_mono ?_) hl
    have := State.writeSetpoints_bay l s b
    rw [State.bay] at this
    rw [this]
    unfold Bay.writeSetpoint
    dsimp only
    split
    · exact Nat.min_le_left _ _
    · exact Nat.zero_le _
  sets _ _ _ _ hs := hs
  order _ _ _ hs := hs
  startPass _ hs := hs
  idle _ _ hs := hs
  create _ _ _ hs := hs
  startSend n _ := drawWithinShare_apart.startSend n
  clearLog _ hs := hs
  unread _ _ _ _ _ _ hs := hs
  outputs _ _ hs := hs
  settle s := drawWithinShare_mono (by rw [State.settlePass_eq]) fun b => by rw [State.settlePass_eq]; exact le_rfl
  enterRun record s hunset hpart _ := drawWithinShare_zero fun b => by
    obtain ⟨-, -, -, -, -, -, -, -, -, hbays⟩ := hunset hpart
    rw [State.enterRun_bay, hbays b]
    rfl
  restarted s := drawWithinShare_zero fun b => by simp [State.restarted, State.reset, State.bay, Bay.restart]
  advance s hs := by
    obtain ⟨asks, plan, boost, feed, ts, heq, hunset, hrun⟩ := s.advance_eq
    have hshare : feed.share = s.feed.share := by
      obtain hp | hp := s.part_cases
      · rw [(hunset hp).2.2.2.1]
      · rw [(hrun hp).2.2.2.1]; rfl
    rw [heq]
    exact drawWithinShare_mono hshare (fun b => by simp [State.bay, Bay.tick]) hs

/-- Settles O9: a completion writes allocations within the share, a fall of the share clamps the setpoints within it, and
nothing else raises a setpoint. -/
theorem drawStaysWithinShare : Obligations.DrawStaysWithinShare :=
  fun _ _ hs he => drawWithinShare_lasting.step hs.start.1 hs.draw he

end Sys2Proof.Machine
end

section
/-! SUPPORT. The Reservation Book: what every step keeps of it (R37 to R41, R54). -/

namespace Sys2Proof.Machine

open Sys2Proof.Machine.Safety

/-! ### The free id of a new record (R39) -/

/-- The id `n` places after another in the round of R39. -/
def nthAfter (id n : Nat) : Nat := (id - 1 + n) % 65535 + 1

theorem nthAfter_succ {id n : Nat} : nextAfter (nthAfter id n) = nthAfter id (n + 1) := by
  unfold nextAfter nthAfter
  split <;> omega

theorem nthAfter_zero {id : Nat} (h : 1 ≤ id ∧ id ≤ 65535) : nthAfter id 0 = id := by
  unfold nthAfter
  omega

/-- Ids taken one after another from a free-id search that finds none free are all held. -/
theorem Book.freeId_held {k : Book} {id : Nat} {fuel n : Nat}
    (h : (k.byId (k.freeId fuel (nthAfter id n))).isSome = true) :
    ∀ i ≤ fuel, (k.byId (nthAfter id (n + i))).isSome = true := by
  induction fuel generalizing n with
  | zero =>
    intro i hi
    obtain rfl : i = 0 := by omega
    exact h
  | succ f ih =>
    rw [Book.freeId] at h
    split at h
    · next hheld =>
      rw [nthAfter_succ] at h
      intro i hi
      cases i with
      | zero => exact hheld
      | succ j =>
        have := ih h j (by omega)
        rwa [show n + 1 + j = n + (j + 1) by omega] at this
    · next hfree => exact absurd h hfree

/-- With at most 32 records, a search of as many ids finds one that no record holds (R39). -/
theorem Book.freeId_free {k : Book} {id : Nat} (hid : 1 ≤ id ∧ id ≤ 65535) (hlen : k.records.length ≤ 32) :
    k.freeId (k.records.length + 1) id ∉ k.records.map (·.id) := by
  intro hmem
  rw [← Book.byId_isSome] at hmem
  have hheld := Book.freeId_held (id := id) (n := 0) (by rwa [nthAfter_zero hid])
  have hsub : (List.range (k.records.length + 2)).map (nthAfter id) ⊆ k.records.map (·.id) := by
    intro x hx
    obtain ⟨i, hi, rfl⟩ := List.mem_map.1 hx
    have := hheld i (by have := List.mem_range.1 hi; omega)
    rw [Nat.zero_add] at this
    exact Book.byId_isSome.1 this
  have hnodup : ((List.range (k.records.length + 2)).map (nthAfter id)).Nodup := by
    refine (List.nodup_map_iff_inj_on List.nodup_range).2 fun i hi j hj hij => ?_
    have := List.mem_range.1 hi
    have := List.mem_range.1 hj
    unfold nthAfter at hij
    omega
  have := (hnodup.subperm hsub).length_le
  simp at this

/-! ### Records changed, removed and made (R38 to R41, R57) -/

/-- What `BookSound` says of the book and the commit limits. -/
def BookOk (cfg : Setup) (k : Book) : Prop :=
  k.records.length ≤ 32 ∧ k.records.Pairwise Before ∧ (k.records.map (·.id)).Nodup ∧ (k.records.map (·.token)).Nodup ∧
  (∀ r ∈ k.records, RecordSound r) ∧
  (∀ c : PackClass, k.commit[c] = Book.countOf k c ∧ k.commit[c] ≤ cfg.commitLimit[c]) ∧
  (1 ≤ k.nextId ∧ k.nextId ≤ 65535) ∧ k.expired.length ≤ 8 ∧ k.expired.Nodup ∧
  (∀ r ∈ k.records, r.token ∉ k.expired) ∧ k.unknownReleases ≤ 255

theorem bookSound_iff {s : State} : BookSound s ↔ BookOk s.cfg s.book := Iff.rfl

theorem bookSound_congr {s t : State} (hbook : t.book = s.book) (hcfg : t.cfg = s.cfg) (hs : BookSound s) : BookSound t := by
  rw [bookSound_iff, hbook, hcfg]
  exact hs

/-- A record with the fields that a creation gave it (R41). -/
structure SameMade (q r : Reservation) : Prop where
  id : q.id = r.id
  token : q.token = r.token
  cls : q.cls = r.cls
  target : q.target = r.target
  windowOpen : q.windowOpen = r.windowOpen
  windowClose : q.windowClose = r.windowClose

/-- A book whose records are changed one by one, each keeping what it was made with. -/
theorem bookOk_map {cfg : Setup} {k : Book} {g : Reservation → Reservation} (hmade : ∀ r, SameMade (g r) r)
    (hlate : ∀ r ∈ k.records, (g r).late = true → ∃ b, (g r).state = .bound b) (h : BookOk cfg k) :
    BookOk cfg { k with records := k.records.map g } := by
  obtain ⟨hlen, horder, hids, htokens, hsound, hcommit, hnext, hexp, hexpnd, hfresh, hunknown⟩ := h
  refine ⟨by simpa using hlen, ?_, ?_, ?_, ?_, fun c => ?_, hnext, hexp, hexpnd, ?_, hunknown⟩
  · refine List.pairwise_map.2 (horder.imp fun {a b} hab => ?_)
    simpa only [Before, (hmade a).windowOpen, (hmade a).id, (hmade b).windowOpen, (hmade b).id] using hab
  · rw [List.map_map, show ((·.id) ∘ g) = (·.id) from funext fun r => (hmade r).id]
    exact hids
  · rw [List.map_map, show ((·.token) ∘ g) = (·.token) from funext fun r => (hmade r).token]
    exact htokens
  · intro q hq
    obtain ⟨r, hr, rfl⟩ := List.mem_map.1 hq
    obtain ⟨hid, hid', htoken, htarget, htarget', hopen, hclose, -⟩ := hsound r hr
    obtain ⟨eid, etoken, -, etarget, eopen, eclose⟩ := hmade r
    exact ⟨eid ▸ hid, eid ▸ hid', etoken ▸ htoken, etarget ▸ htarget, etarget ▸ htarget', by rw [eopen, eclose]; exact hopen,
      by rw [eopen, eclose]; exact hclose, hlate r hr⟩
  · have hcount : Book.countOf { k with records := k.records.map g } c = Book.countOf k c := by
      simp only [Book.countOf, List.filter_map, List.length_map]
      congr 1
      refine List.filter_congr fun r _ => ?_
      simp only [Function.comp, (hmade r).cls]
    rw [hcount]
    exact hcommit c
  · intro q hq
    obtain ⟨r, hr, rfl⟩ := List.mem_map.1 hq
    rw [(hmade r).token]
    exact hfresh r hr

theorem bookSound_edit {id : Nat} {f : Reservation → Reservation} {s : State} (hf : RecordEdit id f s) (hs : BookSound s) :
    BookSound (s.updateRecord id f) := by
  refine bookOk_map (fun r => ?_) (fun r hr hlate => ?_) (bookSound_iff.1 hs)
  · split
    · obtain ⟨hid, htoken, hcls, htarget, hopen, hclose⟩ := hf.made r
      exact ⟨hid, htoken, hcls, htarget, hopen, hclose⟩
    · exact ⟨rfl, rfl, rfl, rfl, rfl, rfl⟩
  · obtain ⟨-, -, hids, -, hsound, -⟩ := hs
    obtain ⟨-, -, -, -, -, -, -, hbound⟩ := hsound r hr
    split at hlate
    · next hid =>
      rw [if_pos hid]
      obtain rfl : r.id = id := by simpa using hid
      exact hf.late r (Book.byId_of_mem hids hr) hbound hlate
    · next hid =>
      rw [if_neg hid]
      exact hbound hlate

theorem pushExpired_nodup {t : Nat} {l : List Nat} (h : l.Nodup) : (pushExpired t l).Nodup := by
  refine List.Nodup.sublist (List.drop_sublist _ _) (List.nodup_append.2 ⟨h.filter _, by simp, fun a ha b hb => ?_⟩)
  obtain rfl := List.mem_singleton.1 hb
  simpa using (List.mem_filter.1 ha).2

theorem mem_pushExpired {t x : Nat} {l : List Nat} (h : x ∈ pushExpired t l) : x = t ∨ x ∈ l := by
  have := List.mem_of_mem_drop h
  simp only [List.mem_append, List.mem_filter, List.mem_singleton] at this
  tauto

/-- A class has one record fewer once one of its records is removed (R40). -/
theorem count_without {l : List Reservation} {r : Reservation} (hids : (l.map (·.id)).Nodup) (hr : r ∈ l) (c : PackClass) :
    ((l.filter (·.id ≠ r.id)).filter (·.cls == c)).length + (if r.cls = c then 1 else 0) =
      (l.filter (·.cls == c)).length := by
  induction l with
  | nil => simp at hr
  | cons x xs ih =>
    obtain ⟨hx, hxs⟩ := List.nodup_cons.1 hids
    by_cases hxr : x.id = r.id
    · have hrest : xs.filter (·.id ≠ r.id) = xs := by
        refine List.filter_eq_self.2 fun q hq => ?_
        have : q.id ≠ r.id := fun hq' => hx (List.mem_map.2 ⟨q, hq, hq'.trans hxr.symm⟩)
        simpa using this
      obtain rfl : r = x := (List.mem_cons.1 hr).resolve_right fun hmem => hx (List.mem_map.2 ⟨r, hmem, hxr.symm⟩)
      rw [List.filter_cons, if_neg (by simp), hrest, List.filter_cons]
      by_cases hc : r.cls = c <;> simp [hc]
    · have hmem : r ∈ xs := (List.mem_cons.1 hr).resolve_left fun he => hxr (by rw [he])
      have := ih hxs hmem
      rw [List.filter_cons, if_pos (by simpa using hxr), List.filter_cons, List.filter_cons]
      split
      · simp only [List.length_cons]
        omega
      · exact this

/-- A record removed, its token put on the expired-token list or not (R53, R57). -/
theorem bookOk_remove {cfg : Setup} {k : Book} {r : Reservation} {e : List Nat} (hr : r ∈ k.records)
    (he : e = k.expired ∨ e = pushExpired r.token k.expired) (h : BookOk cfg k) :
    BookOk cfg { k.remove r with expired := e } := by
  obtain ⟨hlen, horder, hids, htokens, hsound, hcommit, hnext, hexp, hexpnd, hfresh, hunknown⟩ := h
  have hsub : (k.records.filter (·.id ≠ r.id)).Sublist k.records := List.filter_sublist
  have hrest : ∀ q ∈ k.records.filter (·.id ≠ r.id), q ∈ k.records ∧ q.token ≠ r.token := by
    intro q hq
    obtain ⟨hq, hne⟩ := List.mem_filter.1 hq
    refine ⟨hq, fun htoken => ?_⟩
    have := (List.nodup_map_iff_inj_on (List.Nodup.of_map _ hids)).1 htokens q hq r hr htoken
    simp [this] at hne
  have hcount : ∀ c : PackClass, Book.countOf (k.remove r) c = Book.countOf k c - if r.cls = c then 1 else 0 := by
    intro c
    have := count_without hids hr c
    simp only [Book.countOf, Book.remove]
    omega
  refine ⟨hsub.length_le.trans hlen, horder.sublist hsub, hids.sublist (hsub.map _), htokens.sublist (hsub.map _),
    fun q hq => hsound q (hrest q hq).1, fun c => ?_, hnext, ?_, ?_, fun q hq => ?_, hunknown⟩
  · obtain ⟨heq, hle⟩ := hcommit c
    have hset : (k.remove r).commit[c] = k.commit[c] - if r.cls = c then 1 else 0 := by
      simp only [Book.remove, Fin.getElem_fin, Vector.getElem_set, ← Fin.ext_iff]
      split
      · next hc => simp [hc]
      · simp
    have hcount' := hcount c
    exact ⟨by rw [show (_ : Nat) = _ from hset, heq]; exact hcount'.symm, by
      rw [show (_ : Nat) = _ from hset]; omega⟩
  · obtain rfl | rfl := he
    · exact hexp
    · exact pushExpired_length _ _
  · obtain rfl | rfl := he
    · exact hexpnd
    · exact pushExpired_nodup hexpnd
  · obtain ⟨hmem, htoken⟩ := hrest q hq
    obtain rfl | rfl := he
    · exact hfresh q hmem
    · exact fun hpushed => (mem_pushExpired hpushed).elim htoken (hfresh q hmem)

theorem insertRecord_pairwise {r : Reservation} {l : List Reservation} (hid : r.id ∉ l.map (·.id)) (h : l.Pairwise Before) :
    (insertRecord r l).Pairwise Before := by
  induction l with
  | nil => simp [insertRecord]
  | cons x xs ih =>
    obtain ⟨hx, hxs⟩ := List.pairwise_cons.1 h
    simp only [List.map_cons, List.mem_cons, not_or] at hid
    rw [insertRecord]
    split
    · next hbefore =>
      have hrx : Before r x := by
        simp only [inBookOrder, Bool.or_eq_true, Bool.and_eq_true, decide_eq_true_eq, beq_iff_eq] at hbefore
        unfold Before
        omega
      refine List.pairwise_cons.2 ⟨fun y hy => ?_, h⟩
      obtain rfl | hy := List.mem_cons.1 hy
      · exact hrx
      · have := hx y hy
        unfold Before at hrx this ⊢
        omega
    · next hbefore =>
      refine List.pairwise_cons.2 ⟨fun y hy => ?_, ih hid.2 hxs⟩
      obtain rfl | hy := mem_insertRecord.1 hy
      · simp only [inBookOrder, Bool.or_eq_true, Bool.and_eq_true, decide_eq_true_eq, beq_iff_eq] at hbefore
        unfold Before
        omega
      · exact hx y hy

theorem Request.record_sound {id : Nat} {q : Request} (hid : 1 ≤ id ∧ id ≤ 65535) (htoken : q.token ≠ 0) :
    RecordSound (q.record id) := by
  unfold RecordSound Request.record limitTo
  simp only [Bool.false_eq_true, false_implies, and_true]
  omega

/-- A record created where every check of R41 passes (R39 to R41, R54). -/
theorem bookOk_insert {cfg : Setup} {k : Book} {q : Request} (hcheck : k.check cfg q = none) (h : BookOk cfg k) :
    BookOk cfg (k.insert (k.freeId (k.records.length + 1) k.nextId) q) := by
  obtain ⟨htoken, hother, hroom, hlimit⟩ := Book.check_none.1 hcheck
  obtain ⟨hlen, horder, hids, htokens, hsound, hcommit, hnext, hexp, hexpnd, hfresh, hunknown⟩ := h
  have hfree := Book.freeId_free hnext hlen
  have hrange := Book.freeId_range (k := k) (fuel := k.records.length + 1) hnext
  generalize k.freeId (k.records.length + 1) k.nextId = id at hfree hrange
  have hperm := insertRecord_perm (q.record id) k.records
  refine ⟨by rw [Book.insert, insertRecord_length]; omega, insertRecord_pairwise hfree horder, ?_, ?_, fun r hr => ?_,
    fun c => ?_, nextAfter_range id, (List.length_filter_le _ _).trans hexp, hexpnd.filter _, fun r hr => ?_, hunknown⟩
  · exact (hperm.map _).nodup_iff.2 (List.nodup_cons.2 ⟨hfree, hids⟩)
  · refine (hperm.map _).nodup_iff.2 (List.nodup_cons.2 ⟨fun hmem => ?_, htokens⟩)
    obtain ⟨r, hr, hrt⟩ := List.mem_map.1 hmem
    exact hother r hr hrt
  · obtain rfl | hr := mem_insertRecord.1 hr
    · exact Request.record_sound hrange htoken
    · exact hsound r hr
  · obtain ⟨heq, hle⟩ := hcommit c
    have hcount : Book.countOf (k.insert id q) c = Book.countOf k c + if q.cls = c then 1 else 0 := by
      have hlength := (hperm.filter (·.cls == c)).length_eq
      simp only [Book.countOf, Book.insert, hlength, List.filter_cons]
      by_cases hc : q.cls = c <;> simp [Request.record, hc]
    have hset : (k.insert id q).commit[c] = k.commit[c] + if q.cls = c then 1 else 0 := by
      simp only [Book.insert, Fin.getElem_fin, Vector.getElem_set, ← Fin.ext_iff]
      split
      · next hc => simp [hc]
      · rfl
    rw [hset, hcount, heq]
    refine ⟨rfl, ?_⟩
    split
    · next hc =>
      subst hc
      omega
    · omega
  · simp only [Book.insert, List.mem_filter, not_and]
    obtain rfl | hr := mem_insertRecord.1 hr
    · simp [Request.record]
    · exact fun hmem => absurd hmem (hfresh r hr)

theorem bookSound_apart : KeptApart BookSound where
  aside _ _ _ _ _ hs := hs
  request _ hs := hs
  enterBay b n s := bookSound_congr (by simp) (by simp)
  putBay _ _ _ _ hs := hs
  edit _ _ _ hf := bookSound_edit hf
  drop _ _ _ hr he := bookOk_remove hr he
  unknown s hs := by
    obtain ⟨hlen, horder, hids, htokens, hsound, hcommit, hnext, hexp, hexpnd, hfresh, -⟩ := hs
    exact ⟨hlen, horder, hids, htokens, hsound, hcommit, hnext, hexp, hexpnd, hfresh, Nat.min_le_left _ _⟩
  endGrant c s _ := bookSound_congr (by simp) (by simp)
  fault _ _ hs := hs
  renew _ _ _ _ _ hs := hs
  decide s _ := bookSound_congr (by simp) (by simp)
  reshare f s _ := bookSound_congr (by simp) (by simp)
  claimTimer _ _ hs := hs
  templates _ _ _ hs := hs
  setSlot _ _ _ _ hs := hs
  dropped _ hs := hs

theorem bookOk_restart (cfg : Setup) : BookOk cfg .restart := by
  simp [BookOk, Book.restart, Book.countOf]

theorem bookSound_lasting : Lasting BookSound where
  toKept := bookSound_apart.kept
  setpoints _ _ _ hs := hs
  sets _ _ _ _ hs := hs
  order _ _ _ hs := hs
  startPass _ hs := hs
  idle _ _ hs := hs
  create q s hcheck := bookOk_insert hcheck
  startSend n _ := bookSound_apart.startSend n
  clearLog _ hs := hs
  unread _ _ _ _ _ _ hs := hs
  outputs _ _ hs := hs
  settle s := bookSound_congr (by rw [State.settlePass_eq]) (by rw [State.settlePass_eq])
  enterRun record s hunset hpart _ := by
    rw [bookSound_iff, show (s.enterRun record).book = .restart from (hunset hpart).1]
    exact bookOk_restart _
  restarted s := bookOk_restart _
  advance s := by
    obtain ⟨asks, plan, boost, feed, ts, heq, -⟩ := s.advance_eq
    exact bookSound_congr (by rw [heq]) (by rw [heq])

/-- Settles O6: a record is made under a free id with an unheld token, changed in its state and door alone, and removed with
its commitment. -/
theorem bookStaysSound : Obligations.BookStaysSound :=
  fun _ _ hs he => bookSound_lasting.step hs.start.1 hs.book he

end Sys2Proof.Machine
end

section
/-! SUPPORT. The part in UNSET and in restart: its blocks stay at their restart values (R168, R172, R176). -/

namespace Sys2Proof.Machine

open Sys2Proof.Machine.Safety

/-! ### An UNSET part -/

/-- An UNSET part with its blocks at their restart values. -/
structure UnsetPart (s : State) : Prop where
  part : s.part = .unset
  book : s.book = .restart
  asks : s.asks = .restart
  plan : s.plan = .restart
  boost : s.boost = .restart
  feed : s.feed = .restart
  ts : s.ts = .restart
  cfg : s.cfg = .unloaded
  outQueue : s.line.outQueue = []
  sending : s.line.sending = none
  bays : ∀ b : BayNo, BayUnset (s.bay b)

theorem unsetHeld_iff {s : State} (hpart : s.part = .unset) : UnsetHeld s ↔ UnsetPart s :=
  ⟨fun h => by
    obtain ⟨hbook, hasks, hplan, hboost, hfeed, hts, hcfg, hout, hsending, hbays⟩ := h hpart
    exact ⟨hpart, hbook, hasks, hplan, hboost, hfeed, hts, hcfg, hout, hsending, hbays⟩,
    fun h _ => ⟨h.book, h.asks, h.plan, h.boost, h.feed, h.ts, h.cfg, h.outQueue, h.sending, h.bays⟩⟩

/-- What a block that keeps its restart values may change with no effect on them. -/
theorem UnsetPart.aside {s : State} (h : UnsetPart s) (pins : Pins) (clock : Clock) (assembly : Option Assembly)
    (store : SetupStore) (flags : BitVec 34) (out : Outputs) (free : Nat) (pending : List Instr) {l : LineController}
    (hout : l.outQueue = []) (hsending : l.sending = none) :
    UnsetPart { s with pins, clock, assembly, store, flags, out, free, pending, line := l } :=
  ⟨h.part, h.book, h.asks, h.plan, h.boost, h.feed, h.ts, h.cfg, hout, hsending, h.bays⟩

theorem UnsetPart.line {s : State} (h : UnsetPart s) {l : LineController} (hout : l.outQueue = []) (hsending : l.sending = none) :
    UnsetPart { s with line := l } := h.aside _ _ _ _ _ _ _ _ hout hsending

/-- In UNSET a notice sets its flag and is not posted (R168). -/
theorem UnsetPart.raise_eq {s : State} (h : UnsetPart s) (n : Notice) :
    s.raise n = { s with flags := setFlag n.code s.flags } := by
  unfold State.raise
  dsimp only
  split
  · rfl
  · rw [State.post]
    simp [h.part]

theorem UnsetPart.raise {s : State} (h : UnsetPart s) (n : Notice) : UnsetPart (s.raise n) := by
  rw [h.raise_eq]
  exact h.aside _ _ _ _ _ _ _ _ h.outQueue h.sending

/-- A frame that a block takes in RUN alone is discarded in UNSET. -/
theorem UnsetPart.fromAsk {s : State} (h : UnsetPart s) {f : AskFrame → Option (State → State)}
    (hf : ∀ x body, f x = some body → ∀ u, UnsetPart u → UnsetPart (body u)) : UnsetPart (s.fromAsk f) := by
  unfold State.fromAsk
  split
  · exact h
  · split
    · next body hx => exact hf _ body hx _ (h.line h.outQueue h.sending)
    · exact h

theorem UnsetPart.fromPeer {s : State} (h : UnsetPart s) {f : PeerFrame → Option (State → State)}
    (hf : ∀ x body, f x = some body → ∀ u, UnsetPart u → UnsetPart (body u)) : UnsetPart (s.fromPeer f) := by
  unfold State.fromPeer
  split
  · exact h
  · split
    · next body hx => exact hf _ body hx _ (h.line h.outQueue h.sending)
    · exact h

theorem UnsetPart.inRun_eq {s : State} (h : UnsetPart s) (body : State → State) : inRun body s = s := by
  simp [inRun, h.part]

theorem UnsetPart.addressed_eq {s : State} (h : UnsetPart s) (st : Station) (body : State → State) : addressed st body s = s :=
  h.inRun_eq _

/-- The restart values of a bay that commands look at. -/
theorem bayUnset_fields {b : Bay} (h : BayUnset b) :
    b.state = .off .link ∧ b.lockPending = false ∧ b.locked = true ∧ b.dataTimer = none ∧ b.handover = none := by
  rw [h]
  exact ⟨rfl, rfl, rfl, rfl, rfl⟩

theorem bayUnset_noted {x : Bay} (h : BayUnset x) (age : Nat) (p : Option Bool) :
    BayUnset { x with reportAge := age, lastPresent := p } := by
  unfold BayUnset at h
  rw [h]
  rfl

theorem bayUnset_doorStep {x : Bay} (h : BayUnset x) (r : Report) : BayUnset (x.doorStep r) := by
  unfold BayUnset at h
  rw [h]
  rfl

/-! ### The Line Controller in UNSET (R162 to R167) -/

theorem UnsetPart.setCounts {s : State} (h : UnsetPart s) (send recv : Nat) (st : LineState) (gaps : Option Nat) :
    UnsetPart ((s.setLine send recv st gaps).setCaution) := by
  have hcaution : ∀ u, UnsetPart u → UnsetPart u.setCaution := by
    intro u hu
    unfold State.setCaution
    dsimp only
    split
    · refine UnsetPart.raise ?_ _
      exact hu.line hu.outQueue hu.sending
    · exact hu.line hu.outQueue hu.sending
  refine hcaution _ ?_
  unfold State.setLine
  dsimp only
  split
  · exact h.line h.outQueue h.sending
  · have htold : ∀ (l : LineState) (u : State), UnsetPart u → u.tellLineState l = u := by
      intro l u hu
      rw [State.tellLineState]
      simp [hu.part]
    refine UnsetPart.raise ?_ _
    have hset : UnsetPart { s with line := { s.line with sendCount := send, recvCount := recv, state := st, gaps := gaps } } :=
      h.line h.outQueue h.sending
    rw [htold st _ hset]
    exact hset

theorem UnsetPart.logError {s : State} (h : UnsetPart s) (e : LineError) : UnsetPart (s.logError e) := by
  obtain ⟨-, heq⟩ | ⟨-, -, heq⟩ | ⟨-, -, heq⟩ := State.logError_cases e s <;> rw [heq]
  · exact h.line h.outQueue h.sending
  · exact h.line h.outQueue h.sending
  · refine UnsetPart.raise ?_ _
    exact h.line h.outQueue h.sending

theorem UnsetPart.sortGood {s : State} (h : UnsetPart s) (f : RawFrame) : UnsetPart (s.sortGood f) := by
  have hfree : UnsetPart (s.useFree (missingBytes f)) := h.aside _ _ _ _ _ _ _ _ h.outQueue h.sending
  unfold State.sortGood
  dsimp only
  split
  · next a _ =>
    obtain ⟨-, heq⟩ | ⟨-, heq⟩ := LineController.storeAsk_cases a (s.useFree (missingBytes f)).line <;> rw [heq] <;>
      exact hfree.line hfree.outQueue hfree.sending
  · next p _ =>
    obtain ⟨-, heq⟩ | ⟨-, heq⟩ := LineController.storePeer_cases p (s.useFree (missingBytes f)).line <;> rw [heq] <;>
      exact hfree.line hfree.outQueue hfree.sending
  · exact hfree

theorem UnsetPart.receive {s : State} (h : UnsetPart s) (r : Reception) : UnsetPart (s.receive r) := by
  have hbad : ∀ e, UnsetPart (s.receiveBad e) := by
    intro e
    have hflag : UnsetPart (if s.line.state = .full then { s with out.flagged := true } else s) := by
      split
      · exact h.aside _ _ _ _ _ _ _ _ h.outQueue h.sending
      · exact h
    unfold State.receiveBad
    dsimp only
    generalize (if s.line.state = .full then { s with out.flagged := true } else s) = u at hflag
    split
    · exact hflag.logError _
    · exact (hflag.setCounts _ _ _ _).logError _
  have hgood : ∀ f, UnsetPart (s.receiveGood f) := by
    intro f
    unfold State.receiveGood
    dsimp only
    split
    · exact (h.aside _ _ _ _ _ _ _ _ h.outQueue h.sending).sortGood _
    · exact ((h.aside _ _ _ _ _ _ _ _ h.outQueue h.sending).setCounts _ _ _ _).sortGood _
  unfold State.receive
  split
  · exact hbad _
  · split
    · exact hbad _
    · exact hgood _

theorem UnsetPart.countGaps {s : State} (h : UnsetPart s) (n : Nat) : UnsetPart (s.countGaps n) := by
  obtain ⟨-, heq⟩ | ⟨g, hg, ⟨-, heq⟩ | ⟨-, heq⟩⟩ := State.countGaps_cases n s <;> rw [heq]
  · exact h
  · exact h.line h.outQueue h.sending
  · exact h.setCounts _ _ _ _

/-! ### Reports and setup in UNSET (R6, R22, R175, R176) -/

theorem UnsetPart.setBay {s : State} (h : UnsetPart s) {b : BayNo} {x : Bay} (hx : BayUnset x) : UnsetPart (s.setBay b x) := by
  refine ⟨h.part, h.book, h.asks, h.plan, h.boost, h.feed, h.ts, h.cfg, h.outQueue, h.sending, fun d => ?_⟩
  rw [State.setBay_bay]
  split
  · exact hx
  · exact h.bays d

theorem UnsetPart.takeReport {s : State} (h : UnsetPart s) (b : BayNo) (r : Report) : UnsetPart (s.takeReport b r) := by
  have hnote : UnsetPart (s.noteReport b r) := by
    refine h.setBay ?_
    exact bayUnset_noted (h.bays b) _ _
  have hdoor : UnsetPart ((s.noteReport b r).doorStep b r) := by
    have hbay : BayUnset (((s.noteReport b r).bay b).doorStep r) := by
      exact bayUnset_doorStep (hnote.bays b) r
    unfold State.doorStep
    dsimp only
    split
    · exact (hnote.setBay hbay).raise _
    · exact hnote.setBay hbay
  unfold State.takeReport
  dsimp only
  simpa [hnote.part, hdoor.part] using hdoor

theorem UnsetPart.setSelect {s : State} (h : UnsetPart s) (level : Bool) : UnsetPart (s.setSelect level) := by
  unfold State.setSelect
  dsimp only
  split <;> exact h.aside _ _ _ _ _ _ _ _ h.outQueue h.sending

/-- A piece leaves the part UNSET as it was, or brings it into RUN. -/
theorem UnsetPart.takePiece {s : State} (h : UnsetPart s) (n : Nat) (content : List Byte) :
    UnsetPart (s.takePiece n content) ∨ (s.takePiece n content).part = .run := by
  have hassembly : ∀ a, UnsetPart { s with assembly := a } := fun a => h.aside _ _ _ _ _ _ _ _ h.outQueue h.sending
  unfold State.takePiece
  split
  · split
    · split
      · unfold State.finishAssembly
        dsimp only
        split
        · exact .inr (by simp [State.enterRun, State.request])
        · exact .inl (hassembly _)
      · exact .inl (hassembly _)
    · exact .inl (hassembly _)
  · exact .inl (hassembly _)

theorem UnsetPart.takeSetup {s : State} (h : UnsetPart s) (n : Nat) (content : List Byte) :
    UnsetPart (s.takeSetup n content) ∨ (s.takeSetup n content).part = .run := by
  unfold State.takeSetup
  simp only [h.part]
  split
  · exact h.takePiece n content
  · exact .inl h

/-! ### Every command in UNSET -/

/-- Blocks at their restart values have nothing due: their timers and instants bring nothing about. -/
theorem UnsetPart.idle {s : State} (h : UnsetPart s) :
    (∀ b, s.loseLink b = s) ∧ (∀ b, s.dataTimerEnds b = s) ∧ (∀ b, s.handoverTimerEnds b = s) ∧ (∀ b, s.ajarTimerEnds b = s) ∧
    (∀ i, s.bidEnds i = s) ∧ (∀ i, s.discardEnds i = s) ∧ (∀ id, s.expiryCheck id = s) ∧ s.periodEnds = s ∧
    s.completePass = s ∧ s.sliceEnds = s ∧ s.switchEnds = s ∧ s.loseMeter = s ∧ (∀ st, s.stalePeer st = s) ∧
    (∀ st, s.losePeer st = s) ∧ s.claimTimerEnds = s ∧ (∀ st, s.contextTimesOut st = s) ∧ (∀ t, s.instantPassed t = s) ∧
    s.dayRolls = s ∧ (∀ n, s.startSend n = s) ∧ ∀ r, s.endSend r = s := by
  have hbay := fun b => bayUnset_fields (h.bays b)
  refine ⟨fun b => ?_, fun b => ?_, fun b => ?_, fun b => ?_, fun i => ?_, fun i => ?_, fun id => ?_, ?_, ?_, ?_, ?_, ?_,
    fun st => ?_, fun st => ?_, ?_, fun st => ?_, fun t => ?_, ?_, fun n => ?_, fun r => ?_⟩
  · simp [State.loseLink, Bay.linkDue, (hbay b).1]
  · simp [State.dataTimerEnds, Bay.dataDue, (hbay b).2.2.2.1]
  · simp [State.handoverTimerEnds, (hbay b).2.2.2.2]
  · simp [State.ajarTimerEnds, (hbay b).2.2.2.2]
  · simp [State.bidEnds, h.asks, AskTable.restart]
  · simp [State.discardEnds, h.asks, AskTable.restart]
  · simp [State.expiryCheck, h.book, Book.restart, Book.byId]
  · simp [State.periodEnds, h.plan, Planner.restart]
  · simp [State.completePass, h.plan, Planner.restart]
  · simp [State.sliceEnds, h.boost, Arbiter.restart]
  · simp [State.switchEnds, h.boost, Arbiter.restart]
  · simp [State.loseMeter, h.part]
  · simp [State.stalePeer, h.feed, Feed.restart]
  · simp [State.losePeer, h.feed, Feed.restart]
  · simp [State.claimTimerEnds, h.feed, Feed.restart]
  · simp [State.contextTimesOut, h.ts, TemplateStore.restart]
  · simp [State.instantPassed, h.ts, TemplateStore.restart]
  · simp [State.dayRolls, h.ts, TemplateStore.restart]
  · simp [State.startSend, State.maySend, h.part]
  · simp [State.endSend, h.sending]

/-- What an UNSET part is after an event: still UNSET at its restart values, or in RUN. -/
def UnsetOrRun (s : State) : Prop := UnsetPart s ∨ s.part = .run

/-- A frame taken in RUN alone. -/
theorem unsetOrRun_fromAsk {s : State} (h : UnsetPart s) {f : AskFrame → Option (State → State)}
    (hf : ∀ x body, f x = some body → ∃ g, body = inRun g) : UnsetOrRun (s.fromAsk f) :=
  .inl (h.fromAsk fun x body hx u hu => by
    obtain ⟨g, rfl⟩ := hf x body hx
    rw [hu.inRun_eq]
    exact hu)

theorem unsetOrRun_fromPeer {s : State} (h : UnsetPart s) {f : PeerFrame → Option (State → State)}
    (hf : ∀ x body, f x = some body → ∃ g, body = inRun g) : UnsetOrRun (s.fromPeer f) :=
  .inl (h.fromPeer fun x body hx u hu => by
    obtain ⟨g, rfl⟩ := hf x body hx
    rw [hu.inRun_eq]
    exact hu)

theorem takeDrop_inRun {m : DropMode} {x : AskFrame} {body : State → State} (h : takeDrop m x = some body) :
    ∃ g, body = inRun g := by
  unfold takeDrop at h
  split at h
  · split at h
    · exact ⟨_, (Option.some.inj h).symm⟩
    · simp at h
  · simp at h

theorem unsetOrRun_setup {s : State} (h : UnsetPart s) (g : Setting) :
    UnsetOrRun (s.fromAsk fun f =>
      match f.body with
      | .setup piece content => some fun s => (s.setSelect g.select).takeSetup piece content
      | _ => none) := by
  unfold State.fromAsk
  split
  · exact .inl h
  · next x rest _ =>
    split
    · next body hx =>
      dsimp only at hx
      split at hx
      · obtain rfl := Option.some.inj hx
        exact UnsetPart.takeSetup (UnsetPart.setSelect (h.line (l := { s.line with askQueue := rest }) h.outQueue h.sending) _) _ _
      · simp at hx
    · exact .inl h

/-- No command but an entry to RUN takes the blocks of an UNSET part from their restart values (R176). -/
theorem UnsetPart.exec {c : Instr} {s t : State} (h : UnsetPart s) (hlive : s.pins.restart = false)
    (hpins : c ≠ .restartAsserted ∧ ∀ erase, c ≠ .restart erase) (hcut : ∀ g, c = .setup g → (g.cut && s.bringsWrite g.select) = false)
    (he : Sys2Proof.Machine.exec c s = .next t) : EndsWith UnsetOrRun s t := by
  have hq : UnsetPart s.quiet := h.aside _ _ _ _ _ _ _ _ h.outQueue h.sending
  obtain ⟨hlink, hdata, hhandover, hajar, hbid, hdiscard, hexpiry, hperiod, hpass, hslice, hswitch, hmeter, hstale, hlost,
    hclaim, hcontext, hinstant, hroll, hsend, hend⟩ := hq.idle
  have hsame : ∀ body : State → State, body s.quiet = s.quiet → UnsetOrRun (body s.quiet) :=
    fun body hbody => by rw [hbody]; exact .inl hq
  cases c with
  | restart erase => exact absurd rfl (hpins.2 erase)
  | restartAsserted => exact absurd rfl hpins.1
  | setup g =>
    simp only [Sys2Proof.Machine.exec, execSetup, hcut g rfl, Bool.false_eq_true, if_false] at he
    exact endsWith_event hlive (unsetOrRun_setup hq g) he
  | selectRelease =>
    refine ⟨none, _, .inl (hq.setSelect false), ?_⟩
    have : State.finish none s (s.quiet.setSelect false) = t := by
      simpa [Sys2Proof.Machine.exec, execSelectRelease, hlive] using he
    exact this.symm
  | bayReport b r =>
    simp only [Sys2Proof.Machine.exec, execBayReport] at he
    split at he
    · rw [State.take_live hlive] at he
      exact ⟨some b, _, .inl (hq.takeReport b _), (Host.Outcome.next.inj he).symm⟩
    · exact endsWith_event hlive (.inl hq) he
  | linkLoss b => exact endsWith_event hlive (hsame _ (hlink b)) he
  | dataTimerExpiry b => exact endsWith_event hlive (hsame _ (hdata b)) he
  | handoverTimerExpiry b => exact endsWith_event hlive (hsame _ (hhandover b)) he
  | doorAjarTimerExpiry b => exact endsWith_event hlive (hsame _ (hajar b)) he
  | bidWindowEnd i => exact endsWith_event hlive (hsame _ (hbid i)) he
  | discardTimerExpiry i => exact endsWith_event hlive (hsame _ (hdiscard i)) he
  | recordExpiry id => exact endsWith_event hlive (hsame _ (hexpiry id)) he
  | periodTimerExpiry => exact endsWith_event hlive (hsame _ hperiod) he
  | passCompletion => exact endsWith_event hlive (hsame _ hpass) he
  | sliceTimerExpiry => exact endsWith_event hlive (hsame _ hslice) he
  | switchTimerExpiry => exact endsWith_event hlive (hsame _ hswitch) he
  | meterLost => exact endsWith_event hlive (hsame _ hmeter) he
  | peerStale st => exact endsWith_event hlive (hsame _ (hstale st)) he
  | peerLost st => exact endsWith_event hlive (hsame _ (hlost st)) he
  | claimTimerExpiry => exact endsWith_event hlive (hsame _ hclaim) he
  | templateContextTimeout st => exact endsWith_event hlive (hsame _ (hcontext st)) he
  | templateInstant i => exact endsWith_event hlive (hsame _ (hinstant i)) he
  | dayRoll => exact endsWith_event hlive (hsame _ hroll) he
  | sendStart n => exact endsWith_event hlive (hsame _ (hsend n)) he
  | sendEnd r => exact endsWith_event hlive (hsame _ (hend r)) he
  | frameReceive r => exact endsWith_event hlive (.inl (hq.receive r)) he
  | rejoin n => exact endsWith_event hlive (.inl (hq.countGaps n)) he
  | templateDropOne | templateDropAllTemporary | templateDropAll | templateDropMakeTemporary | templateDropMakeKept =>
    exact endsWith_event hlive (unsetOrRun_fromAsk hq fun _ _ => takeDrop_inRun) he
  | serviceOff | serviceOn | swapAsk | release | claim | templateOpen | templateBody | statusAsk | statusClear =>
    refine endsWith_event hlive (unsetOrRun_fromAsk hq fun x body hx => ?_) he
    split at hx
    · exact ⟨_, (Option.some.inj hx).symm⟩
    · simp at hx
  | serviceBadAction | templateDropBadMode =>
    refine endsWith_event hlive (unsetOrRun_fromAsk hq fun x body hx => ?_) he
    split at hx
    · split at hx
      · exact ⟨_, (Option.some.inj hx).symm⟩
      · simp at hx
    · simp at hx
  | offer | siteFeed | drawClaim | dayTime =>
    refine endsWith_event hlive (unsetOrRun_fromPeer hq fun x body hx => ?_) he
    split at hx
    · exact ⟨_, (Option.some.inj hx).symm⟩
    · simp at hx

/-! ### The part state and the RESTART pin (R172) -/

/-- A part in RUN with RESTART released: the start rules ask nothing of it. -/
def RunReleased (s : State) : Prop := s.part = .run ∧ s.pins.restart = false

theorem startSound_of_released {s : State} (hpart : UnsetOrRun s) (hpin : s.pins.restart = false) : StartSound s := by
  refine ⟨?_, fun hheld => by simp [hpin] at hheld⟩
  obtain h | h := hpart
  · exact (unsetHeld_iff h.part).2 h
  · exact fun hunset => by simp [h] at hunset

/-- A property of the part state and the RESTART pin alone. -/
theorem keptApart_pins {Q : Part → Bool → Prop} : KeptApart fun s => Q s.part s.pins.restart where
  aside _ _ _ _ _ hs := hs
  request _ hs := hs
  enterBay b n s hs := by simpa using hs
  putBay _ _ _ _ hs := hs
  edit _ _ _ _ hs := hs
  drop _ _ _ _ _ hs := hs
  unknown _ hs := hs
  endGrant c s _ hs := by simpa using hs
  fault _ _ hs := hs
  renew _ _ _ _ _ hs := hs
  decide s _ hs := by simpa using hs
  reshare f s _ hs := by
    obtain ⟨v, q, heq, -⟩ := s.reshare_eq f
    rw [heq]; exact hs
  claimTimer _ _ hs := hs
  templates _ _ _ hs := hs
  setSlot _ _ _ _ hs := hs
  dropped _ hs := hs

theorem State.takePiece_pins (n : Nat) (content : List Byte) (s : State) : (s.takePiece n content).pins = s.pins := by
  unfold State.takePiece
  split
  · split
    · split
      · unfold State.finishAssembly
        dsimp only
        split
        · simp [State.enterRun, State.request]
        · rfl
      · rfl
    · rfl
  · rfl

@[simp] theorem State.setSelect_restart (level : Bool) (s : State) : (s.setSelect level).pins.restart = s.pins.restart := by
  unfold State.setSelect
  dsimp only
  split <;> rfl

theorem keptPass_pins {Q : Part → Bool → Prop} : KeptPass fun s => Q s.part s.pins.restart where
  toKept := keptApart_pins.kept
  setpoints _ _ _ hs := hs
  sets _ _ _ _ hs := hs
  order _ _ _ hs := hs
  startPass _ hs := hs
  idle _ _ hs := hs

theorem covers_pins {Q : Part → Bool → Prop} (hpiece : ∀ r, Q .unset r → Q .run r) (c : Instr) :
    Covers (fun s => Q s.part s.pins.restart) c where
  new _ _ _ _ hs := hs
  pass _ _ hs := keptPass_pins.completePass hs
  send n _ s hs := keptApart_pins.startSend n hs
  clear _ m s hs := by
    unfold State.clearFlags
    dsimp only
    split <;> exact hs
  select _ level s hs := by simpa using hs
  piece _ n content s hunset hpart hs := by
    rw [hpart] at hs
    rw [State.takePiece_pins]
    obtain h | h := ((unsetHeld_iff hpart).1 hunset).takePiece n content
    · rw [h.part]
      exact hs
    · rw [h]
      exact hpiece _ hs

@[simp] theorem State.settlePass_part (s : State) : s.settlePass.part = s.part := by rw [State.settlePass_eq]
@[simp] theorem State.settlePass_pins (s : State) : s.settlePass.pins = s.pins := by rw [State.settlePass_eq]

theorem State.settlePass_same {s : State} (h : s.plan.requested = false) : s.settlePass = s := by
  simp [State.settlePass, h]

/-- The end of an event leaves an UNSET part at its restart values (R82). -/
theorem UnsetOrRun.finish {s : State} (h : UnsetOrRun s) (reply : Option BayNo) (s₀ : State) :
    UnsetOrRun (State.finish reply s₀ s) := by
  obtain h | h := h
  · have hsettled : s.settlePass = s := State.settlePass_same (by rw [h.plan]; rfl)
    refine .inl ?_
    unfold State.finish
    dsimp only
    rw [hsettled]
    exact h.aside _ _ _ _ _ _ _ _ h.outQueue h.sending
  · exact .inr ((State.settlePass_part s).trans h)

theorem unsetPart_restarted (s : State) : UnsetPart s.restarted := (unsetHeld_iff rfl).1 s.restarted_unsetHeld

/-- A part started with RESTART released is UNSET at its restart values or in RUN (R172). -/
theorem unsetOrRun_start (erase : Bool) (s : State) : UnsetOrRun (s.start erase).settlePass ∧
    (s.start erase).settlePass.pins.restart = false := by
  have hrestarted := unsetPart_restarted s
  unfold State.start
  dsimp only
  split
  · exact ⟨.inr (by rw [State.settlePass_part]; rfl), by rw [State.settlePass_pins]; rfl⟩
  · refine ⟨.inl ?_, by rw [State.settlePass_pins]⟩
    rw [State.settlePass_same rfl]
    exact hrestarted.aside _ _ _ _ _ _ _ _ hrestarted.outQueue hrestarted.sending

theorem restartHeld_restarted (s : State) (pins : Pins) (store : SetupStore) (free : Nat) :
    RestartHeld { s.restarted with pins, store, free } :=
  fun _ => ⟨rfl, rfl, rfl, rfl, rfl, fun b => by simp [State.restarted, State.reset, State.bay]⟩

theorem startSound_exec {c : Instr} {s t : State} (hs : StartSound s) (he : exec c s = .next t) : StartSound t := by
  obtain ⟨hunset, hheld⟩ := hs
  cases execCases he with
  | restart erase =>
    obtain ⟨hpart, hpin⟩ := unsetOrRun_start erase s
    exact startSound_of_released hpart hpin
  | asserted =>
    have h := unsetPart_restarted s
    exact ⟨(unsetHeld_iff rfl).2 (h.aside _ _ _ _ _ _ _ _ h.outQueue h.sending), restartHeld_restarted s _ _ _⟩
  | cut =>
    have h := unsetPart_restarted s
    exact ⟨(unsetHeld_iff rfl).2 (h.aside _ _ _ _ _ _ _ _ h.outQueue h.sending), restartHeld_restarted s _ _ _⟩
  | held pins hon _ => exact ⟨hunset, fun _ => hheld hon⟩
  | live hlive hpins hcut hends =>
    obtain ⟨reply, u, hu, rfl⟩ := hends _ (keptApart_pins (Q := fun _ r => r = false)).kept.rules
      (covers_pins (Q := fun _ r => r = false) (fun _ h => h) c) (fun _ _ => hunset) hlive
    have hpin : (State.finish reply s u).pins.restart = false := by
      show u.settlePass.pins.restart = false
      rw [State.settlePass_pins]
      exact hu
    refine startSound_of_released ?_ hpin
    obtain hp | hp := s.part_cases
    · obtain ⟨reply', v, hv, heq⟩ := ((unsetHeld_iff hp).1 hunset).exec hlive hpins hcut he
      rw [heq]
      exact hv.finish reply' s
    · obtain ⟨reply', v, hv, heq⟩ := hends _ (keptApart_pins (Q := fun p _ => p = .run)).kept.rules
        (covers_pins (Q := fun p _ => p = .run) (fun _ _ => rfl) c) (fun _ _ => hunset) hp
      rw [heq]
      exact UnsetOrRun.finish (.inr hv) reply' s

theorem startSound_tick {s : State} (hs : StartSound s) : StartSound s.tick := by
  obtain ⟨hunset, hheld⟩ := hs
  unfold State.tick
  dsimp only
  split
  · exact ⟨hunset, hheld⟩
  · next hlive =>
    obtain ⟨asks, plan, boost, feed, ts, heq, hrest, -⟩ := s.quiet.advance_eq
    rw [heq]
    refine startSound_of_released ?_ (by simpa using hlive)
    obtain hp | hp := s.part_cases
    · obtain ⟨rfl, rfl, rfl, rfl, rfl⟩ := hrest hp
      have h := (unsetHeld_iff hp).1 hunset
      refine .inl ⟨hp, h.book, h.asks, h.plan, h.boost, h.feed, h.ts, h.cfg, h.outQueue, h.sending, fun b => ?_⟩
      have hb := h.bays b
      unfold BayUnset at hb
      have htick : BayUnset (s.bay b).tick := by
        rw [hb]
        rfl
      simpa [State.bay] using htick
    · exact .inr hp

/-- Settles O4: the blocks of an UNSET part have nothing due and take no frame, and a part held in restart takes no command. -/
theorem unsetKeepsRestartValues : Obligations.UnsetKeepsRestartValues := by
  intro s t hs he
  unfold step at he
  split at he
  · obtain rfl := Host.Outcome.next.inj he
    exact startSound_tick hs.start
  · next c rest _ => exact startSound_exec (s := { s with pending := rest }) hs.start he

end Sys2Proof.Machine
end

section
/-! SUPPORT. The bay records: what each move of a bay and each write of a setpoint keeps of them (R1 to R3, R14, R21, R22). -/

namespace Sys2Proof.Machine

open Sys2Proof.Machine.Safety

/-! ### One bay record -/

/-- What `BaysSound` says of a bay record but for its setpoint. -/
structure BayForm (cfg : Setup) (run : Prop) (x : Bay) : Prop where
  fields : BayFields x
  presence : PackPresence x
  lock : LockSound x
  pack : ∀ p, x.pack = some p → PackSound cfg p
  unused : run → (x.mask = 0 ↔ x.state = .off .unused)

/-- What `BaysSound` says of a bay record. -/
def BaySound (cfg : Setup) (run : Prop) (x : Bay) : Prop := BayForm cfg run x ∧ SetpointSound cfg x

theorem baysSound_iff {s : State} : BaysSound s ↔ ∀ b, BaySound s.cfg (s.part = .run) (s.bay b) :=
  forall_congr' fun _ => ⟨fun ⟨h1, h2, h3, h4, h5, h6⟩ => ⟨⟨h1, h2, h4, h5, h6⟩, h3⟩, fun ⟨⟨h1, h2, h4, h5, h6⟩, h3⟩ => ⟨h1, h2, h3, h4, h5, h6⟩⟩

/-- A pending fault is of a kind R14 notes. -/
def Pends (o : Option FaultKind) : Prop := ∀ k, o = some k → k = .stageFault ∨ k = .packFault ∨ k = .packHot

/-- What a bay record brings to a move: a context of its own reservation, a setpoint in range, a sound lock and a sound pack,
and, in RUN, a class mask that is not empty. -/
structure BayStands (cfg : Setup) (run : Prop) (x : Bay) : Prop where
  pending : Pends x.pendingFault
  context : ∀ h, x.handover = some h → x.reservation = some h.reservation
  setpoint : x.setpoint % 10 = 0 ∧ x.setpoint ≤ 4000
  lock : LockSound x
  pack : ∀ p, x.pack = some p → PackSound cfg p
  used : run → x.mask ≠ 0

/-- A bay record has what a state asks for: a reservation, a handover context and a pack record (R1, R2, R135). -/
structure Bay.Fits (x : Bay) (n : BayState) : Prop where
  reserved : n.reserved = true → x.reservation.isSome = true
  context : n.atDoor = true → x.handover.isSome = true
  pack : PackPresence { x with state := n, pack := if n.dropsPack then none else x.pack }
  used : n ≠ .off .unused

theorem bayStands_of_sound {cfg : Setup} {run : Prop} {x : Bay} (h : BaySound cfg run x) (hused : run → x.mask ≠ 0) :
    BayStands cfg run x where
  pending k hk := (h.1.fields.1 k hk).2
  context := h.1.fields.2.2.2.2.2
  setpoint := ⟨h.2.1, h.2.2.1⟩
  lock := h.1.lock
  pack := h.1.pack
  used := hused

/-- A setpoint in range, written as R21 has it. -/
theorem baySound_writeSetpoint {cfg : Setup} {run : Prop} {x : Bay} {p : Nat} (h : BayForm cfg run x) (hp : p % 10 = 0 ∧ p ≤ 4000) :
    BaySound cfg run (x.writeSetpoint cfg p) := by
  obtain ⟨h1, h2, h3, h4, h5⟩ := h
  refine ⟨⟨h1, h2, h3, h4, h5⟩, ?_⟩
  have hc : (x.writeSetpoint cfg p).chargeable cfg = x.chargeable cfg := rfl
  unfold SetpointSound
  rw [hc]
  unfold Bay.writeSetpoint
  by_cases hch : x.chargeable cfg = true
  · simpa [hch] using hp
  · simp [hch]

/-- The boost field, the age, the door's last view of a pack: nothing of the table reads them. -/
theorem baySound_boost {cfg : Setup} {run : Prop} {x : Bay} (h : BaySound cfg run x) (v : Bool) :
    BaySound cfg run { x with boost := v } := ⟨⟨h.1.1, h.1.2, h.1.3, h.1.4, h.1.5⟩, h.2⟩

theorem baySound_noted {cfg : Setup} {run : Prop} {x : Bay} (h : BaySound cfg run x) (age : Nat) (v : Option Bool) :
    BaySound cfg run { x with reportAge := age, lastPresent := v } := ⟨⟨h.1.1, h.1.2, h.1.3, h.1.4, h.1.5⟩, h.2⟩

/-- The lock of a bay as it enters a state (R22). -/
theorem lockSound_entering {cfg : Setup} {x : Bay} {n : BayState} (h : LockSound x) : LockSound (x.entering cfg n) := by
  obtain ⟨hdoor, hpend, haway, hoff⟩ := h
  have hlock := lockEntering_cases x.state n x.door x.locked x.lockPending
  unfold LockSound Bay.entering
  simp only [Bay.writeSetpoint]
  obtain ⟨hn, heq⟩ | ⟨hn, -, heq⟩ | ⟨hn, hnoff, hx, hopen, heq⟩ | ⟨hn, hnoff, hx, -, heq⟩ := hlock <;> rw [heq]
  · refine ⟨fun _ => ⟨rfl, rfl⟩, by simp, by simp [hn], fun c hc => ?_⟩
    rw [hc] at hn
    simp [BayState.atDoor] at hn
  · exact ⟨by simp [hn], by simp, fun _ => rfl, fun _ _ => rfl⟩
  · refine ⟨by simp [hn], fun _ => ⟨(hdoor hx).1, hopen⟩, fun _ => (hdoor hx).1, fun c hc => ?_⟩
    rw [hc] at hnoff
    simp [BayState.isOff] at hnoff
  · refine ⟨by simp [hn], hpend, fun _ => haway hx, fun c hc => ?_⟩
    rw [hc] at hnoff
    simp [BayState.isOff] at hnoff

/-- The data timer runs in CHECKING, and besides in STOCK, HELD and READY alone (R9, R10). -/
theorem timerEntering_sound (old n : BayState) (t : Option Nat) :
    (n = .checking → timerEntering old n t ≠ none) ∧
    (timerEntering old n t ≠ none → n = .checking ∨ n.accepted = true) := by
  unfold timerEntering
  constructor
  · rintro rfl
    simp
  · intro ht
    by_cases hn : n = .checking
    · exact .inl hn
    · refine .inr ?_
      cases n <;> simp_all [BayState.accepted]

/-- A bay that enters a state it has everything for is as the table of that state says. -/
theorem baySound_entering {cfg : Setup} {run : Prop} {x : Bay} {n : BayState} (h : BayStands cfg run x) (hn : x.Fits n) :
    BaySound cfg run (x.entering cfg n) := by
  obtain ⟨hpending, hcontext, hset, hlock, hpack, hused⟩ := h
  obtain ⟨hreserved, hdoor, hpresence, hunused⟩ := hn
  obtain ⟨hchecking, htimer⟩ := timerEntering_sound x.state n x.dataTimer
  refine baySound_writeSetpoint ⟨⟨?_, hchecking, htimer, ?_, ?_, ?_⟩, ?_, lockSound_entering (cfg := cfg) hlock, ?_, ?_⟩ hset
  · intro k hk
    dsimp only at hk
    split at hk
    · exact ⟨‹_›, hpending k hk⟩
    · simp at hk
  · dsimp only
    cases hr : n.reserved with
    | true => simpa using hreserved hr
    | false => simp
  · dsimp only
    cases hd : n.atDoor with
    | true => simpa using hdoor hd
    | false => simp
  · intro k hk
    dsimp only at hk ⊢
    split at hk
    · next hd =>
      have hr : n.reserved = true := by cases n <;> simp_all [BayState.atDoor, BayState.reserved]
      rw [if_pos hr]
      exact hcontext k hk
    · simp at hk
  · cases n with
    | opened => exact hpresence
    | ajar => exact hpresence
    | fault k => cases k <;> exact hpresence
    | _ => exact hpresence
  · intro p hp
    dsimp only at hp
    split at hp
    · simp at hp
    · exact hpack p hp
  · exact fun hr => iff_of_false (hused hr) hunused

/-! ### What a state asks for, state by state -/

section
variable {x : Bay}

/-- EMPTY, CHECKING, OFF and FAULT(NO_PACK_DATA) drop the pack record (R2). -/
theorem fits_dropping {n : BayState} (hdrop : n.dropsPack = true) (hn : n ≠ .off .unused) : x.Fits n := by
  refine ⟨?_, ?_, ?_, hn⟩
  · cases n <;> simp_all [BayState.dropsPack, BayState.reserved]
  · cases n <;> simp_all [BayState.dropsPack, BayState.atDoor]
  · rw [if_pos hdrop]
    cases n with
    | fault k => cases k <;> simp_all [BayState.dropsPack, PackPresence]
    | _ => simp_all [BayState.dropsPack, PackPresence]

theorem fits_stageFault : x.Fits (.fault .stageFault) := ⟨by simp [BayState.reserved], by simp [BayState.atDoor], trivial, by simp⟩

theorem fits_fault {k : FaultKind} (hp : x.pack.isSome = true) : x.Fits (.fault k) := by
  refine ⟨by simp [BayState.reserved], by simp [BayState.atDoor], ?_, by simp⟩
  cases k <;> simp_all [PackPresence, BayState.dropsPack]

theorem fits_stock (hp : x.pack.isSome = true) : x.Fits .stock :=
  ⟨by simp [BayState.reserved], by simp [BayState.atDoor], hp, by simp⟩

theorem fits_held (hp : x.pack.isSome = true) (hr : x.reservation.isSome = true) : x.Fits .held :=
  ⟨fun _ => hr, by simp [BayState.atDoor], hp, by simp⟩

theorem fits_ready (hp : x.pack.isSome = true) (hr : x.reservation.isSome = true) : x.Fits .ready :=
  ⟨fun _ => hr, by simp [BayState.atDoor], hp, by simp⟩

/-- A bay with its pack in place may be OPEN or AJAR in a handover whose original pack is not removed (R135). -/
theorem fits_atDoor {n : BayState} {h : Handover} (hn : n.atDoor = true) (hp : x.pack.isSome = true)
    (hr : x.reservation.isSome = true) (hh : x.handover = some h) (hremoved : h.packRemoved = false) (hout : h.outSerial = none) :
    x.Fits n := by
  refine ⟨fun _ => hr, fun _ => by simp [hh], ?_, by rintro rfl; simp [BayState.atDoor] at hn⟩
  cases n with
  | opened =>
    obtain ⟨p, hp⟩ := Option.isSome_iff_exists.1 hp
    exact ⟨h, hh, by simp [hremoved, hp, BayState.dropsPack], by simp [hout, hremoved]⟩
  | ajar => exact ⟨hp, h, hh, hremoved⟩
  | _ => simp [BayState.atDoor] at hn

/-- The state a handover end leads to (R14, R16): HELD and READY ask for the pack. -/
theorem fits_endState {cfg : Setup} {run : Prop} {e : HandoverEnd} (hx : BaySound cfg run x) (hdoor : x.state.atDoor = true)
    (hp : e = .held ∨ e = .ready → x.pack.isSome = true) : x.Fits (endState x.pendingFault e) := by
  have hr : x.reservation.isSome = true := by
    rw [hx.1.fields.2.2.2.1]
    cases hs : x.state <;> simp_all [BayState.atDoor, BayState.reserved]
  cases hpend : x.pendingFault with
  | none =>
    cases e with
    | held => exact fits_held (hp (.inl rfl)) hr
    | ready => exact fits_ready (hp (.inr rfl)) hr
    | checking => exact fits_dropping rfl (by simp [endState, HandoverEnd.state])
    | empty => exact fits_dropping rfl (by simp [endState, HandoverEnd.state])
  | some k =>
    cases e with
    | held => exact fits_fault (hp (.inl rfl))
    | ready => exact fits_fault (hp (.inr rfl))
    | checking =>
      cases k with
      | stageFault => exact fits_stageFault
      | _ => exact fits_dropping rfl (by simp [endState, HandoverEnd.state])
    | empty =>
      cases k with
      | stageFault => exact fits_stageFault
      | _ => exact fits_dropping rfl (by simp [endState, HandoverEnd.state])

end

/-! ### The Bay Table -/

/-- In RUN the bay has a class mask: it is not UNUSED (R23). -/
def Used (b : BayNo) (s : State) : Prop := s.part = .run → (s.bay b).mask ≠ 0

theorem baysSound_congr {s t : State} (hbays : t.bays = s.bays) (hcfg : t.cfg = s.cfg) (hpart : t.part = s.part)
    (hs : BaysSound s) : BaysSound t := by
  unfold BaysSound State.bay
  rwa [hbays, hcfg, hpart]

theorem BaysSound_bay {s : State} (hs : BaysSound s) (b : BayNo) : BaySound s.cfg (s.part = .run) (s.bay b) := baysSound_iff.1 hs b

theorem used_of_state {s : State} {b : BayNo} (hs : BaysSound s) (h : (s.bay b).state ≠ .off .unused) : Used b s :=
  fun hr hm => h (((baysSound_iff.1 hs b).1.unused hr).1 hm)

/-- The bays but one are sound. -/
def OthersSound (b : BayNo) (s : State) : Prop := ∀ d, d ≠ b → BaySound s.cfg (s.part = .run) (s.bay d)

theorem othersSound_setBay {s : State} {b : BayNo} {x : Bay} (h : OthersSound b s) : OthersSound b (s.setBay b x) := by
  intro d hd
  rw [State.setBay_bay, if_neg (Ne.symm hd)]
  exact h d hd

theorem baysSound_of_others {s : State} {b : BayNo} (h : OthersSound b s) (hb : BaySound s.cfg (s.part = .run) (s.bay b)) :
    BaysSound s := by
  refine baysSound_iff.2 fun d => ?_
  by_cases hd : d = b
  · rw [hd]; exact hb
  · exact h d hd

theorem baysSound_setBay {s : State} {b : BayNo} {x : Bay} (hs : BaysSound s) (hx : BaySound s.cfg (s.part = .run) x) :
    BaysSound (s.setBay b x) := by
  refine baysSound_of_others (b := b) (othersSound_setBay fun d _ => baysSound_iff.1 hs d) ?_
  rw [State.setBay_bay, if_pos rfl]
  exact hx

/-- A bay enters a state it has everything for. -/
theorem baysSound_enterBay {s : State} {b : BayNo} {n : BayState} (h : OthersSound b s)
    (hx : BayStands s.cfg (s.part = .run) (s.bay b)) (hn : (s.bay b).Fits n) : BaysSound (s.enterBay b n) := by
  refine baysSound_iff.2 fun d => ?_
  rw [State.enterBay_bay, State.enterBay_cfg, State.enterBay_part]
  split
  · exact baySound_boost (baySound_entering hx hn) _
  · next hd => exact h d (Ne.symm hd)

/-! ### Setpoints written to the bays (R98, R100 to R102) -/

/-- A setpoint in range written to a sound bay. -/
theorem baySound_rewrite {cfg : Setup} {run : Prop} {x : Bay} {p : Nat} (h : BaySound cfg run x) (hp : p % 10 = 0 ∧ p ≤ 4000) :
    BaySound cfg run (x.writeSetpoint cfg p) := baySound_writeSetpoint h.1 hp

theorem lowerToShare_keeps {cfg : Setup} {Q : Bay → Prop}
    (hQ : ∀ x, Q x → Q (x.writeSetpoint cfg (noTrickle (x.setpoint - 10)))) (share : Nat) (order : List BayNo) (fuel : Nat)
    {v : Vector Bay 12} (hv : ∀ b : BayNo, Q v[b]) (b : BayNo) : Q (lowerToShare cfg share order fuel v)[b] := by
  induction fuel generalizing v with
  | zero => exact hv b
  | succ n ih =>
    obtain heq | ⟨c, heq⟩ := lowerToShare_step cfg share order n v <;> rw [heq]
    · exact hv b
    · refine ih fun d => ?_
      simp only [Fin.getElem_fin, Vector.getElem_set]
      split
      · exact hQ _ (hv c)
      · exact hv d

/-- A recomputed share clamps setpoints in steps of 10 W (R100, R101, R132). -/
theorem baysSound_recompute {s : State} (hs : BaysSound s) : BaysSound s.recomputeShare := by
  obtain ⟨-, heq⟩ | ⟨-, heq⟩ | ⟨hlt, heq⟩ := s.recomputeShare_cases <;> rw [heq]
  · exact hs
  · exact hs
  · unfold State.clampShare
    dsimp only
    generalize hv : (Vector.ofFn fun i => (s.bays[i]).writeSetpoint s.cfg (scaleSetpoint s.feed.share (s.feed.shareNow s.cfg) s.bays[i].setpoint)) = v
    have hscaled : ∀ d : BayNo, BaySound s.cfg (s.part = .run) v[d] := by
      intro d
      have hd := baysSound_iff.1 hs d
      subst hv
      simp only [Fin.getElem_fin, Vector.getElem_ofFn]
      exact baySound_rewrite hd ⟨scaleSetpoint_mod _ _ _, (scaleSetpoint_le (Nat.le_of_lt hlt)).trans hd.2.2.1⟩
    have hlowered := lowerToShare_keeps (cfg := s.cfg) (Q := BaySound s.cfg (s.part = .run)) (fun x hx => baySound_rewrite hx ?_)
      (s.feed.shareNow s.cfg) s.plan.lastOrder (allBays.map fun b => v[b].setpoint).sum hscaled
    · generalize lowerToShare _ _ _ _ v = w at hlowered ⊢
      exact baysSound_iff.2 hlowered
    · refine ⟨noTrickle_mod ?_, (noTrickle_le _).trans ((Nat.sub_le _ _).trans hx.2.2.1)⟩
      have := hx.2.1
      omega

theorem min_mod {a b n : Nat} (ha : a % n = 0) (hb : b % n = 0) : min a b % n = 0 := by
  obtain h | h := Nat.le_total a b
  · rwa [Nat.min_eq_left h]
  · rwa [Nat.min_eq_right h]

/-- The end of a grant brings the holder's setpoint down to its normal cap (R102). -/
theorem baysSound_endGrant {c : Converter} {s : State} (hs : BaysSound s) : BaysSound (s.endGrant c) := by
  cases hh : s.boost.converter.holder with
  | none => rwa [State.endGrant, hh]
  | some h =>
    refine baysSound_iff.2 fun d => ?_
    obtain ⟨v, q, a, heq⟩ := s.endGrant_frame c
    rw [State.endGrant_bay c hh, heq]
    have hb := baysSound_iff.1 hs h
    split
    · exact baySound_boost (baySound_rewrite hb ⟨min_mod hb.2.1 (capAt_mod _ _ _ _), (Nat.min_le_left _ _).trans hb.2.2.1⟩) false
    · exact baysSound_iff.1 hs d

theorem baysSound_decide {s : State} (hs : BaysSound s) : BaysSound s.decideGrant := by
  unfold State.decideGrant
  split
  · next b a _ => exact baysSound_setBay (s := { s with boost := _ }) hs (baySound_boost (baysSound_iff.1 hs b) true)
  · exact hs

/-! ### Records removed (R57) -/

theorem bay_of_accepted {s : State} {b : BayNo} (hs : BaysSound s) (h : (s.bay b).state.accepted = true) :
    (s.bay b).pack.isSome = true ∧ Used b s := by
  refine ⟨?_, used_of_state hs fun hu => by simp [hu, BayState.accepted] at h⟩
  have := (baysSound_iff.1 hs b).1.presence
  unfold PackPresence at this
  cases hst : (s.bay b).state <;> simp_all [BayState.accepted]

theorem baysSound_moved {s : State} {b : BayNo} {n : BayState} (hs : BaysSound s) (hused : Used b s) (hn : (s.bay b).Fits n) :
    BaysSound (s.enterBay b n) :=
  baysSound_enterBay (fun d _ => baysSound_iff.1 hs d) (bayStands_of_sound (baysSound_iff.1 hs b) hused) hn

theorem baysSound_releaseOf (r : Reservation) {s : State} (hs : BaysSound s) : BaysSound (s.releaseOf r) := by
  have hrelease : ∀ b, BaysSound (s.releaseBay b) := by
    intro b
    have hstock : (s.bay b).state.accepted = true → BaysSound (s.enterBay b .stock) := fun h =>
      baysSound_moved hs (bay_of_accepted hs h).2 (fits_stock (bay_of_accepted hs h).1)
    unfold State.releaseBay
    split
    · next h => exact hstock (by rw [h]; rfl)
    · next h => exact hstock (by rw [h]; rfl)
    · exact hs
  unfold State.releaseOf
  split
  · exact hrelease _
  · exact hrelease _
  · exact hs

theorem baysSound_raise (n : Notice) {s : State} (hs : BaysSound s) : BaysSound (s.raise n) :=
  baysSound_congr (by simp) (by simp) (by simp) hs

theorem baysSound_post (f : OutFrame) {s : State} (hs : BaysSound s) : BaysSound (s.post f) :=
  baysSound_congr (by simp) (by simp) (by simp) hs

theorem baysSound_removeRecord (r : Reservation) {s : State} (hs : BaysSound s) : BaysSound (s.removeRecord r) := by
  rw [State.removeRecord_eq]
  exact baysSound_congr (s := s.releaseOf r) rfl rfl rfl (baysSound_releaseOf r hs)

theorem baysSound_expire (r : Reservation) {s : State} (hs : BaysSound s) : BaysSound (s.expire r) := by
  rw [State.expire_eq]
  exact baysSound_raise _ (baysSound_congr (s := s.releaseOf r) rfl rfl rfl (baysSound_releaseOf r hs))

theorem baysSound_calm : CalmApart BaysSound where
  aside _ _ _ _ _ hs := hs
  request _ hs := hs
  removeRecord r _ _ _ := baysSound_removeRecord r
  expire r _ _ _ := baysSound_expire r
  unknown _ hs := hs
  endGrant _ _ _ := baysSound_endGrant
  fault _ _ hs := hs
  renew _ _ _ _ _ hs := hs
  decide _ _ := baysSound_decide
  reshare f s _ hs := baysSound_recompute (s := { s with feed := f }) hs
  claimTimer _ _ hs := hs
  templates _ _ _ hs := hs
  setSlot _ _ _ _ hs := hs
  dropped _ hs := hs

end Sys2Proof.Machine
end

section
/-! SUPPORT. The rules of the Bay Table and the Handover Unit keep every bay record sound (R4 to R14, R18, R19, R140 to R147). -/

namespace Sys2Proof.Machine

open Sys2Proof.Machine.Safety

/-! ### A bay in service -/

theorem used_apart (b : BayNo) : KeptApart (Used b) where
  aside _ _ _ _ _ hs := hs
  request _ hs := hs
  enterBay d n s hs hr := by
    rw [State.enterBay_bay]
    rw [State.enterBay_part] at hr
    split
    · next hd =>
      subst hd
      exact hs hr
    · exact hs hr
  putBay d x s hx hs hr := by
    rw [State.setBay_bay]
    split
    · next hd =>
      subst hd
      rw [hx.mask]
      exact hs hr
    · exact hs hr
  edit _ _ _ _ hs := hs
  drop _ _ _ _ _ hs := hs
  unknown _ hs := hs
  endGrant c s _ hs hr := by
    cases hh : s.boost.converter.holder with
    | none => rw [State.endGrant, hh] at hr ⊢; exact hs hr
    | some h =>
      rw [State.endGrant_part] at hr
      rw [State.endGrant_bay c hh]
      split
      · next hd =>
        subst hd
        exact hs hr
      · exact hs hr
  fault _ _ hs := hs
  renew _ _ _ _ _ hs := hs
  decide s _ hs hr := by
    rw [State.decideGrant_part] at hr
    unfold State.decideGrant
    split
    · next d a _ =>
      rw [show (State.grant d { s with boost := a }).bay b = if d = b then { s.bay d with boost := true } else s.bay b from
        State.setBay_bay _ d b _]
      split
      · next hd =>
        subst hd
        exact hs hr
      · exact hs hr
    · exact hs hr
  reshare f s _ hs hr := by
    obtain ⟨v, q, heq, hv⟩ := s.reshare_eq f
    rw [heq] at hr ⊢
    obtain ⟨p, -, hp⟩ := hv b
    have := hs hr
    rw [State.bay, hp]
    exact this
  claimTimer _ _ hs := hs
  templates _ _ _ hs := hs
  setSlot _ _ _ _ hs := hs
  dropped _ hs := hs

/-- Every bay record is sound, and one bay is not UNUSED. -/
structure InService (b : BayNo) (s : State) : Prop where
  sound : BaysSound s
  used : Used b s

/-- The other bay records are sound, and this one stands as a move asks. -/
structure AtHand (b : BayNo) (s : State) : Prop where
  others : OthersSound b s
  stands : BayStands s.cfg (s.part = .run) (s.bay b)

section
variable {b : BayNo} {s : State}

theorem InService.bay (h : InService b s) : BaySound s.cfg (s.part = .run) (s.bay b) := baysSound_iff.1 h.sound b

theorem InService.atHand (h : InService b s) : AtHand b s :=
  ⟨fun d _ => baysSound_iff.1 h.sound d, bayStands_of_sound h.bay h.used⟩

theorem inService_of_state (hs : BaysSound s) (h : (s.bay b).state ≠ .off .unused) : InService b s := ⟨hs, used_of_state hs h⟩

/-- A pack record put into a bay before it moves (R9). -/
theorem AtHand.repack (h : AtHand b s) {o : Option Pack} (ho : ∀ p, o = some p → PackSound s.cfg p) :
    AtHand b (s.setBay b { s.bay b with pack := o }) := by
  refine ⟨othersSound_setBay h.others, ?_⟩
  rw [State.setBay_bay_self]
  exact { h.stands with pack := ho }

/-- A handover context put into a bay before it moves (R135). -/
theorem AtHand.recontext (h : AtHand b s) {k : Handover} (hk : (s.bay b).reservation = some k.reservation) :
    AtHand b (s.setBay b { s.bay b with handover := some k }) := by
  refine ⟨othersSound_setBay h.others, ?_⟩
  rw [State.setBay_bay_self]
  exact { h.stands with context := fun j hj => by obtain rfl := Option.some.inj hj; exact hk }

theorem AtHand.enterBay {n : BayState} (h : AtHand b s) (hn : (s.bay b).Fits n) : InService b (s.enterBay b n) :=
  ⟨baysSound_enterBay h.others h.stands hn, (used_apart b).enterBay b n s h.stands.used⟩

theorem InService.enterBay {n : BayState} (h : InService b s) (hn : (s.bay b).Fits n) : InService b (s.enterBay b n) :=
  h.atHand.enterBay hn

theorem InService.raise (n : Notice) (h : InService b s) : InService b (s.raise n) :=
  ⟨baysSound_raise n h.sound, (used_apart b).raise n h.used⟩

theorem InService.setBay {x : Bay} (h : InService b s) (hx : BaySound s.cfg (s.part = .run) x) (hduty : x.SameDuty (s.bay b)) :
    InService b (s.setBay b x) := ⟨baysSound_setBay h.sound hx, (used_apart b).putBay b x s hduty h.used⟩

theorem InService.edit {id : Nat} {f : Reservation → Reservation} (h : InService b s) : InService b (s.updateRecord id f) :=
  ⟨h.sound, h.used⟩

theorem InService.request (h : InService b s) : InService b s.request := ⟨h.sound, h.used⟩

theorem InService.removeRecord (r : Reservation) (h : InService b s) (hr : r ∈ s.book.records) : InService b (s.removeRecord r) :=
  ⟨baysSound_removeRecord r h.sound, (used_apart b).removeRecord hr h.used⟩

theorem InService.expiryCheck (id : Nat) (h : InService b s) : InService b (s.expiryCheck id) :=
  ⟨baysSound_calm.calm.expiryCheck id h.sound, (used_apart b).calm.expiryCheck id h.used⟩

theorem InService.unbind (id : Nat) (d : BayNo) (h : InService b s) : InService b (s.unbind id d) := by
  obtain ⟨-, heq⟩ | ⟨r, hr, -, heq⟩ := State.unbind_cases id d s <;> rw [heq]
  · exact h
  · dsimp only
    split
    · exact h.edit.request.expiryCheck id
    · exact h.edit.request

theorem InService.doorClear (id : Nat) (h : InService b s) : InService b (s.doorClear id) := by
  obtain heq | ⟨r, hr, -, heq⟩ := State.doorClear_cases id s <;> rw [heq]
  · exact h
  · exact h.edit.expiryCheck id

theorem InService.doneRecord (id : Nat) (h : InService b s) : InService b (s.doneRecord id) := by
  obtain heq | ⟨r, d, p, hr, -, heq⟩ := State.doneRecord_cases id s <;> rw [heq]
  · exact h
  · exact h.removeRecord r (Book.byId_some hr).1

theorem AtHand.faultBay {k : FaultKind} (h : AtHand b s) (hk : (s.bay b).Fits (.fault k)) : InService b (s.faultBay b k) := by
  have hentered := (h.enterBay hk).raise (.bayFault b k ((s.enterBay b (.fault k)).bay b).serial)
  unfold State.faultBay
  dsimp only
  split
  · exact hentered.unbind _ _
  · exact hentered

theorem InService.leaveBay {n : BayState} (h : InService b s) (hn : (s.bay b).Fits n) : InService b (s.leaveBay b n) := by
  unfold State.leaveBay
  dsimp only
  split
  · exact (h.enterBay hn).unbind _ _
  · exact h.enterBay hn

end

/-! ### Reports -/

/-- A report with its figures limited to their ranges (R4). -/
structure ReportLimited (r : Report) : Prop where
  soc : r.soc ≤ 1000
  health : r.health ≤ 1000
  temperature : -400 ≤ r.temperature ∧ r.temperature ≤ 850

theorem limitReport_limited (r : Report) : ReportLimited (limitReport r) := by
  refine ⟨Nat.min_le_left _ _, Nat.min_le_left _ _, ?_⟩
  simp only [limitReport]
  omega

section
variable {r : Report} (hr : ReportLimited r)
include hr

theorem packSound_ofReport (cfg : Setup) (hserial : r.serial ≠ 0) : PackSound cfg (packOfReport cfg r) :=
  ⟨hserial, hr.soc, hr.health, hr.temperature.1, hr.temperature.2, rfl⟩

theorem packSound_copied {cfg : Setup} {p : Pack} (hp : PackSound cfg p) : PackSound cfg (p.copyFigures cfg r) :=
  ⟨hp.1, hr.soc, hr.health, hr.temperature.1, hr.temperature.2, rfl⟩

end

section
variable {b : BayNo} {r : Report} {s : State}

theorem AtHand.reportChecking (hr : ReportLimited r) (h : InService b s) : InService b (s.reportChecking b r) := by
  have hpack : r.serial ≠ 0 → AtHand b (s.setBay b { s.bay b with pack := some (packOfReport s.cfg r) }) := fun hserial =>
    h.atHand.repack fun p hp => by obtain rfl := Option.some.inj hp; exact packSound_ofReport hr _ hserial
  unfold State.reportChecking
  dsimp only
  split
  · exact h.atHand.faultBay fits_stageFault
  split
  · exact h.enterBay (fits_dropping rfl (by simp))
  split
  · exact h
  split
  · exact (hpack ‹_›).faultBay (fits_fault (by simp))
  split
  · exact (hpack ‹_›).faultBay (fits_fault (by simp))
  · exact (hpack ‹_›).enterBay (fits_stock (by simp))

theorem InService.checkPack (hr : ReportLimited r) (h : InService b s) : InService b (s.checkPack b r) :=
  AtHand.reportChecking hr (h.enterBay (fits_dropping rfl (by simp)))

theorem InService.reportEmpty (hr : ReportLimited r) (h : InService b s) : InService b (s.reportEmpty b r) := by
  unfold State.reportEmpty
  split
  · exact h.atHand.faultBay fits_stageFault
  split
  · exact h
  · exact h.checkPack hr

theorem InService.packMissing (h : InService b s) : InService b (s.packMissing b) := by
  have hleft := (h.leaveBay (n := .empty) (fits_dropping rfl (by simp))).raise
    (.packMissing b (s.bay b).serial ((s.bay b).reservation.getD 0))
  unfold State.packMissing
  dsimp only
  split
  · exact hleft.raise _
  · exact hleft

/-- A pack record in the place of another, in a state that does not ask for its absence. -/
theorem bayForm_repack {cfg : Setup} {run : Prop} {x : Bay} {p q : Pack} (h : BayForm cfg run x) (hp : x.pack = some p)
    (hq : PackSound cfg q) : BayForm cfg run { x with pack := some q } := by
  refine ⟨h.fields, ?_, h.lock, fun o ho => by obtain rfl := Option.some.inj ho; exact hq, h.unused⟩
  have hpresence := h.presence
  unfold PackPresence at hpresence ⊢
  cases hst : x.state with
  | fault k => cases k <;> simp_all
  | _ => simp_all

theorem InService.copyFigures (hr : ReportLimited r) (h : InService b s) : InService b (s.copyFigures b r) := by
  refine ⟨?_, (used_apart b).kept.copyFigures b r h.used⟩
  unfold State.copyFigures
  split
  · exact h.sound
  · next p hp =>
    have hbay := h.bay
    have hchange : BaysSound (s.changeBay b fun x => { x with pack := some (p.copyFigures s.cfg r) }) :=
      baysSound_setBay h.sound (baySound_writeSetpoint (bayForm_repack hbay.1 hp (packSound_copied hr (hbay.1.pack p hp)))
        ⟨hbay.2.1, hbay.2.2.1⟩)
    dsimp only
    split
    · split
      · exact baysSound_raise _ hchange
      · exact baysSound_raise _ hchange
    · split
      · exact hchange
      · exact hchange

/-- Copying figures moves the bay neither out of its state nor away from its reservation, its context or its pack. -/
theorem State.copyFigures_bay (b : BayNo) (r : Report) (s : State) :
    ((s.copyFigures b r).bay b).state = (s.bay b).state ∧ ((s.copyFigures b r).bay b).reservation = (s.bay b).reservation ∧
    ((s.copyFigures b r).bay b).handover = (s.bay b).handover ∧ ((s.copyFigures b r).bay b).pendingFault = (s.bay b).pendingFault ∧
    ((s.copyFigures b r).bay b).pack.isSome = (s.bay b).pack.isSome := by
  have hraise : ∀ (c : Prop) [Decidable c] (n : Notice) (u : State), (if c then u.raise n else u).bay b = u.bay b := by
    intro c _ n u
    split <;> simp [State.bay]
  have hrequest : ∀ (c : Prop) [Decidable c] (u : State), (if c then u.request else u).bay b = u.bay b := by
    intro c _ u
    split <;> rfl
  unfold State.copyFigures
  split
  · exact ⟨rfl, rfl, rfl, rfl, rfl⟩
  · next p hp =>
    dsimp only
    rw [hrequest, hraise]
    simp [State.changeBay, Bay.writeSetpoint, hp]

theorem InService.pack_of_accepted (h : InService b s) (hst : (s.bay b).state.accepted = true) : (s.bay b).pack.isSome = true :=
  (bay_of_accepted h.sound hst).1

theorem InService.passSoc (soc : Nat) (h : InService b s) : InService b (s.passSoc b soc) := by
  obtain heq | ⟨id, r, hid, -, ⟨hst, -, -, heq⟩ | ⟨hst, -, -, heq⟩⟩ := State.passSoc_cases b soc s <;> rw [heq]
  · exact h
  · exact (h.enterBay (fits_ready (h.pack_of_accepted (by rw [hst]; rfl)) (by simp [hid]))).edit
  · exact (h.enterBay (fits_held (h.pack_of_accepted (by rw [hst]; rfl)) (by simp [hid]))).edit

/-- A data timer that runs in STOCK, HELD and READY, or stands (R10). -/
theorem InService.dataTimer (t : Option Nat) (h : InService b s) (hst : (s.bay b).state.accepted = true) :
    InService b (s.setBay b { s.bay b with dataTimer := t }) := by
  obtain ⟨⟨⟨hpend, hchecking, -, hres, hdoor, hcontext⟩, hpresence, hlock, hpack, hmask⟩, hset⟩ := h.bay
  refine h.setBay ⟨⟨⟨hpend, ?_, fun _ => .inr hst, hres, hdoor, hcontext⟩, hpresence, hlock, hpack, hmask⟩, hset⟩ ⟨rfl, rfl, rfl, le_rfl⟩
  intro hc
  have : (s.bay b).state = .checking := hc
  simp [this, BayState.accepted] at hst

theorem InService.reportAccepted (hr : ReportLimited r) (h : InService b s) (hst : (s.bay b).state.accepted = true) :
    InService b (s.reportAccepted b r) := by
  have hcopy : InService b (if (s.bay b).sameSerial r = true then s.copyFigures b r else s) ∧
      ((if (s.bay b).sameSerial r = true then s.copyFigures b r else s).bay b).state.accepted = true := by
    split
    · exact ⟨h.copyFigures hr, by rw [(State.copyFigures_bay b r s).1]; exact hst⟩
    · exact ⟨h, hst⟩
  unfold State.reportAccepted
  dsimp only
  generalize (if (s.bay b).sameSerial r = true then s.copyFigures b r else s) = u at hcopy
  obtain ⟨hu, hust⟩ := hcopy
  split
  · exact hu.atHand.faultBay fits_stageFault
  split
  · exact hu.packMissing
  split
  · exact hu.packMissing.checkPack hr
  split
  · exact hu.dataTimer _ hust
  split
  · exact hu.atHand.faultBay (fits_fault (hu.pack_of_accepted hust))
  · exact (hu.dataTimer none hust).passSoc _

theorem InService.reportPackFault (hr : ReportLimited r) (h : InService b s) : InService b (s.reportPackFault b r) := by
  unfold State.reportPackFault
  split
  · split
    · exact (h.atHand.repack (o := none) (by simp)).faultBay fits_stageFault
    · exact h.enterBay (fits_dropping rfl (by simp))
  split
  · exact h.checkPack hr
  split
  · exact h.copyFigures hr
  · exact h

/-- In FAULT(STAGE_FAULT) the pack record may be dropped (R13). -/
theorem InService.reportStageFault (hr : ReportLimited r) (h : InService b s) (hst : (s.bay b).state = .fault .stageFault) :
    InService b (s.reportStageFault b r) := by
  unfold State.reportStageFault
  split
  · split
    · exact h
    · obtain ⟨⟨hfields, -, hlock, -, hmask⟩, hset⟩ := h.bay
      refine h.setBay ⟨⟨hfields, ?_, hlock, by simp, hmask⟩, hset.1, hset.2.1, fun _ => hset.2.2 ?_⟩ ⟨rfl, rfl, rfl, le_rfl⟩
      · unfold PackPresence
        rw [hst]
        trivial
      · exact Bay.chargeable_of_not_eligible (by rw [hst]; rfl)
  split
  · exact h.checkPack hr
  · exact h.enterBay (fits_dropping rfl (by simp))

theorem InService.reportOff (hr : ReportLimited r) (h : BaysSound s) {c : OffCause} (hst : (s.bay b).state = .off c) :
    BaysSound (s.reportOff b r c) := by
  cases c with
  | link =>
    have hs : InService b s := inService_of_state h (by simp [hst])
    unfold State.reportOff
    dsimp only
    split
    · exact (AtHand.reportChecking hr ((hs.enterBay (fits_dropping rfl (by simp))).raise _)).sound
    · exact (((hs.enterBay (fits_dropping rfl (by simp))).raise _).reportEmpty hr).sound
  | service => exact h
  | unused => exact h

/-! ### Handovers -/

theorem InService.endHandover {e : HandoverEnd} (h : InService b s) (hdoor : (s.bay b).state.atDoor = true)
    (hp : e = .held ∨ e = .ready → (s.bay b).pack.isSome = true) : InService b (s.endHandover b e) := by
  have hfits := fits_endState h.bay hdoor hp
  unfold State.endHandover
  split
  · next k heq => exact h.atHand.faultBay (heq ▸ hfits)
  · exact h.enterBay hfits

theorem InService.returnRecord (id : Nat) (h : InService b s) : InService b (s.returnRecord id) := by
  obtain heq | ⟨r, d, p, hr, -, heq⟩ := State.returnRecord_cases id s <;> rw [heq]
  · exact h
  · exact h.edit.request

theorem State.returnRecord_bays (id : Nat) (s : State) : (s.returnRecord id).bays = s.bays := by
  obtain heq | ⟨r, d, p, hr, -, heq⟩ := State.returnRecord_cases id s <;> rw [heq]
  rfl

/-- A return goes with the pack in the bay (R143). -/
theorem InService.returnHandover (id : Nat) (h : InService b s) (hdoor : (s.bay b).state.atDoor = true)
    (hp : (s.bay b).pack.isSome = true) : InService b (s.returnHandover b id) := by
  have hbay : (s.returnRecord id).bay b = s.bay b := by rw [State.bay, State.returnRecord_bays]; rfl
  unfold State.returnHandover
  split
  · next p _ =>
    have hend := (h.returnRecord id).endHandover (e := p.ending) (by rw [hbay]; exact hdoor) fun _ => by rw [hbay]; exact hp
    dsimp only
    split
    · exact hend.doorClear id
    · exact hend
  · exact h

theorem InService.completeSwap (k : Handover) (n : Nat) (h : InService b s) (hdoor : (s.bay b).state.atDoor = true) :
    InService b (s.completeSwap b k n) := ((h.endHandover hdoor (by simp)).doneRecord _).raise _

theorem InService.noReturn (k : Handover) (h : InService b s) (hdoor : (s.bay b).state.atDoor = true) :
    InService b (s.noReturn b k) := ((h.endHandover hdoor (by simp)).doneRecord _).raise _

/-- In OPEN the context says whether the pack is still in the bay (R135). -/
theorem opened_pack (h : BaysSound s) (hst : (s.bay b).state = .opened) {k : Handover} (hk : (s.bay b).handover = some k) :
    (s.bay b).pack.isSome = !k.packRemoved ∧ k.outSerial.isSome = k.packRemoved ∧ (s.bay b).reservation = some k.reservation := by
  have hb := baysSound_iff.1 h b
  have hpresence := hb.1.presence
  unfold PackPresence at hpresence
  rw [hst] at hpresence
  obtain ⟨j, hj, hpack, hout⟩ := hpresence
  obtain rfl := Option.some.inj (hk.symm.trans hj)
  refine ⟨?_, hout, hb.1.fields.2.2.2.2.2 k hk⟩
  rw [hpack]
  simp

theorem ajar_pack (h : BaysSound s) (hst : (s.bay b).state = .ajar) : (s.bay b).pack.isSome = true := by
  have hpresence := (baysSound_iff.1 h b).1.presence
  unfold PackPresence at hpresence
  rw [hst] at hpresence
  exact hpresence.1

theorem InService.leaveAjar {k : Handover} (h : InService b s) (hst : (s.bay b).state = .opened) (hk : (s.bay b).handover = some k)
    (hremoved : k.packRemoved = false) : InService b (s.leaveAjar b k) := by
  have hbay : (s.returnRecord k.reservation).bay b = s.bay b := by rw [State.bay, State.returnRecord_bays]; rfl
  obtain ⟨hpack, hout, hres⟩ := opened_pack h.sound hst hk
  have hreturned := h.returnRecord k.reservation
  unfold State.leaveAjar
  split
  · next p _ =>
    dsimp only
    split
    · exact hreturned.endHandover (by rw [hbay, hst]; rfl) fun _ => by rw [hbay, hpack, hremoved]; rfl
    · refine ((hreturned.atHand.recontext (k := { k with timer := (s.returnRecord k.reservation).cfg.handoverTime * 1000 })
        (by rw [hbay]; exact hres)).enterBay ?_).raise _
      rw [State.setBay_bay_self, hbay]
      refine fits_atDoor rfl (by rw [hpack, hremoved]; rfl) (by simp [hres]) rfl hremoved ?_
      simpa [hremoved] using hout
  · exact h

theorem InService.handoverTimerEnds (h : BaysSound s) : BaysSound (s.handoverTimerEnds b) := by
  unfold State.handoverTimerEnds
  split
  · next k hk =>
    split
    · next hdue =>
      have hst : (s.bay b).state = .opened := by simp [Bay.handoverDue] at hdue; exact hdue.1
      have hs : InService b s := inService_of_state h (by simp [hst])
      have hdoor : (s.bay b).state.atDoor = true := by rw [hst]; rfl
      obtain ⟨hpack, -, -⟩ := opened_pack h hst hk
      unfold State.handoverEnds
      split
      · exact (hs.completeSwap _ _ hdoor).sound
      · exact (hs.noReturn _ hdoor).sound
      · next hremoved _ _ => exact ((hs.returnHandover _ hdoor (by rw [hpack, hremoved]; rfl)).raise _).sound
      · next hremoved _ _ => exact (hs.leaveAjar hst hk hremoved).sound
      · exact h
    · exact h
  · exact h

/-- A handover context with another time left (R145). -/
theorem bayForm_retimed {cfg : Setup} {run : Prop} {x : Bay} {k : Handover} (h : BayForm cfg run x) (hk : x.handover = some k) (n : Nat) :
    BayForm cfg run { x with handover := some { k with timer := n } } := by
  obtain ⟨⟨hpend, hchecking, htimer, hres, hdoor, hcontext⟩, hpresence, hlock, hpack, hmask⟩ := h
  refine ⟨⟨hpend, hchecking, htimer, hres, ?_, ?_⟩, ?_, hlock, hpack, hmask⟩
  · rw [← hdoor, hk]
    rfl
  · intro j hj
    obtain rfl := Option.some.inj hj
    exact hcontext k hk
  · unfold PackPresence at hpresence ⊢
    cases hst : x.state with
    | fault c => cases c <;> simp_all
    | _ => simp_all

theorem InService.ajarTimerEnds (h : BaysSound s) : BaysSound (s.ajarTimerEnds b) := by
  unfold State.ajarTimerEnds
  split
  · next k hk =>
    split
    · have hb := baysSound_iff.1 h b
      exact baysSound_raise _ (baysSound_setBay h ⟨bayForm_retimed hb.1 hk _, hb.2⟩)
    · exact h
  · exact h

theorem pends_pendingKind (r : Report) (x : Bay) : Pends (x.pendingKind r) := by
  unfold Bay.pendingKind packFaultKind
  split
  · simp [Pends]
  split
  · split
    · simp [Pends]
    split <;> simp [Pends]
  · simp [Pends]

theorem pends_join {o n : Option FaultKind} (ho : Pends o) (hn : Pends n) : Pends (joinPending o n) := by
  unfold joinPending
  split
  · exact hn
  · exact ho
  · split
    · exact hn
    · exact ho

/-- What a report leaves of a bay at the door before its own rule (R14): the state, the context and the reservation. -/
theorem State.reportAtDoor_bay (b : BayNo) (r : Report) (s : State) :
    ((s.reportAtDoor b r).bay b).state = (s.bay b).state ∧ ((s.reportAtDoor b r).bay b).reservation = (s.bay b).reservation ∧
    ((s.reportAtDoor b r).bay b).handover = (s.bay b).handover ∧
    ((s.reportAtDoor b r).bay b).pack.isSome = (s.bay b).pack.isSome := by
  obtain ⟨hst, hres, hhand, -, hpack⟩ := State.copyFigures_bay b r s
  unfold State.reportAtDoor
  dsimp only
  rw [State.setBay_bay_self]
  dsimp only
  split
  · exact ⟨hst, hres, hhand, hpack⟩
  · exact ⟨rfl, rfl, rfl, rfl⟩

theorem InService.reportAtDoor (hr : ReportLimited r) (h : InService b s) (hdoor : (s.bay b).state.atDoor = true) :
    InService b (s.reportAtDoor b r) := by
  have hcopy : InService b (if (s.bay b).sameSerial r = true then s.copyFigures b r else s) ∧
      ((if (s.bay b).sameSerial r = true then s.copyFigures b r else s).bay b).state.atDoor = true := by
    split
    · exact ⟨h.copyFigures hr, by rw [(State.copyFigures_bay b r s).1]; exact hdoor⟩
    · exact ⟨h, hdoor⟩
  unfold State.reportAtDoor
  dsimp only
  generalize (if (s.bay b).sameSerial r = true then s.copyFigures b r else s) = u at hcopy
  obtain ⟨hu, hudoor⟩ := hcopy
  obtain ⟨⟨⟨hpend, hrest⟩, hpresence, hlock, hpack, hmask⟩, hset⟩ := hu.bay
  refine hu.setBay ⟨⟨⟨fun k hk => ⟨hudoor, ?_⟩, hrest⟩, hpresence, hlock, hpack, hmask⟩, hset⟩ ⟨rfl, rfl, rfl, le_rfl⟩
  exact pends_join (fun k hk => (hpend k hk).2) (pends_pendingKind r _) k hk

/-- The removal of the original pack noted in OPEN (R140). -/
theorem InService.noteRemoval (h : InService b s) (hst : (s.bay b).state = .opened) :
    InService b (s.setBay b ((s.bay b).noteRemoval r)) ∧ ((s.bay b).noteRemoval r).state = .opened := by
  obtain ⟨⟨⟨hpend, hchecking, htimer, hres, hdoor, hcontext⟩, hpresence, hlock, hpack, hmask⟩, hset⟩ := h.bay
  refine ⟨h.setBay ?_ (Bay.noteRemoval_sameDuty r _), ?_⟩
  · unfold Bay.noteRemoval
    split
    · next k hk =>
      split
      · refine ⟨⟨⟨hpend, hchecking, htimer, hres, ?_, ?_⟩, ?_, hlock, by simp, hmask⟩, hset.1, hset.2.1, fun _ => hset.2.2 ?_⟩
        · rw [← hdoor, hk]; rfl
        · intro j hj
          obtain rfl := Option.some.inj hj
          exact hcontext k hk
        · unfold PackPresence
          rw [hst]
          exact ⟨_, rfl, rfl, rfl⟩
        · exact Bay.chargeable_of_not_eligible (by rw [hst]; rfl)
      · exact h.bay
    · exact h.bay
  · unfold Bay.noteRemoval
    split
    · split <;> exact hst
    · exact hst

theorem InService.checkingThen (hr : ReportLimited r) (h : InService b s) :
    InService b (if (s.bay b).state = .checking then s.reportChecking b r else s) := by
  split
  · exact AtHand.reportChecking hr h
  · exact h

theorem InService.reportOpen (hr : ReportLimited r) (d : Door) (h : InService b s) (hst : (s.bay b).state = .opened) :
    InService b (s.reportOpen b d r) := by
  obtain ⟨hnoted, hopen⟩ := (h.reportAtDoor hr (by rw [hst]; rfl)).noteRemoval (r := r)
    (by rw [(State.reportAtDoor_bay b r s).1]; exact hst)
  unfold State.reportOpen
  dsimp only
  split
  · exact hnoted
  · split
    · exact (hnoted.completeSwap _ _ (by rw [State.setBay_bay_self, hopen]; rfl)).checkingThen hr
    · exact hnoted

theorem InService.reportAjar (hr : ReportLimited r) (h : InService b s) (hst : (s.bay b).state = .ajar) :
    InService b (s.reportAjar b r) := by
  have hdoor := h.reportAtDoor hr (by rw [hst]; rfl)
  have hajar : ((s.reportAtDoor b r).bay b).state = .ajar := by rw [(State.reportAtDoor_bay b r s).1]; exact hst
  have hatDoor : ((s.reportAtDoor b r).bay b).state.atDoor = true := by rw [hajar]; rfl
  have hmissing : ∀ k e, e = .empty ∨ e = .checking → InService b ((s.reportAtDoor b r).ajarMissing b k e) := fun k e he =>
    ((hdoor.endHandover hatDoor (by obtain rfl | rfl := he <;> simp)).unbind _ _).raise _
  unfold State.reportAjar
  dsimp only
  split
  · exact hdoor
  split
  · exact hmissing _ _ (.inl rfl)
  split
  · exact (hmissing _ _ (.inr rfl)).checkingThen hr
  split
  · unfold State.ajarCloses
    split
    · exact (hdoor.endHandover hatDoor fun _ => ajar_pack hdoor.sound hajar).doorClear _
    · exact hdoor
  · exact hdoor

/-! ### Every bay record sound by each rule -/

/-- The door field set, and a pending lock ordered as the door closes (R22). -/
theorem bayForm_doorStep {cfg : Setup} {run : Prop} {x : Bay} (h : BayForm cfg run x) : BayForm cfg run (x.doorStep r) := by
  obtain ⟨hfields, hpresence, ⟨hdoor, hpend, haway, hoff⟩, hpack, hmask⟩ := h
  unfold Bay.doorStep
  split
  · next hclose =>
    refine ⟨hfields, hpresence, ⟨fun hd => ?_, by simp, fun _ => rfl, fun _ _ => rfl⟩, hpack, hmask⟩
    have : x.lockPending = true := by simp only [Bool.and_eq_true] at hclose; exact hclose.1
    simp [(hdoor hd).2] at this
  · next hno =>
    refine ⟨hfields, hpresence, ⟨hdoor, fun hp => ⟨(hpend hp).1, ?_⟩, haway, hoff⟩, hpack, hmask⟩
    cases hd : r.door with
    | opened => rfl
    | closed => exact absurd (by rw [show x.lockPending = true from hp, hd]; rfl) hno

theorem Bay.doorStep_setpoint (r : Report) (x : Bay) : (x.doorStep r).setpoint = x.setpoint ∧
    ∀ cfg, (x.doorStep r).chargeable cfg = x.chargeable cfg := by
  unfold Bay.doorStep
  split <;> exact ⟨rfl, fun _ => rfl⟩

theorem baysSound_doorStep (hs : BaysSound s) : BaysSound (s.doorStep b r) := by
  have hb := baysSound_iff.1 hs b
  have hstepped : BaysSound (s.setBay b ((s.bay b).doorStep r)) := by
    refine baysSound_setBay hs ⟨bayForm_doorStep hb.1, ?_⟩
    unfold SetpointSound
    rw [((s.bay b).doorStep_setpoint r).1, ((s.bay b).doorStep_setpoint r).2]
    exact hb.2
  unfold State.doorStep
  dsimp only
  split
  · exact baysSound_raise _ hstepped
  · exact hstepped

theorem baysSound_byState (hr : ReportLimited r) (d : Door) (hs : BaysSound s) : BaysSound (s.reportByState b d r) := by
  have hserves : ∀ {n : BayState}, (s.bay b).state = n → n ≠ .off .unused → InService b s := fun hst hn =>
    inService_of_state hs (hst ▸ hn)
  unfold State.reportByState
  split
  · next hst => exact ((hserves hst (by simp)).reportEmpty hr).sound
  · next hst => exact (AtHand.reportChecking hr (hserves hst (by simp))).sound
  · next hst => exact ((hserves hst (by simp)).reportAccepted hr (by rw [hst]; rfl)).sound
  · next hst => exact ((hserves hst (by simp)).reportAccepted hr (by rw [hst]; rfl)).sound
  · next hst => exact ((hserves hst (by simp)).reportAccepted hr (by rw [hst]; rfl)).sound
  · next hst => exact ((hserves hst (by simp)).reportOpen hr d hst).sound
  · next hst => exact ((hserves hst (by simp)).reportAjar hr hst).sound
  · next hst => exact ((hserves hst (by simp)).reportStageFault hr hst).sound
  · next hst => exact ((hserves hst (by simp)).reportPackFault hr).sound
  · next hst => exact InService.reportOff hr hs hst

theorem baysSound_takeReport (hr : ReportLimited r) (hs : BaysSound s) : BaysSound (s.takeReport b r) := by
  have hnote : BaysSound (s.noteReport b r) := baysSound_setBay hs (baySound_noted (baysSound_iff.1 hs b) _ _)
  have hfault : BaysSound (if (s.noteReport b r).part == .run && r.boostFault then (s.noteReport b r).takeBoostFault b
      else s.noteReport b r) := by
    split
    · exact baysSound_calm.calm.takeBoostFault b hnote
    · exact hnote
  unfold State.takeReport
  dsimp only
  generalize (if (s.noteReport b r).part == .run && r.boostFault then (s.noteReport b r).takeBoostFault b
      else s.noteReport b r) = u at hfault
  split
  · exact baysSound_doorStep hfault
  · exact baysSound_byState hr _ (baysSound_doorStep hfault)

theorem InService.linkLostOpen (h : InService b s) (hst : (s.bay b).state = .opened) : InService b (s.linkLostOpen b) := by
  have hdoor : (s.bay b).state.atDoor = true := by rw [hst]; rfl
  unfold State.linkLostOpen
  split
  · next k hk =>
    split
    · exact h.noReturn _ hdoor
    · next hno =>
      refine h.returnHandover _ hdoor ?_
      rw [(opened_pack h.sound hst hk).1]
      simpa using hno
  · exact h

theorem baysSound_loseLink (hs : BaysSound s) : BaysSound (s.loseLink b) := by
  unfold State.loseLink
  split
  · next hdue =>
    have h : InService b s := inService_of_state hs fun hst => by simp [Bay.linkDue, hst] at hdue
    have hoff : ∀ u : State, InService b u → BaysSound ((u.leaveBay b (.off .link)).raise (.linkLost b)) := fun u hu =>
      ((hu.leaveBay (fits_dropping rfl (by simp))).raise _).sound
    dsimp only
    split
    · next hst => exact hoff _ (h.linkLostOpen hst)
    · exact hoff _ h
  · exact hs

theorem baysSound_dataTimerEnds (hs : BaysSound s) : BaysSound (s.dataTimerEnds b) := by
  unfold State.dataTimerEnds
  split
  · next hdue =>
    have h : InService b s := inService_of_state hs fun hst => by simp [Bay.dataDue, hst, BayState.accepted] at hdue
    exact (h.atHand.faultBay (fits_dropping rfl (by simp))).sound
  · exact hs

/-- OFF with another cause, neither being UNUSED (R18, R19). -/
theorem baySound_recaused {cfg : Setup} {run : Prop} {x : Bay} {c d : OffCause} (h : BaySound cfg run x) (hx : x.state = .off c)
    (hc : c ≠ .unused) (hd : d ≠ .unused) : BaySound cfg run { x with state := .off d } := by
  obtain ⟨⟨⟨hpend, hchecking, htimer, hres, hdoor, hcontext⟩, hpresence, ⟨hlock, hpending, haway, hoff⟩, hpack, hmask⟩, hset⟩ := h
  unfold PackPresence at hpresence
  rw [hx] at hpend hchecking htimer hres hdoor hpresence hlock haway hoff hmask
  refine ⟨⟨⟨hpend, by simp, fun ht => absurd (htimer ht) (by simp [BayState.accepted]), hres, hdoor, hcontext⟩, hpresence,
    ⟨by simp [BayState.atDoor], hpending, fun _ => haway rfl, fun _ _ => hoff c rfl⟩, hpack, fun hr => ?_⟩, hset.1, hset.2.1, fun _ => hset.2.2 ?_⟩
  · refine iff_of_false (fun hm => hc ?_) (by simpa using hd)
    simpa using (hmask hr).1 hm
  · exact Bay.chargeable_of_not_eligible (by rw [hx]; rfl)

theorem baysSound_serviceOff (n : Nat) (hs : BaysSound s) : BaysSound (s.serviceOff n) := by
  unfold State.serviceOff
  split
  · exact baysSound_raise _ hs
  · next b _ =>
    have hb := baysSound_iff.1 hs b
    split
    · exact baysSound_raise _ hs
    · exact baysSound_raise _ hs
    · exact baysSound_raise _ hs
    · next hst => exact baysSound_setBay hs (baySound_recaused hb hst (by simp) (by simp))
    · exact hs
    · next hunused _ _ => exact ((inService_of_state hs hunused).leaveBay (fits_dropping rfl (by simp))).sound

theorem baysSound_serviceOn (n : Nat) (hs : BaysSound s) : BaysSound (s.serviceOn n) := by
  unfold State.serviceOn
  split
  · exact baysSound_raise _ hs
  · next b _ =>
    split
    · exact baysSound_raise _ hs
    · next hst =>
      have hlink : BaysSound (s.setBay b { s.bay b with state := .off .link }) :=
        baysSound_setBay hs (baySound_recaused (baysSound_iff.1 hs b) hst (by simp) (by simp))
      split
      · split
        · refine ((inService_of_state hs (by simp [hst])).enterBay ?_).sound
          split <;> exact fits_dropping rfl (by simp)
        · exact hlink
      · exact hlink
    · exact hs

/-! ### A completion (R44, R45, R49, R98) -/

/-- A reservation put into a bay before it is bound (R16). -/
theorem AtHand.reserve (h : AtHand b s) (hh : (s.bay b).handover = none) (id : Nat) :
    AtHand b (s.setBay b { s.bay b with reservation := some id }) := by
  refine ⟨othersSound_setBay h.others, ?_⟩
  rw [State.setBay_bay_self]
  exact { h.stands with context := fun k hk => by rw [hh] at hk; simp at hk }

theorem InService.bindBay (id : Nat) (h : InService b s) (hst : (s.bay b).state = .stock) : InService b (s.bindBay b id) := by
  have hhand : (s.bay b).handover = none := by
    have := h.bay.1.fields.2.2.2.2.1
    rw [hst] at this
    exact Option.isSome_eq_false_iff.1 this |> Option.isNone_iff_eq_none.1
  refine (h.atHand.reserve hhand id).enterBay (fits_held ?_ (by simp))
  rw [State.setBay_bay_self]
  exact h.pack_of_accepted (by rw [hst]; rfl)

theorem baysSound_bindRecord (id : Nat) (hs : BaysSound s) : BaysSound (s.bindRecord id b) := by
  obtain heq | ⟨r, -, -, hst, heq⟩ := State.bindRecord_cases id b s <;> rw [heq]
  · exact hs
  · exact ((inService_of_state hs (by simp [hst])).bindBay id hst).sound

theorem baysSound_rebindRecord (id : Nat) (old : BayNo) (hs : BaysSound s) : BaysSound (s.rebindRecord id old b) := by
  obtain heq | ⟨r, -, -, -, hold, hres, hnew, heq⟩ := State.rebindRecord_cases id old b s <;> rw [heq]
  · exact hs
  · have hfreed : InService old (s.enterBay old .stock) := (inService_of_state hs (by simp [hold])).enterBay
      (fits_stock (bay_of_accepted hs (by rw [hold]; rfl)).1)
    have hne : old ≠ b := by rintro rfl; simp [hold] at hnew
    have hst : ((s.enterBay old .stock).bay b).state = .stock := by rw [State.enterBay_bay, if_neg hne]; exact hnew
    exact ((inService_of_state hfreed.sound (by simp [hst])).bindBay id hst).sound

theorem baysSound_writeLate (id : Nat) (late : Bool) (hs : BaysSound s) : BaysSound (s.writeLate id b late) := by
  obtain heq | ⟨r, hr, hbound, heq⟩ := State.writeLate_cases id b late s <;> rw [heq]
  · exact hs
  · dsimp only
    split
    · exact baysSound_raise _ hs
    · exact hs

theorem tempFactor_le (t : Int) : tempFactor t ≤ 1000 := by
  unfold tempFactor
  repeat' split
  all_goals omega

theorem taperAt_le (soc : Nat) : taperAt soc ≤ 1000 := by
  unfold taperAt
  split
  · next x hx =>
    have hbands : ∀ y ∈ bands, y.taper ≤ 1000 := by decide
    exact hbands x (List.mem_of_find?_eq_some hx)
  · omega

/-- A band power stays within its stage limit (R29). -/
theorem bandPower_le {limit kT taper : Nat} (hk : kT ≤ 1000) (ht : taper ≤ 1000) : bandPower limit kT taper ≤ limit := by
  unfold bandPower
  refine Nat.div_le_of_le_mul ?_
  calc limit * kT * taper ≤ limit * 1000 * 1000 := Nat.mul_le_mul (Nat.mul_le_mul_left _ hk) ht
    _ = 1000000 * limit := by ring

theorem capAt_le (cfg : Setup) (limit target : Nat) (x : Bay) : capAt cfg limit target x ≤ limit := by
  unfold capAt
  split
  · exact Nat.zero_le _
  · split
    · exact Nat.zero_le _
    · split
      · exact Nat.zero_le _
      · exact (roundTen_le _).trans (bandPower_le (tempFactor_le _) (taperAt_le _))

theorem powerCap_le (cfg : Setup) (target : Nat) (x : Bay) : powerCap cfg target x ≤ 4000 := by
  refine (capAt_le _ _ _ _).trans ?_
  unfold stageOf
  split <;> decide

theorem baysSound_writeSetpoints {l : List (BayNo × Nat)} (hl : ∀ b, allocationOf l b % 10 = 0) (hs : BaysSound s) :
    BaysSound (s.writeSetpoints l) := by
  refine baysSound_iff.2 fun d => ?_
  rw [State.writeSetpoints_bay]
  exact baySound_rewrite (baysSound_iff.1 hs d)
    ⟨min_mod (hl d) (capAt_mod _ _ _ _), (Nat.min_le_right _ _).trans (powerCap_le _ _ _)⟩

theorem baysSound_moves : KeptMoves BaysSound :=
  { baysSound_calm.calm with
    bindRecord := fun id _ _ => baysSound_bindRecord id
    rebindRecord := fun id old _ _ => baysSound_rebindRecord id old
    writeLate := fun id _ late _ => baysSound_writeLate id late
    setpoints := fun _ _ _ hl => baysSound_writeSetpoints hl
    sets := fun _ _ _ _ hs => hs
    order := fun _ _ _ hs => hs
    startPass := fun _ hs => hs
    idle := fun _ _ hs => hs }

/-! ### Claims (R138) -/

/-- A GO opens the bay of the record with a fresh context, the original pack still in it (R16, R135, R138). -/
theorem baysSound_go (src : Station) {x : Reservation} (p : Prior) (early : Option Nat) (h : InService b s)
    (hres : (s.bay b).reservation = some x.id) (hpack : (s.bay b).pack.isSome = true) : BaysSound (s.go src x b p early) := by
  have hopened := (h.atHand.recontext (k := ⟨s.cfg.handoverTime * 1000, false, none, x.id⟩) hres).enterBay (n := .opened) (by
    rw [State.setBay_bay_self]
    exact fits_atDoor rfl hpack (by simp [hres]) rfl rfl rfl)
  have hgone : BaysSound ((s.goRecord x b p).setBay b
      { (s.goRecord x b p).bay b with handover := some ⟨(s.goRecord x b p).cfg.handoverTime * 1000, false, none, x.id⟩ }) := by
    refine baysSound_congr ?_ (by simp [State.goRecord]) (by simp [State.goRecord]) hopened.sound
    simp only [State.goRecord, State.enterBay_eq, State.setBay_bays, State.request_bays, State.updateRecord_bays, Vector.set_set,
      State.setBay_bay_self]
    congr 1
    simp [State.bay, Bay.entering, Bay.writeSetpoint, BayState.atDoor]
    rfl
  unfold State.go
  dsimp only
  split
  · exact baysSound_raise _ (baysSound_post _ hgone)
  · exact baysSound_post _ hgone

end

end Sys2Proof.Machine
end

section
/-! SUPPORT. Records and the bays they name (R43): what each rule keeps of their agreement, told of one bay and one record with
the rest of the part standing by. -/

namespace Sys2Proof.Machine

open Sys2Proof.Machine.Safety

/-! ### The book after a change of one record -/

section
variable {s : State} {id : Nat} {f : Reservation → Reservation}

theorem State.mem_updateRecord {r : Reservation} :
    r ∈ (s.updateRecord id f).book.records ↔ ∃ q ∈ s.book.records, r = if q.id = id then f q else q := by
  simp only [State.updateRecord_book, List.mem_map, beq_iff_eq]
  exact exists_congr fun q => and_congr_right fun _ => ⟨Eq.symm, Eq.symm⟩

theorem State.byId_updateRecord (hf : ∀ r, (f r).id = r.id) : (s.updateRecord id f).book.byId id = (s.book.byId id).map f := by
  simp only [State.updateRecord_book, Book.byId]
  induction s.book.records with
  | nil => rfl
  | cons q qs ih =>
    by_cases hq : q.id = id
    · simp [List.find?_cons, hq, hf]
    · rw [List.map_cons, List.find?_cons_of_neg (by simp [hq]), List.find?_cons_of_neg (by simpa using hq), ih]

end

/-- A PENDING record is removed without a move of any bay. -/
theorem State.expire_pending_bays {r : Reservation} {s : State} (hr : r.state = .pending) : (s.expire r).bays = s.bays := by
  rw [State.expire_eq]
  simp [State.dropRecord, State.releaseOf, hr, State.tellRemoved]

/-- An unbind moves no bay: the record it may remove is PENDING by then (R46). -/
theorem State.unbind_bays (id : Nat) (b : BayNo) (s : State) : (s.unbind id b).bays = s.bays := by
  obtain ⟨-, heq⟩ | ⟨r, hr, -, heq⟩ := State.unbind_cases id b s <;> rw [heq]
  dsimp only
  split
  · generalize hu : (s.updateRecord id fun r => { r with state := .pending, late := false, atDoor := false }).request = u
    have hbyId : u.book.byId id = some { r with state := .pending, late := false, atDoor := false } := by
      subst hu
      exact (State.byId_updateRecord (f := fun r => { r with state := .pending, late := false, atDoor := false })
        fun _ => rfl).trans (by rw [hr]; rfl)
    have hbays : u.bays = s.bays := by rw [← hu]; rfl
    obtain heq | ⟨q, hq, -, -, heq⟩ := State.expiryCheck_cases id u <;> rw [heq]
    · exact hbays
    · obtain rfl := Option.some.inj (hbyId.symm.trans hq)
      rw [State.expire_pending_bays rfl, hbays]
  · rfl

/-! ### One bay and one record apart from the rest -/

/-- A bay in the same state with the same reservation. -/
def SameStand (s t : State) (d : BayNo) : Prop :=
  (t.bay d).state = (s.bay d).state ∧ (t.bay d).reservation = (s.bay d).reservation

theorem SameStand.refl (s : State) (d : BayNo) : SameStand s s d := ⟨rfl, rfl⟩

theorem sameStand_setBay {s : State} {b : BayNo} {x : Bay} {d : BayNo} (hd : d ≠ b) : SameStand s (s.setBay b x) d := by
  unfold SameStand
  rw [State.setBay_bay, if_neg (Ne.symm hd)]
  exact ⟨rfl, rfl⟩

theorem sameStand_enterBay {s : State} {b : BayNo} {n : BayState} {d : BayNo} (hd : d ≠ b) : SameStand s (s.enterBay b n) d := by
  unfold SameStand
  rw [State.enterBay_bay, if_neg (Ne.symm hd)]
  exact ⟨rfl, rfl⟩

theorem sameStand_of_bays {s t : State} (h : t.bays = s.bays) (d : BayNo) : SameStand s t d := by
  unfold SameStand State.bay
  rw [h]
  exact ⟨rfl, rfl⟩

/-- A record reads of the bays the one it names alone. -/
theorem recordAgrees_congr {s t : State} {r : Reservation} (h : ∀ d, r.bay = some d → SameStand s t d) (hr : RecordAgrees s r) :
    RecordAgrees t r := by
  unfold RecordAgrees Reservation.bay at *
  split at hr
  · exact hr
  · next d hst =>
    obtain ⟨hstate, hres⟩ := h d (by simp [hst])
    exact ⟨hres.trans hr.1, hstate.trans hr.2⟩
  · next d hst =>
    obtain ⟨hstate, hres⟩ := h d (by simp [hst])
    exact ⟨hres.trans hr.1, hstate.trans hr.2⟩
  · next d p hst =>
    obtain ⟨hstate, hres⟩ := h d (by simp [hst])
    exact ⟨hres.trans hr.1, hstate.trans hr.2.1, hr.2.2⟩

theorem recordAgrees_reservation {s : State} {r : Reservation} {d : BayNo} (hr : RecordAgrees s r) (hd : r.bay = some d) :
    (s.bay d).reservation = some r.id := by
  unfold RecordAgrees at hr
  unfold Reservation.bay at hd
  split at hr <;> simp_all

/-- The table of 3.3 for a record that names a bay. -/
theorem recordAgrees_of_bay {s : State} {r : Reservation} {d : BayNo} (hr : RecordAgrees s r) (hd : r.bay = some d) :
    (r.state = .bound d ∧ (s.bay d).state = if r.atDoor then .ajar else .held) ∨
    (r.state = .ready d ∧ (s.bay d).state = if r.atDoor then .ajar else .ready) ∨
    (∃ p, r.state = .handover d p) ∧ (s.bay d).state = .opened ∧ r.atDoor = true := by
  unfold RecordAgrees at hr
  unfold Reservation.bay at hd
  cases hst : r.state with
  | pending => simp [hst] at hd
  | bound c =>
    obtain rfl : c = d := by simpa [hst] using hd
    rw [hst] at hr
    exact .inl ⟨rfl, hr.2⟩
  | ready c =>
    obtain rfl : c = d := by simpa [hst] using hd
    rw [hst] at hr
    exact .inr (.inl ⟨rfl, hr.2⟩)
  | handover c p =>
    obtain rfl : c = d := by simpa [hst] using hd
    rw [hst] at hr
    exact .inr (.inr ⟨⟨p, rfl⟩, hr.2⟩)

/-- The records but one and the bays but one agree, and name neither of the two. -/
structure AgreeBut (b : BayNo) (oid : Option Nat) (s : State) : Prop where
  records : ∀ r ∈ s.book.records, oid ≠ some r.id → RecordAgrees s r ∧ r.bay ≠ some b
  bays : ∀ d, d ≠ b → ∀ id, (s.bay d).reservation = some id →
    oid ≠ some id ∧ ∃ r ∈ s.book.records, r.id = id ∧ r.bay = some d

section
variable {s t : State} {b : BayNo}

theorem record_unique {l : List Reservation} (hids : (l.map (·.id)).Nodup) {q r : Reservation} (hq : q ∈ l) (hr : r ∈ l)
    (h : q.id = r.id) : q = r := List.inj_on_of_nodup_map hids hq hr h

/-- A bay and the record it names, taken out of a part that agrees. -/
theorem agreeBut_of_agree (h : BindingsAgree s) (hids : (s.book.records.map (·.id)).Nodup) (b : BayNo) :
    AgreeBut b (s.bay b).reservation s := by
  refine ⟨fun r hr hne => ⟨h.1 r hr, fun hb => hne (recordAgrees_reservation (h.1 r hr) hb)⟩, fun d hd id hid => ?_⟩
  obtain ⟨r, hr, hrid, hbay⟩ := h.2 d id hid
  refine ⟨fun hb => hd ?_, r, hr, hrid, hbay⟩
  obtain ⟨q, hq, hqid, hqbay⟩ := h.2 b id hb
  obtain rfl := record_unique hids hq hr (hqid.trans hrid.symm)
  exact Option.some.inj (hbay.symm.trans hqbay)

/-- A bay without a reservation and a PENDING record, taken out of a part that agrees. -/
theorem agreeBut_pending (h : BindingsAgree s) (hids : (s.book.records.map (·.id)).Nodup) (hb : (s.bay b).reservation = none)
    {q : Reservation} (hq : q ∈ s.book.records) (hpending : q.state = .pending) : AgreeBut b (some q.id) s := by
  refine ⟨fun r hr _ => ⟨h.1 r hr, fun hbay => ?_⟩, fun d hd id hid => ?_⟩
  · have := recordAgrees_reservation (h.1 r hr) hbay
    rw [hb] at this
    simp at this
  · obtain ⟨r, hr, hrid, hbay⟩ := h.2 d id hid
    refine ⟨fun he => ?_, r, hr, hrid, hbay⟩
    obtain rfl := record_unique hids hq hr ((Option.some.inj he).trans hrid.symm)
    simp [Reservation.bay, hpending] at hbay

theorem AgreeBut.moved {oid : Option Nat} (h : AgreeBut b oid s) (hbook : t.book = s.book) (hbays : ∀ d, d ≠ b → SameStand s t d) :
    AgreeBut b oid t := by
  refine ⟨fun r hr hne => ?_, fun d hd id hid => ?_⟩
  · rw [hbook] at hr
    obtain ⟨hagree, hbay⟩ := h.records r hr hne
    exact ⟨recordAgrees_congr (fun d hd => hbays d fun he => hbay (he ▸ hd)) hagree, hbay⟩
  · rw [(hbays d hd).2] at hid
    rw [hbook]
    exact h.bays d hd id hid

theorem AgreeBut.edit {id : Nat} {f : Reservation → Reservation} (h : AgreeBut b (some id) s) (hf : ∀ r, (f r).id = r.id) :
    AgreeBut b (some id) (s.updateRecord id f) := by
  refine ⟨fun r hr hne => ?_, fun d hd j hj => ?_⟩
  · obtain ⟨q, hq, rfl⟩ := State.mem_updateRecord.1 hr
    by_cases hqid : q.id = id
    · rw [if_pos hqid, hf] at hne
      exact absurd (congrArg some hqid.symm) hne
    · rw [if_neg hqid] at hne ⊢
      obtain ⟨hagree, hbay⟩ := h.records q hq hne
      exact ⟨recordAgrees_congr (fun d _ => ⟨rfl, rfl⟩) hagree, hbay⟩
  · obtain ⟨hne, q, hq, hqid, hbay⟩ := h.bays d hd j hj
    refine ⟨hne, q, State.mem_updateRecord.2 ⟨q, hq, ?_⟩, hqid, hbay⟩
    rw [if_neg (fun he => hne (by rw [← he, hqid]))]

theorem AgreeBut.drop {r : Reservation} (e : List Nat) (h : AgreeBut b (some r.id) s) : AgreeBut b (some r.id) (s.dropRecord r e) := by
  have hmem : ∀ q, q ∈ (s.dropRecord r e).book.records ↔ q ∈ s.book.records ∧ q.id ≠ r.id := by
    intro q
    simp [State.dropRecord, State.tellRemoved, Book.remove]
  refine ⟨fun q hq hne => ?_, fun d hd j hj => ?_⟩
  · obtain ⟨hagree, hbay⟩ := h.records q ((hmem q).1 hq).1 hne
    exact ⟨recordAgrees_congr (fun d _ => ⟨rfl, rfl⟩) hagree, hbay⟩
  · obtain ⟨hne, q, hq, hqid, hbay⟩ := h.bays d hd j hj
    refine ⟨hne, q, (hmem q).2 ⟨hq, fun he => hne ?_⟩, hqid, hbay⟩
    rw [← he, hqid]

/-- Two bays without a reservation may stand for one another. -/
theorem AgreeBut.shift {a : BayNo} {oid : Option Nat} (h : AgreeBut a oid s) (ha : (s.bay a).reservation = none)
    (hb : (s.bay b).reservation = none) : AgreeBut b oid s := by
  refine ⟨fun r hr hne => ⟨(h.records r hr hne).1, fun hbay => ?_⟩, fun d hd id hid => ?_⟩
  · have := recordAgrees_reservation (h.records r hr hne).1 hbay
    rw [hb] at this
    simp at this
  · by_cases hda : d = a
    · rw [hda, ha] at hid
      simp at hid
    · exact h.bays d hda id hid

/-- The bay names no record, and the record names no bay. -/
theorem AgreeBut.loose {oid : Option Nat} (h : AgreeBut b oid s) (hb : (s.bay b).reservation = none)
    (hr : ∀ r ∈ s.book.records, oid = some r.id → r.state = .pending ∧ r.atDoor = false) : BindingsAgree s := by
  refine ⟨fun r hmem => ?_, fun d id hid => ?_⟩
  · by_cases hne : oid = some r.id
    · obtain ⟨hst, hdoor⟩ := hr r hmem hne
      unfold RecordAgrees
      rw [hst]
      exact hdoor
    · exact (h.records r hmem hne).1
  · by_cases hd : d = b
    · rw [hd, hb] at hid
      simp at hid
    · exact (h.bays d hd id hid).2

/-- The bay and the record name one another as the table of 3.3 says. -/
theorem AgreeBut.linked {id : Nat} (h : AgreeBut b (some id) s) (hb : (s.bay b).reservation = some id)
    (hsome : ∃ r ∈ s.book.records, r.id = id ∧ r.bay = some b)
    (hr : ∀ r ∈ s.book.records, r.id = id → RecordAgrees s r) : BindingsAgree s := by
  refine ⟨fun r hmem => ?_, fun d j hj => ?_⟩
  · by_cases hid : r.id = id
    · exact hr r hmem hid
    · exact (h.records r hmem fun he => hid (Option.some.inj he).symm).1
  · by_cases hd : d = b
    · rw [hd, hb] at hj
      obtain rfl := Option.some.inj hj
      rw [hd]
      exact hsome
    · exact (h.bays d hd j hj).2

/-- Bays in the same states with the same reservations, and the same records but for what the agreement does not read. -/
theorem bindingsAgree_congr (hbook : t.book.records = s.book.records) (hbays : ∀ d, SameStand s t d) (hs : BindingsAgree s) :
    BindingsAgree t := by
  refine ⟨fun r hr => ?_, fun d id hid => ?_⟩
  · rw [hbook] at hr
    exact recordAgrees_congr (fun d _ => hbays d) (hs.1 r hr)
  · rw [(hbays d).2] at hid
    rw [hbook]
    exact hs.2 d id hid

end

/-! ### Bay records, book and bindings together -/

/-- Every bay record is sound, the book is sound, and records and bays agree. -/
structure Agreeing (s : State) : Prop where
  bays : BaysSound s
  book : BookSound s
  agree : BindingsAgree s

theorem Agreeing.ids {s : State} (h : Agreeing s) : (s.book.records.map (·.id)).Nodup := h.book.2.2.1

theorem Agreeing.reservation {s : State} (h : Agreeing s) (b : BayNo) : (s.bay b).reservation.isSome = (s.bay b).state.reserved :=
  (baysSound_iff.1 h.bays b).1.fields.2.2.2.1

theorem Agreeing.no_reservation {s : State} {b : BayNo} (h : Agreeing s) (hst : (s.bay b).state.reserved = false) :
    (s.bay b).reservation = none := by
  have := h.reservation b
  rw [hst] at this
  exact Option.isNone_iff_eq_none.1 (Option.isSome_eq_false_iff.1 this)

/-- The record a bay names (R43). -/
theorem Agreeing.record {s : State} {b : BayNo} {id : Nat} (h : Agreeing s) (hid : (s.bay b).reservation = some id) :
    ∃ r, s.book.byId id = some r ∧ r ∈ s.book.records ∧ r.id = id ∧ r.bay = some b ∧ RecordAgrees s r := by
  obtain ⟨r, hr, rfl, hbay⟩ := h.agree.2 b id hid
  exact ⟨r, Book.byId_of_mem h.ids hr, hr, rfl, hbay, h.agree.1 r hr⟩

theorem bookSound_kept : Kept BookSound := bookSound_apart.kept

theorem State.enterBay_reservation (s : State) (b : BayNo) (n : BayState) :
    ((s.enterBay b n).bay b).reservation = if n.reserved then (s.bay b).reservation else none := by
  rw [State.enterBay_bay, if_pos rfl]
  rfl

theorem State.enterBay_state (s : State) (b : BayNo) (n : BayState) : ((s.enterBay b n).bay b).state = n := by
  rw [State.enterBay_bay, if_pos rfl]
  rfl

/-! ### Updates that move no bay (R41, R53, R57) -/

/-- A record not at the door that names a bay is BOUND to a HELD one or READY in a READY one (R43). -/
theorem Agreeing.away {s : State} {r : Reservation} (h : Agreeing s) (hr : r ∈ s.book.records) (hdoor : r.atDoor = false) :
    r.state = .pending ∨ ∃ b, (r.state = .bound b ∧ (s.bay b).state = .held ∨ r.state = .ready b ∧ (s.bay b).state = .ready) ∧
      (s.bay b).reservation = some r.id := by
  have hagree := h.agree.1 r hr
  unfold RecordAgrees at hagree
  split at hagree
  · exact .inl ‹_›
  · next b hst => exact .inr ⟨b, .inl ⟨hst, by simpa [hdoor] using hagree.2⟩, hagree.1⟩
  · next b hst => exact .inr ⟨b, .inr ⟨hst, by simpa [hdoor] using hagree.2⟩, hagree.1⟩
  · simp [hdoor] at hagree

/-- A record not at the door leaves the book, its bay released. -/
theorem bindingsAgree_drop {s : State} {r : Reservation} (e : List Nat) (h : Agreeing s) (hr : r ∈ s.book.records)
    (hdoor : r.atDoor = false) : BindingsAgree ((s.releaseOf r).dropRecord r e) := by
  have hgone : ∀ u : State, ∀ q ∈ (u.dropRecord r e).book.records, some r.id = some q.id → q.state = .pending ∧ q.atDoor = false := by
    intro u q hq hid
    simp only [State.dropRecord, State.tellRemoved, Book.remove, State.request_book, List.mem_filter, decide_eq_true_eq] at hq
    exact absurd (Option.some.inj hid).symm hq.2
  obtain hst | ⟨b, hst, hres⟩ := h.away hr hdoor
  · have hstay : s.releaseOf r = s := by simp [State.releaseOf, hst]
    rw [hstay]
    refine ⟨fun q hq => ?_, fun d id hid => ?_⟩
    · simp only [State.dropRecord, State.tellRemoved, Book.remove, State.request_book, List.mem_filter] at hq
      exact recordAgrees_congr (fun d _ => ⟨rfl, rfl⟩) (h.agree.1 q hq.1)
    · obtain ⟨q, hq, hqid, hbay⟩ := h.agree.2 d id hid
      refine ⟨q, ?_, hqid, hbay⟩
      simp only [State.dropRecord, State.tellRemoved, Book.remove, State.request_book, List.mem_filter, decide_eq_true_eq]
      refine ⟨hq, fun he => ?_⟩
      obtain rfl := record_unique h.ids hq hr he
      simp [Reservation.bay, hst] at hbay
  · have hbut := agreeBut_of_agree h.agree h.ids b
    rw [hres] at hbut
    have hreleased : s.releaseOf r = s.enterBay b .stock := by
      obtain ⟨hst, hbay⟩ | ⟨hst, hbay⟩ := hst <;> simp [State.releaseOf, hst, State.releaseBay, hbay]
    rw [hreleased]
    refine ((hbut.moved (by simp) fun d hd => sameStand_enterBay hd).drop e).loose ?_ (hgone _)
    exact State.enterBay_reservation s b .stock

theorem agreeing_congr {s t : State} (hbays : t.bays = s.bays) (hbook : t.book = s.book) (hcfg : t.cfg = s.cfg) (hpart : t.part = s.part)
    (h : Agreeing s) : Agreeing t :=
  ⟨baysSound_congr hbays hcfg hpart h.bays, bookSound_congr hbook hcfg h.book,
    bindingsAgree_congr (by rw [hbook]) (sameStand_of_bays hbays) h.agree⟩

/-- The end of a grant, a decision and a clamp leave each bay its state and its reservation. -/
theorem sameStand_endGrant (c : Converter) (s : State) (d : BayNo) : SameStand s (s.endGrant c) d := by
  unfold SameStand
  cases hh : s.boost.converter.holder with
  | none => rw [State.endGrant, hh]; exact ⟨rfl, rfl⟩
  | some h =>
    rw [State.endGrant_bay c hh]
    split
    · next hd => rw [hd]; exact ⟨rfl, rfl⟩
    · exact ⟨rfl, rfl⟩

theorem sameStand_decide (s : State) (d : BayNo) : SameStand s s.decideGrant d := by
  unfold State.decideGrant
  split
  · next b a _ =>
    unfold SameStand
    rw [show (State.grant b { s with boost := a }).bay d = if b = d then { s.bay b with boost := true } else s.bay d from
      State.setBay_bay _ b d _]
    split
    · next hd => rw [hd]; exact ⟨rfl, rfl⟩
    · exact ⟨rfl, rfl⟩
  · exact .refl _ _

theorem sameStand_reshare (f : Feed) (s : State) (d : BayNo) : SameStand s (s.reshare f) d := by
  obtain ⟨v, q, heq, hv⟩ := s.reshare_eq f
  obtain ⟨p, -, hp⟩ := hv d
  unfold SameStand
  rw [heq, show State.bay _ d = v[d] from rfl, hp]
  exact ⟨rfl, rfl⟩

theorem agreeing_calm : CalmApart Agreeing where
  aside _ _ _ _ s h := agreeing_congr (s := s) rfl rfl rfl rfl h
  request s h := agreeing_congr (s := s) rfl rfl rfl rfl h
  removeRecord r s hr hdoor h := by
    refine ⟨baysSound_removeRecord r h.bays, bookSound_apart.removeRecord hr h.book, ?_⟩
    rw [State.removeRecord_eq]
    exact bindingsAgree_drop _ h hr hdoor
  expire r s hr hdoor h := by
    refine ⟨baysSound_expire r h.bays, bookSound_apart.expire hr h.book, ?_⟩
    rw [State.expire_eq]
    exact bindingsAgree_congr (s := (s.releaseOf r).dropRecord r (pushExpired r.token s.book.expired)) (by simp)
      (sameStand_of_bays (by simp)) (bindingsAgree_drop _ h hr hdoor)
  unknown s h := ⟨h.bays, bookSound_apart.unknown s h.book, bindingsAgree_congr (s := s) rfl (.refl s) h.agree⟩
  endGrant c s hc h := ⟨baysSound_endGrant h.bays, bookSound_apart.endGrant c s hc h.book,
    bindingsAgree_congr (by simp) (sameStand_endGrant c s) h.agree⟩
  fault s hidle h := agreeing_congr (s := s) rfl rfl rfl rfl h
  renew _ _ _ s _ h := agreeing_congr (s := s) rfl rfl rfl rfl h
  decide s hc h := ⟨baysSound_decide h.bays, bookSound_apart.decide s hc h.book,
    bindingsAgree_congr (by simp) (sameStand_decide s) h.agree⟩
  reshare f s hf h := ⟨baysSound_recompute (s := { s with feed := f }) h.bays, bookSound_apart.reshare f s hf h.book,
    bindingsAgree_congr (by simp) (sameStand_reshare f s) h.agree⟩
  claimTimer _ s h := agreeing_congr (s := s) rfl rfl rfl rfl h
  templates _ s _ h := agreeing_congr (s := s) rfl rfl rfl rfl h
  setSlot _ _ s _ h := agreeing_congr (s := s) rfl rfl rfl rfl h
  dropped s h := agreeing_congr (s := s) rfl rfl rfl rfl h

theorem Agreeing.raise {s : State} (n : Notice) (h : Agreeing s) : Agreeing (s.raise n) := agreeing_calm.raise n h

/-- A bay record changed in nothing its record reads. -/
theorem Agreeing.setBay {s : State} {b : BayNo} {x : Bay} (h : Agreeing s) (hx : BaySound s.cfg (s.part = .run) x)
    (hst : x.state = (s.bay b).state) (hres : x.reservation = (s.bay b).reservation) : Agreeing (s.setBay b x) := by
  refine ⟨baysSound_setBay h.bays hx, h.book, bindingsAgree_congr (s := s) rfl (fun d => ?_) h.agree⟩
  by_cases hd : d = b
  · unfold SameStand
    rw [hd, State.setBay_bay_self]
    exact ⟨hst, hres⟩
  · exact sameStand_setBay hd

/-! ### A bay that leaves its record (R12, R17, R46) -/

/-- A bay at hand whose record, if it names one, is BOUND or READY: what a move away from the record starts from. -/
structure Leaving (b : BayNo) (s : State) : Prop where
  hand : AtHand b s
  book : BookSound s
  but : AgreeBut b (s.bay b).reservation s
  free : ∀ r ∈ s.book.records, (s.bay b).reservation = some r.id → r.state = .bound b ∨ r.state = .ready b

section
variable {b : BayNo} {s : State}

theorem Agreeing.leaving (h : Agreeing s) (hused : Used b s) (hst : (s.bay b).state ≠ .opened) : Leaving b s := by
  refine ⟨(InService.mk h.bays hused).atHand, h.book, agreeBut_of_agree h.agree h.ids b, fun r hr hres => ?_⟩
  obtain ⟨q, -, hq, hqid, hbay, hagree⟩ := h.record hres
  obtain rfl := record_unique h.ids hq hr hqid
  obtain ⟨hst', -⟩ | ⟨hst', -⟩ | ⟨-, hopen, -⟩ := recordAgrees_of_bay hagree hbay
  · exact .inl hst'
  · exact .inr hst'
  · exact absurd hopen hst

theorem Leaving.repack (h : Leaving b s) {o : Option Pack} (ho : ∀ p, o = some p → PackSound s.cfg p) :
    Leaving b (s.setBay b { s.bay b with pack := o }) := by
  have hres : ((s.setBay b { s.bay b with pack := o }).bay b).reservation = (s.bay b).reservation := by rw [State.setBay_bay_self]
  refine ⟨h.hand.repack ho, h.book, ?_, ?_⟩
  · rw [hres]
    exact h.but.moved rfl fun d hd => sameStand_setBay hd
  · rw [hres]
    exact h.free

/-- A record taken from its bay: PENDING and not at the door, and gone if its time has come (R46, R52). -/
theorem agreeing_unbind {id : Nat} (hbays : InService b s) (hbook : BookSound s) (hbut : AgreeBut b (some id) s)
    (hres : (s.bay b).reservation = none) (hfree : ∀ r ∈ s.book.records, r.id = id → r.state = .bound b ∨ r.state = .ready b) :
    Agreeing (s.unbind id b) := by
  obtain ⟨hnone, heq⟩ | ⟨r, hr, -, heq⟩ := State.unbind_cases id b s <;> rw [heq]
  · refine ⟨hbays.sound, hbook, hbut.loose hres fun r hr hid => ?_⟩
    obtain ⟨hb, hrd⟩ := hnone r (by rw [Option.some.inj hid]; exact Book.byId_of_mem hbook.2.2.1 hr)
    obtain hst | hst := hfree r hr (Option.some.inj hid).symm
    · exact absurd hst hb
    · exact absurd hst hrd
  · have hpending : Agreeing (s.request.updateRecord id fun r => { r with state := .pending, late := false, atDoor := false }) := by
      refine ⟨hbays.sound, bookSound_apart.edit _ _ _ ⟨by simp, by simp, .inr rfl⟩ hbook, ?_⟩
      have hrequested := hbut.moved (t := s.request) rfl fun d _ => ⟨rfl, rfl⟩
      refine (hrequested.edit (f := fun r => { r with state := .pending, late := false, atDoor := false })
        fun _ => rfl).loose hres fun q hq hid => ?_
      obtain ⟨x, hx, rfl⟩ := State.mem_updateRecord.1 hq
      by_cases hxid : x.id = id
      · rw [if_pos hxid]
        exact ⟨rfl, rfl⟩
      · rw [if_neg hxid] at hid
        exact absurd (Option.some.inj hid).symm hxid
    dsimp only
    split
    · exact agreeing_calm.calm.expiryCheck id hpending
    · exact hpending

/-- A bay moved to a state without a reservation, its record left behind. -/
theorem Leaving.moved {n : BayState} (h : Leaving b s) (hfits : (s.bay b).Fits n) :
    InService b (s.enterBay b n) ∧ BookSound (s.enterBay b n) ∧ AgreeBut b (s.bay b).reservation (s.enterBay b n) :=
  ⟨h.hand.enterBay hfits, bookSound_apart.enterBay b n s h.book, h.but.moved (by simp) fun d hd => sameStand_enterBay hd⟩

theorem Leaving.leaveBay {n : BayState} (h : Leaving b s) (hfits : (s.bay b).Fits n) (hn : n.reserved = false) :
    Agreeing (s.leaveBay b n) := by
  obtain ⟨hbays, hbook, hbut⟩ := h.moved hfits
  have hres : ((s.enterBay b n).bay b).reservation = none := by rw [State.enterBay_reservation, hn]; rfl
  have hfree := h.free
  unfold State.leaveBay
  dsimp only
  cases hid : (s.bay b).reservation with
  | none => exact ⟨hbays.sound, hbook, (hid ▸ hbut).loose hres (by simp)⟩
  | some id =>
    refine agreeing_unbind hbays hbook (hid ▸ hbut) hres fun r hr hrid => ?_
    exact hfree r (by simpa using hr) (by rw [hid, hrid])

theorem Leaving.faultBay {k : FaultKind} (h : Leaving b s) (hfits : (s.bay b).Fits (.fault k)) : Agreeing (s.faultBay b k) := by
  obtain ⟨hbays, hbook, hbut⟩ := h.moved hfits
  have hres : ((s.enterBay b (.fault k)).bay b).reservation = none := State.enterBay_reservation s b (.fault k)
  have hfree := h.free
  unfold State.faultBay
  dsimp only
  cases hid : (s.bay b).reservation with
  | none => exact (Agreeing.mk hbays.sound hbook ((hid ▸ hbut).loose hres (by simp))).raise _
  | some id =>
    refine agreeing_unbind (hbays.raise _) (bookSound_apart.raise _ hbook) ((hid ▸ hbut).moved (by simp) fun d _ => sameStand_of_bays (by simp) d)
      (by simpa [State.bay] using hres) fun r hr hrid => ?_
    exact hfree r (by simpa using hr) (by rw [hid, hrid])

/-- A bay without a reservation moves to a state without one. -/
theorem Leaving.enterBay {n : BayState} (h : Leaving b s) (hid : (s.bay b).reservation = none) (hfits : (s.bay b).Fits n)
    (hn : n.reserved = false) : Agreeing (s.enterBay b n) := by
  obtain ⟨hbays, hbook, hbut⟩ := h.moved hfits
  exact ⟨hbays.sound, hbook, (hid ▸ hbut).loose (by rw [State.enterBay_reservation, hn]; rfl) (by simp)⟩

/-- What stands of the bay itself after it leaves its record. -/
theorem State.leaveBay_state (s : State) (b : BayNo) (n : BayState) : ((s.leaveBay b n).bay b).state = n := by
  unfold State.leaveBay
  dsimp only
  split
  · rw [State.bay, State.unbind_bays]
    exact State.enterBay_state s b n
  · exact State.enterBay_state s b n

theorem State.faultBay_state (s : State) (b : BayNo) (k : FaultKind) : ((s.faultBay b k).bay b).state = .fault k := by
  unfold State.faultBay
  dsimp only
  split
  · rw [State.bay, State.unbind_bays, State.raise_bays]
    exact State.enterBay_state s b _
  · rw [State.bay, State.raise_bays]
    exact State.enterBay_state s b _

/-! ### Reports outside a handover (R8 to R13) -/

variable {r : Report}

theorem Agreeing.reportChecking (hr : ReportLimited r) (h : Agreeing s) (hused : Used b s)
    (hres : (s.bay b).reservation = none) : Agreeing (s.reportChecking b r) := by
  have hopen : (s.bay b).state ≠ .opened := fun hst => by
    have := h.reservation b
    rw [hst, hres] at this
    simp [BayState.reserved] at this
  have hleaving := h.leaving hused hopen
  have hpack : r.serial ≠ 0 → Leaving b (s.setBay b { s.bay b with pack := some (packOfReport s.cfg r) }) := fun hserial =>
    hleaving.repack fun p hp => by obtain rfl := Option.some.inj hp; exact packSound_ofReport hr _ hserial
  unfold State.reportChecking
  dsimp only
  split
  · exact hleaving.faultBay fits_stageFault
  split
  · exact hleaving.enterBay hres (fits_dropping rfl (by simp)) rfl
  split
  · exact h
  split
  · exact (hpack ‹_›).faultBay (fits_fault (by simp))
  split
  · exact (hpack ‹_›).faultBay (fits_fault (by simp))
  · exact (hpack ‹_›).enterBay (by rw [State.setBay_bay_self]; exact hres) (fits_stock (by simp)) rfl

theorem Agreeing.checkPack (hr : ReportLimited r) (h : Agreeing s) (hused : Used b s) (hst : (s.bay b).state.reserved = false) :
    Agreeing (s.checkPack b r) := by
  have hchecking := (h.leaving hused fun he => by simp [he, BayState.reserved] at hst).enterBay (n := .checking)
    (h.no_reservation hst) (fits_dropping rfl (by simp)) rfl
  exact hchecking.reportChecking hr ((used_apart b).enterBay b _ s hused) (State.enterBay_reservation s b .checking)

theorem Agreeing.reportEmpty (hr : ReportLimited r) (h : Agreeing s) (hused : Used b s) (hst : (s.bay b).state.reserved = false) :
    Agreeing (s.reportEmpty b r) := by
  unfold State.reportEmpty
  split
  · exact (h.leaving hused fun he => by simp [he, BayState.reserved] at hst).faultBay fits_stageFault
  split
  · exact h
  · exact h.checkPack hr hused hst

/-- A pack gone leaves the bay EMPTY (R11). -/
theorem Agreeing.packMissing (h : Agreeing s) (hused : Used b s) (hst : (s.bay b).state ≠ .opened) :
    Agreeing (s.packMissing b) ∧ ((s.packMissing b).bay b).state = .empty := by
  have hleft := ((h.leaving hused hst).leaveBay (n := .empty) (fits_dropping rfl (by simp)) rfl).raise
    (.packMissing b (s.bay b).serial ((s.bay b).reservation.getD 0))
  have hempty := State.leaveBay_state s b .empty
  unfold State.packMissing
  dsimp only
  split
  · exact ⟨hleft.raise _, by simpa [State.bay] using hempty⟩
  · exact ⟨hleft, by simpa [State.bay] using hempty⟩

theorem State.copyFigures_others {d : BayNo} (hd : d ≠ b) : (s.copyFigures b r).bay d = s.bay d := by
  have hraise : ∀ (c : Prop) [Decidable c] (n : Notice) (u : State), (if c then u.raise n else u).bay d = u.bay d := by
    intro c _ n u
    split <;> simp [State.bay]
  have hrequest : ∀ (c : Prop) [Decidable c] (u : State), (if c then u.request else u).bay d = u.bay d := by
    intro c _ u
    split <;> rfl
  unfold State.copyFigures
  split
  · rfl
  · dsimp only
    rw [hrequest, hraise, State.changeBay]
    exact (State.setBay_bay s b d _).trans (if_neg (Ne.symm hd))

theorem Agreeing.copyFigures (hr : ReportLimited r) (h : Agreeing s) (hused : Used b s) : Agreeing (s.copyFigures b r) := by
  refine ⟨((InService.mk h.bays hused).copyFigures hr).sound, bookSound_kept.copyFigures b r h.book, ?_⟩
  refine bindingsAgree_congr (by simp) (fun d => ?_) h.agree
  by_cases hd : d = b
  · obtain ⟨hst, hres, -⟩ := State.copyFigures_bay b r s
    rw [hd]
    exact ⟨hst, hres⟩
  · unfold SameStand
    rw [State.copyFigures_others hd]
    exact ⟨rfl, rfl⟩

end

end Sys2Proof.Machine
end

section
/-! SUPPORT. Records and bays agree after each rule of the Bay Table and the Handover Unit, and after a completion (R43). -/

namespace Sys2Proof.Machine

open Sys2Proof.Machine.Safety

section
variable {b : BayNo} {s : State} {r : Report}

/-! ### A bay and its record moved together (R44, R47, R48, R50, R51) -/

/-- A record rewritten to agree with the bay that names it. -/
theorem AgreeBut.relinked {id : Nat} {f : Reservation → Reservation} {q : Reservation} (h : AgreeBut b (some id) s)
    (hids : (s.book.records.map (·.id)).Nodup) (hf : ∀ r, (f r).id = r.id) (hq : q ∈ s.book.records) (hqid : q.id = id)
    (hres : (s.bay b).reservation = some id) (hbay : (f q).bay = some b) (hagree : RecordAgrees s (f q)) :
    BindingsAgree (s.updateRecord id f) := by
  refine (h.edit hf).linked hres ⟨f q, State.mem_updateRecord.2 ⟨q, hq, by rw [if_pos hqid]⟩, by rw [hf, hqid], hbay⟩ ?_
  intro x hx hxid
  obtain ⟨y, hy, rfl⟩ := State.mem_updateRecord.1 hx
  by_cases hyid : y.id = id
  · obtain rfl := record_unique hids hy hq (hyid.trans hqid.symm)
    rw [if_pos hyid]
    exact recordAgrees_congr (fun d _ => ⟨rfl, rfl⟩) hagree
  · rw [if_neg hyid] at hxid
    exact absurd hxid hyid

theorem recordAgrees_ready {x : Reservation} (hst : x.state = .ready b) (hdoor : x.atDoor = false)
    (hres : (s.bay b).reservation = some x.id) (hbay : (s.bay b).state = .ready) : RecordAgrees s x := by
  unfold RecordAgrees
  rw [hst]
  exact ⟨hres, by rw [hdoor]; exact hbay⟩

theorem recordAgrees_bound {x : Reservation} (hst : x.state = .bound b) (hdoor : x.atDoor = false)
    (hres : (s.bay b).reservation = some x.id) (hbay : (s.bay b).state = .held) : RecordAgrees s x := by
  unfold RecordAgrees
  rw [hst]
  exact ⟨hres, by rw [hdoor]; exact hbay⟩

/-- The record a HELD or READY bay names is not at the door. -/
theorem away_of_bay {x : Reservation} (h : RecordAgrees s x) (hbay : x.bay = some b) (hst : (s.bay b).state.accepted = true) :
    x.atDoor = false := by
  by_contra hdoor
  have hdoor : x.atDoor = true := by simpa using hdoor
  obtain ⟨-, hx⟩ | ⟨-, hx⟩ | ⟨-, hx, -⟩ := recordAgrees_of_bay h hbay
  · rw [hx, hdoor] at hst
    simp [BayState.accepted] at hst
  · rw [hx, hdoor] at hst
    simp [BayState.accepted] at hst
  · rw [hx] at hst
    simp [BayState.accepted] at hst

theorem Agreeing.passSoc (soc : Nat) (h : Agreeing s) (hused : Used b s) : Agreeing (s.passSoc b soc) := by
  refine ⟨((InService.mk h.bays hused).passSoc soc).sound, bookSound_kept.passSoc b soc h.book, ?_⟩
  obtain heq | ⟨id, q, hid, hq, ⟨hst, hbound, -, heq⟩ | ⟨hst, hready, -, heq⟩⟩ := State.passSoc_cases b soc s <;> rw [heq]
  · exact h.agree
  all_goals
    obtain ⟨hmem, rfl⟩ := Book.byId_some hq
    have hbut := agreeBut_of_agree h.agree h.ids b
    rw [hid] at hbut
    have hagree := h.agree.1 q hmem
  · have hdoor : q.atDoor = false := by
      exact away_of_bay (b := b) hagree (by simp [Reservation.bay, hbound]) (by rw [hst]; rfl)
    refine (hbut.moved (t := s.enterBay b .ready) (by simp) fun d hd => sameStand_enterBay hd).relinked (by simpa using h.ids) (fun _ => rfl)
      (by simpa using hmem) rfl ((State.enterBay_reservation s b .ready).trans hid) rfl ?_
    exact recordAgrees_ready rfl hdoor ((State.enterBay_reservation s b .ready).trans hid) (State.enterBay_state s b .ready)
  · have hdoor : q.atDoor = false := by
      exact away_of_bay (b := b) hagree (by simp [Reservation.bay, hready]) (by rw [hst]; rfl)
    refine (hbut.moved (t := s.enterBay b .held) (by simp) fun d hd => sameStand_enterBay hd).relinked (by simpa using h.ids) (fun _ => rfl)
      (by simpa using hmem) rfl ((State.enterBay_reservation s b .held).trans hid) rfl ?_
    exact recordAgrees_bound rfl hdoor ((State.enterBay_reservation s b .held).trans hid) (State.enterBay_state s b .held)

theorem Agreeing.dataTimer (t : Option Nat) (h : Agreeing s) (hst : (s.bay b).state.accepted = true) :
    Agreeing (s.setBay b { s.bay b with dataTimer := t }) := by
  have hin := (InService.mk h.bays (bay_of_accepted h.bays hst).2).dataTimer t hst
  refine h.setBay ?_ rfl rfl
  have := hin.bay
  rwa [State.setBay_bay_self] at this

theorem Agreeing.reportAccepted (hr : ReportLimited r) (h : Agreeing s) (hst : (s.bay b).state.accepted = true) :
    Agreeing (s.reportAccepted b r) := by
  have hcopy : Agreeing (if (s.bay b).sameSerial r = true then s.copyFigures b r else s) ∧
      ((if (s.bay b).sameSerial r = true then s.copyFigures b r else s).bay b).state.accepted = true := by
    split
    · exact ⟨h.copyFigures hr (bay_of_accepted h.bays hst).2, by rw [(State.copyFigures_bay b r s).1]; exact hst⟩
    · exact ⟨h, hst⟩
  unfold State.reportAccepted
  dsimp only
  generalize (if (s.bay b).sameSerial r = true then s.copyFigures b r else s) = u at hcopy
  obtain ⟨hu, hust⟩ := hcopy
  obtain ⟨hpack, hused⟩ := bay_of_accepted hu.bays hust
  have hopen : (u.bay b).state ≠ .opened := fun he => by simp [he, BayState.accepted] at hust
  obtain ⟨hmissing, hempty⟩ := hu.packMissing hused hopen
  split
  · exact (hu.leaving hused hopen).faultBay fits_stageFault
  split
  · exact hmissing
  split
  · exact hmissing.checkPack hr (used_of_state hmissing.bays (by simp [hempty])) (by rw [hempty]; rfl)
  split
  · exact hu.dataTimer _ hust
  split
  · exact (hu.leaving hused hopen).faultBay (fits_fault hpack)
  · exact (hu.dataTimer none hust).passSoc _ ((used_apart b).kept.setBay ⟨rfl, rfl, rfl, le_rfl⟩ hused)

theorem Agreeing.reportPackFault (hr : ReportLimited r) (h : Agreeing s) {k : FaultKind} (hst : (s.bay b).state = .fault k) :
    Agreeing (s.reportPackFault b r) := by
  have hused : Used b s := used_of_state h.bays (by simp [hst])
  have hleaving := h.leaving hused (by simp [hst])
  unfold State.reportPackFault
  split
  · split
    · exact (hleaving.repack (o := none) (by simp)).faultBay fits_stageFault
    · exact hleaving.enterBay (h.no_reservation (by rw [hst]; rfl)) (fits_dropping rfl (by simp)) rfl
  split
  · exact h.checkPack hr hused (by rw [hst]; rfl)
  split
  · exact h.copyFigures hr hused
  · exact h

theorem Agreeing.reportStageFault (hr : ReportLimited r) (h : Agreeing s) (hst : (s.bay b).state = .fault .stageFault) :
    Agreeing (s.reportStageFault b r) := by
  have hused : Used b s := used_of_state h.bays (by simp [hst])
  have hin := (InService.mk h.bays hused).reportStageFault hr hst
  unfold State.reportStageFault at hin ⊢
  split
  · split
    · exact h
    · next hstage habsent =>
      rw [if_pos hstage, if_neg habsent] at hin
      refine h.setBay ?_ rfl rfl
      have := hin.bay
      rwa [State.setBay_bay_self] at this
  split
  · exact h.checkPack hr hused (by rw [hst]; rfl)
  · exact (h.leaving hused (by simp [hst])).enterBay (h.no_reservation (by rw [hst]; rfl)) (fits_dropping rfl (by simp)) rfl

theorem Agreeing.reportOff (hr : ReportLimited r) (h : Agreeing s) {c : OffCause} (hst : (s.bay b).state = .off c) :
    Agreeing (s.reportOff b r c) := by
  have hmoved : ∀ n : BayState, n.dropsPack = true → n ≠ .off .unused → (s.bay b).state ≠ .off .unused →
      Agreeing ((s.enterBay b n).raise (.linkBack b)) ∧ Used b ((s.enterBay b n).raise (.linkBack b)) ∧
      (((s.enterBay b n).raise (.linkBack b)).bay b).state = n := by
    intro n hdrop hn hx
    have hused := used_of_state h.bays hx
    have hres : n.reserved = false := by cases n <;> simp_all [BayState.dropsPack, BayState.reserved]
    refine ⟨((h.leaving hused (by simp [hst])).enterBay (h.no_reservation (by rw [hst]; rfl)) (fits_dropping hdrop hn) hres).raise _,
      (used_apart b).raise _ ((used_apart b).enterBay b n s hused), ?_⟩
    rw [State.bay, State.raise_bays]
    exact State.enterBay_state s b n
  unfold State.reportOff
  split
  · split
    · obtain ⟨hagree, hused, hstate⟩ := hmoved .checking rfl (by simp) (by simp [hst])
      exact hagree.reportChecking hr hused (hagree.no_reservation (by rw [hstate]; rfl))
    · obtain ⟨hagree, hused, hstate⟩ := hmoved .empty rfl (by simp) (by simp [hst])
      exact hagree.reportEmpty hr hused (by rw [hstate]; rfl)
  · exact h
  · exact h

/-! ### The end of a handover (R140 to R147) -/

theorem Book.priorOf_some {k : Book} {id : Nat} {p : Prior} (h : k.priorOf id = some p) :
    ∃ q d, k.byId id = some q ∧ q.state = .handover d p := by
  unfold Book.priorOf at h
  split at h
  · simp at h
  · next q hq =>
    split at h
    · next d p' hst =>
      obtain rfl := Option.some.inj h
      exact ⟨q, d, hq, hst⟩
    · simp at h

theorem State.returnRecord_of {id : Nat} {q : Reservation} {d : BayNo} {p : Prior} (hq : s.book.byId id = some q)
    (hst : q.state = .handover d p) :
    s.returnRecord id = (s.updateRecord id fun r => { r with state := p.state d, late := false }).request := by
  unfold State.returnRecord
  rw [hq]
  simp [hst]

/-- The bay of a record in HANDOVER is OPEN and names it. -/
theorem Agreeing.opened (h : Agreeing s) {id : Nat} (hres : (s.bay b).reservation = some id) (hst : (s.bay b).state = .opened) :
    ∃ q p, s.book.byId id = some q ∧ q ∈ s.book.records ∧ q.id = id ∧ q.state = .handover b p ∧ q.atDoor = true := by
  obtain ⟨q, hq, hmem, hqid, hbay, hagree⟩ := h.record hres
  obtain ⟨-, hx⟩ | ⟨-, hx⟩ | ⟨⟨p, hp⟩, -, hdoor⟩ := recordAgrees_of_bay hagree hbay
  · rw [hst] at hx; split at hx <;> simp at hx
  · rw [hst] at hx; split at hx <;> simp at hx
  · exact ⟨q, p, hq, hmem, hqid, hp, hdoor⟩

/-- After its record has returned, an OPEN bay stands as one that leaves (R51, R143). -/
theorem Agreeing.returned (h : Agreeing s) {id : Nat} (hres : (s.bay b).reservation = some id) (hst : (s.bay b).state = .opened) :
    ∃ q p, s.book.priorOf id = some p ∧ q ∈ (s.returnRecord id).book.records ∧ q.id = id ∧ q.state = p.state b ∧ q.atDoor = true ∧
      Leaving b (s.returnRecord id) := by
  obtain ⟨x, p, hx, hmem, hxid, hxst, hdoor⟩ := h.opened hres hst
  have hprior : s.book.priorOf id = some p := by
    unfold Book.priorOf
    rw [hx]
    simp [hxst]
  have hreturn := State.returnRecord_of hx hxst
  have hused : Used b s := used_of_state h.bays (by simp [hst])
  have hbay : (s.returnRecord id).bay b = s.bay b := by rw [State.bay, State.returnRecord_bays]; rfl
  have hbut := agreeBut_of_agree h.agree h.ids b
  rw [hres] at hbut
  refine ⟨{ x with state := p.state b, late := false }, p, hprior, ?_, hxid, rfl, hdoor,
    ((InService.mk h.bays hused).returnRecord id).atHand, bookSound_kept.returnRecord id h.book, ?_, ?_⟩
  · rw [hreturn]
    exact State.mem_updateRecord.2 ⟨x, hmem, by rw [if_pos hxid]⟩
  · rw [hbay, hres, hreturn]
    exact (hbut.edit (f := fun r => { r with state := p.state b, late := false }) fun _ => rfl).moved rfl fun d _ => ⟨rfl, rfl⟩
  · rw [hbay, hres, hreturn]
    intro q hq hqid
    obtain ⟨y, hy, rfl⟩ := State.mem_updateRecord.1 hq
    by_cases hyid : y.id = id
    · rw [if_pos hyid]
      cases p with
      | bound => exact .inl rfl
      | ready => exact .inr rfl
    · rw [if_neg hyid] at hqid
      exact absurd (Option.some.inj hqid).symm hyid

/-- A door clear of the record a HELD or READY bay names, agreed but for at door (R51). -/
theorem agreeing_doorClear {id : Nat} {q : Reservation} (hbays : BaysSound s) (hbook : BookSound s) (hbut : AgreeBut b (some id) s)
    (hres : (s.bay b).reservation = some id) (hq : q ∈ s.book.records) (hqid : q.id = id) (hdoor : q.atDoor = true)
    (hst : q.state = .bound b ∧ (s.bay b).state = .held ∨ q.state = .ready b ∧ (s.bay b).state = .ready) :
    Agreeing (s.doorClear id) := by
  have hbyId : s.book.byId id = some q := hqid ▸ Book.byId_of_mem hbook.2.2.1 hq
  have hclear : s.doorClear id = (s.updateRecord id fun r => { r with atDoor := false }).expiryCheck id := by
    unfold State.doorClear
    rw [hbyId]
    simp [hdoor]
  rw [hclear]
  refine agreeing_calm.calm.expiryCheck id ⟨hbays, bookSound_apart.edit _ _ _ ⟨by simp, fun r _ hlate => hlate, .inl fun _ => rfl⟩ hbook, ?_⟩
  refine hbut.relinked hbook.2.2.1 (fun _ => rfl) hq hqid hres ?_ ?_
  · obtain ⟨hst, -⟩ | ⟨hst, -⟩ := hst <;> simp [Reservation.bay, hst]
  · obtain ⟨hst, hbay⟩ | ⟨hst, hbay⟩ := hst
    · exact recordAgrees_bound (x := { q with atDoor := false }) hst rfl (by rw [hres, ← hqid]) hbay
    · exact recordAgrees_ready (x := { q with atDoor := false }) hst rfl (by rw [hres, ← hqid]) hbay

/-- A handover end leads to a fault, or to the state it names (R14). -/
theorem endState_cases (o : Option FaultKind) (e : HandoverEnd) : (∃ k, endState o e = .fault k) ∨ endState o e = e.state := by
  unfold endState
  split <;> simp

theorem State.endHandover_fault {e : HandoverEnd} {k : FaultKind} (h : endState (s.bay b).pendingFault e = .fault k) :
    s.endHandover b e = s.faultBay b k := by
  unfold State.endHandover
  rw [h]

theorem State.endHandover_state {e : HandoverEnd} (h : endState (s.bay b).pendingFault e = e.state) :
    s.endHandover b e = s.enterBay b e.state := by
  unfold State.endHandover
  rw [h]
  cases e <;> rfl

theorem Agreeing.returnHandover {id : Nat} (h : Agreeing s) (hres : (s.bay b).reservation = some id)
    (hst : (s.bay b).state = .opened) (hpack : (s.bay b).pack.isSome = true) : Agreeing (s.returnHandover b id) := by
  obtain ⟨q, p, hprior, hq, hqid, hqst, hdoor, hleaving⟩ := h.returned hres hst
  have hbay : (s.returnRecord id).bay b = s.bay b := by rw [State.bay, State.returnRecord_bays]; rfl
  have hfits : ((s.returnRecord id).bay b).Fits (endState ((s.returnRecord id).bay b).pendingFault p.ending) := by
    rw [hbay]
    exact fits_endState (baysSound_iff.1 h.bays b) (by rw [hst]; rfl) fun _ => hpack
  unfold State.returnHandover
  rw [hprior]
  dsimp only
  generalize s.returnRecord id = u at *
  obtain ⟨k, hk⟩ | hk := endState_cases (u.bay b).pendingFault p.ending
  · rw [State.endHandover_fault hk, if_neg (by rw [State.faultBay_state]; simp)]
    exact hleaving.faultBay (hk ▸ hfits)
  · rw [State.endHandover_state hk]
    obtain ⟨hin, hbook, hbut⟩ := hleaving.moved (hk ▸ hfits)
    have hstate := State.enterBay_state u b p.ending.state
    have hreserved : ((u.enterBay b p.ending.state).bay b).reservation = some id := by
      rw [State.enterBay_reservation, hbay, hres]
      cases p <;> rfl
    rw [hbay, hres] at hbut
    rw [if_pos (by rw [hstate]; cases p <;> simp [Prior.ending, HandoverEnd.state])]
    refine agreeing_doorClear hin.sound hbook hbut hreserved (by simpa using hq) hqid hdoor ?_
    rw [hstate, hqst]
    cases p
    · exact .inl ⟨rfl, rfl⟩
    · exact .inr ⟨rfl, rfl⟩

theorem Agreeing.leaveAjar {k : Handover} (h : Agreeing s) (hst : (s.bay b).state = .opened) (hk : (s.bay b).handover = some k)
    (hremoved : k.packRemoved = false) : Agreeing (s.leaveAjar b k) := by
  obtain ⟨hpack, -, hres⟩ := opened_pack h.bays hst hk
  have hin := (InService.mk h.bays (used_of_state h.bays (by simp [hst]))).leaveAjar hst hk hremoved
  have hbook := bookSound_kept.leaveAjar b k h.book
  obtain ⟨q, p, hprior, hq, hqid, hqst, hdoor, hleaving⟩ := h.returned hres hst
  have hbay : (s.returnRecord k.reservation).bay b = s.bay b := by rw [State.bay, State.returnRecord_bays]; rfl
  have hfits : ((s.returnRecord k.reservation).bay b).Fits (endState ((s.returnRecord k.reservation).bay b).pendingFault p.ending) := by
    rw [hbay]
    exact fits_endState (baysSound_iff.1 h.bays b) (by rw [hst]; rfl) fun _ => by rw [hpack, hremoved]; rfl
  unfold State.leaveAjar at hin hbook ⊢
  rw [hprior] at hin hbook ⊢
  dsimp only at hin hbook ⊢
  generalize s.returnRecord k.reservation = u at *
  split
  · next f hf =>
    have hfault : endState (u.bay b).pendingFault p.ending = .fault f := by rw [hf]; cases p <;> rfl
    rw [State.endHandover_fault hfault]
    exact hleaving.faultBay (hfault ▸ hfits)
  · next hnone =>
    split at hin
    · next f hf => rw [hnone] at hf; simp at hf
    split at hbook
    · next f hf => rw [hnone] at hf; simp at hf
    refine ⟨hin.sound, hbook, ?_⟩
    generalize hx : ({ u.bay b with handover := some { k with timer := u.cfg.handoverTime * 1000 } } : Bay) = x
    have hxres : x.reservation = some k.reservation := by subst hx; rw [← hres, ← hbay]
    have hreserved : (((u.setBay b x).enterBay b .ajar).bay b).reservation = some k.reservation := by
      rw [State.enterBay_reservation, State.setBay_bay_self]
      exact hxres
    have hstate := State.enterBay_state (u.setBay b x) b .ajar
    have hbut := hleaving.but
    rw [hbay, hres] at hbut
    refine bindingsAgree_congr (s := (u.setBay b x).enterBay b .ajar) (by simp) (sameStand_of_bays (by simp)) ?_
    refine ((hbut.moved (t := u.setBay b x) rfl fun d hd => sameStand_setBay hd).moved (by simp) fun d hd => sameStand_enterBay hd).linked
      hreserved ⟨q, by simpa using hq, hqid, ?_⟩ fun y hy hyid => ?_
    · unfold Reservation.bay
      rw [hqst]
      cases p <;> rfl
    · obtain rfl := record_unique hleaving.book.2.2.1 hq (by simpa using hy) (hqid.trans hyid.symm)
      unfold RecordAgrees
      rw [hqst]
      cases p
      · exact ⟨by rw [hreserved, hqid], by rw [hstate, hdoor]; rfl⟩
      · exact ⟨by rw [hreserved, hqid], by rw [hstate, hdoor]; rfl⟩

/-- An OPEN bay moved on without its record, which stays in HANDOVER (R141, R144). -/
theorem Agreeing.endHandover_opened {id : Nat} {e : HandoverEnd} (h : Agreeing s) (hres : (s.bay b).reservation = some id)
    (hst : (s.bay b).state = .opened) (he : e.state.reserved = false) :
    (s.endHandover b e).book = s.book ∧ (∀ d, d ≠ b → SameStand s (s.endHandover b e) d) ∧
    ((s.endHandover b e).bay b).reservation = none := by
  obtain ⟨k, hk⟩ | hk := endState_cases (s.bay b).pendingFault e
  · rw [State.endHandover_fault hk]
    obtain ⟨q, p, hq, -, -, hqst, -⟩ := h.opened hres hst
    have hfault : s.faultBay b k = (s.enterBay b (.fault k)).raise (.bayFault b k ((s.enterBay b (.fault k)).bay b).serial) := by
      unfold State.faultBay
      dsimp only
      rw [hres]
      dsimp only
      obtain ⟨-, heq⟩ | ⟨x, hx, hxst, -⟩ := State.unbind_cases id b
        ((s.enterBay b (.fault k)).raise (.bayFault b k ((s.enterBay b (.fault k)).bay b).serial))
      · exact heq
      · rw [State.raise_book, State.enterBay_book, hq] at hx
        obtain rfl := Option.some.inj hx
        simp [hqst] at hxst
    rw [hfault]
    refine ⟨by simp, fun d hd => ?_, ?_⟩
    · obtain ⟨h1, h2⟩ := sameStand_enterBay (s := s) (n := .fault k) hd
      unfold SameStand
      rw [State.bay, State.raise_bays]
      exact ⟨h1, h2⟩
    · rw [State.bay, State.raise_bays]
      exact State.enterBay_reservation s b (.fault k)
  · rw [State.endHandover_state hk]
    exact ⟨by simp, fun d hd => sameStand_enterBay hd, by rw [State.enterBay_reservation, he]; rfl⟩

/-- The record of a handover whose bay has moved on is removed (R59). -/
theorem Agreeing.done {id : Nat} {e : HandoverEnd} (h : Agreeing s) (hres : (s.bay b).reservation = some id)
    (hst : (s.bay b).state = .opened) (he : e.state.reserved = false) : Agreeing ((s.endHandover b e).doneRecord id) := by
  have hused : Used b s := used_of_state h.bays (by simp [hst])
  have hdone : e ≠ .held ∧ e ≠ .ready := by constructor <;> rintro rfl <;> simp [HandoverEnd.state, BayState.reserved] at he
  have hin := ((InService.mk h.bays hused).endHandover (e := e) (by rw [hst]; rfl) (by simp [hdone])).doneRecord id
  have hbook := bookSound_kept.doneRecord id (bookSound_kept.endHandover b e h.book)
  obtain ⟨q, p, hq, hmem, hqid, hqst, -⟩ := h.opened hres hst
  obtain ⟨hsame, hothers, hnone⟩ := h.endHandover_opened hres hst he
  have hremove : (s.endHandover b e).doneRecord id = (s.endHandover b e).dropRecord q s.book.expired := by
    unfold State.doneRecord
    rw [hsame, hq]
    simp only [hqst]
    rw [State.removeRecord_eq, State.releaseOf, hqst, hsame]
  have hbut := agreeBut_of_agree h.agree h.ids b
  rw [hres, ← hqid] at hbut
  refine ⟨hin.sound, hbook, ?_⟩
  rw [hremove]
  refine ((hbut.moved hsame hothers).drop s.book.expired).loose hnone fun x hx hid => ?_
  simp only [State.dropRecord, State.tellRemoved, Book.remove, State.request_book, List.mem_filter, decide_eq_true_eq] at hx
  exact absurd (Option.some.inj hid).symm hx.2

theorem Agreeing.completeSwap {k : Handover} (n : Nat) (h : Agreeing s) (hst : (s.bay b).state = .opened)
    (hk : (s.bay b).handover = some k) : Agreeing (s.completeSwap b k n) :=
  (h.done (e := .checking) (opened_pack h.bays hst hk).2.2 hst rfl).raise _

theorem Agreeing.noReturn {k : Handover} (h : Agreeing s) (hst : (s.bay b).state = .opened)
    (hk : (s.bay b).handover = some k) : Agreeing (s.noReturn b k) :=
  (h.done (e := .empty) (opened_pack h.bays hst hk).2.2 hst rfl).raise _

theorem Agreeing.handoverTimerEnds (h : Agreeing s) : Agreeing (s.handoverTimerEnds b) := by
  unfold State.handoverTimerEnds
  split
  · next k hk =>
    split
    · next hdue =>
      have hst : (s.bay b).state = .opened := by simp [Bay.handoverDue] at hdue; exact hdue.1
      obtain ⟨hpack, -, hres⟩ := opened_pack h.bays hst hk
      unfold State.handoverEnds
      split
      · exact h.completeSwap _ hst hk
      · exact h.noReturn hst hk
      · next hremoved _ _ => exact (h.returnHandover hres hst (by rw [hpack, hremoved]; rfl)).raise _
      · next hremoved _ _ => exact h.leaveAjar hst hk hremoved
      · exact h
    · exact h
  · exact h

theorem Agreeing.ajarTimerEnds (h : Agreeing s) : Agreeing (s.ajarTimerEnds b) := by
  unfold State.ajarTimerEnds
  split
  · next k hk =>
    split
    · have hb := baysSound_iff.1 h.bays b
      exact (h.setBay ⟨bayForm_retimed hb.1 hk _, hb.2⟩ rfl rfl).raise _
    · exact h
  · exact h

/-! ### Reports at the door (R14, R140, R141, R146) -/

theorem Agreeing.reportAtDoor (hr : ReportLimited r) (h : Agreeing s) (hdoor : (s.bay b).state.atDoor = true) :
    Agreeing (s.reportAtDoor b r) := by
  have hused : Used b s := used_of_state h.bays fun he => by simp [he, BayState.atDoor] at hdoor
  refine ⟨((InService.mk h.bays hused).reportAtDoor hr hdoor).sound, bookSound_kept.reportAtDoor b r h.book, ?_⟩
  have hcopied : BindingsAgree (if (s.bay b).sameSerial r = true then s.copyFigures b r else s) := by
    split
    · exact (h.copyFigures hr hused).agree
    · exact h.agree
  unfold State.reportAtDoor
  dsimp only
  generalize (if (s.bay b).sameSerial r = true then s.copyFigures b r else s) = u at hcopied
  refine bindingsAgree_congr (s := u) rfl (fun d => ?_) hcopied
  by_cases hd : d = b
  · unfold SameStand
    rw [hd, State.setBay_bay_self]
    exact ⟨rfl, rfl⟩
  · exact sameStand_setBay hd

theorem Bay.noteRemoval_stand (r : Report) (x : Bay) : (x.noteRemoval r).state = x.state ∧ (x.noteRemoval r).reservation = x.reservation := by
  unfold Bay.noteRemoval
  split
  · split <;> exact ⟨rfl, rfl⟩
  · exact ⟨rfl, rfl⟩

theorem Agreeing.checkingThen (hr : ReportLimited r) (h : Agreeing s) :
    Agreeing (if (s.bay b).state = .checking then s.reportChecking b r else s) := by
  split
  · next hst => exact h.reportChecking hr (used_of_state h.bays (by simp [hst])) (h.no_reservation (by rw [hst]; rfl))
  · exact h

theorem Agreeing.reportOpen (hr : ReportLimited r) (d : Door) (h : Agreeing s) (hst : (s.bay b).state = .opened) :
    Agreeing (s.reportOpen b d r) := by
  have hdoor := h.reportAtDoor hr (by rw [hst]; rfl)
  have hopen : ((s.reportAtDoor b r).bay b).state = .opened := by rw [(State.reportAtDoor_bay b r s).1]; exact hst
  obtain ⟨hin, -⟩ := (inService_of_state hdoor.bays (by simp [hopen])).noteRemoval (r := r) hopen
  have hsound := hin.bay
  rw [State.setBay_bay_self] at hsound
  obtain ⟨hsame, hres⟩ := ((s.reportAtDoor b r).bay b).noteRemoval_stand r
  have hnoted := hdoor.setBay hsound hsame hres
  unfold State.reportOpen
  dsimp only
  split
  · exact hnoted
  · next k hk =>
    split
    · exact (hnoted.completeSwap _ (by rw [State.setBay_bay_self, hsame]; exact hopen) hk).checkingThen hr
    · exact hnoted

/-- Where a bay without a reservation is left, an unbind finds nothing to do. -/
theorem Agreeing.unbind_nothing (h : Agreeing s) (hres : (s.bay b).reservation = none) (id : Nat) : s.unbind id b = s := by
  obtain ⟨-, heq⟩ | ⟨q, hq, hqst, -⟩ := State.unbind_cases id b s
  · exact heq
  · have hagree := h.agree.1 q (Book.byId_some hq).1
    have hbay : q.bay = some b := by unfold Reservation.bay; obtain hqst | hqst := hqst <;> rw [hqst]
    have := recordAgrees_reservation hagree hbay
    rw [hres] at this
    simp at this

theorem Agreeing.ajarMissing {k : Handover} {e : HandoverEnd} (h : Agreeing s) (hst : (s.bay b).state = .ajar)
    (hres : (s.bay b).reservation = some k.reservation) (he : e.state.reserved = false) : Agreeing (s.ajarMissing b k e) := by
  have hused : Used b s := used_of_state h.bays (by simp [hst])
  have hleaving := h.leaving hused (by simp [hst])
  have hkept : e ≠ .held ∧ e ≠ .ready := by constructor <;> rintro rfl <;> simp [HandoverEnd.state, BayState.reserved] at he
  have hfits := fits_endState (e := e) (baysSound_iff.1 h.bays b) (by rw [hst]; rfl) (by simp [hkept])
  refine Agreeing.raise _ ?_
  obtain ⟨c, hc⟩ | hc := endState_cases (s.bay b).pendingFault e
  · rw [State.endHandover_fault hc]
    have hfault := hleaving.faultBay (hc ▸ hfits)
    rw [hfault.unbind_nothing (hfault.no_reservation (by rw [State.faultBay_state]; rfl))]
    exact hfault
  · rw [State.endHandover_state hc]
    obtain ⟨hin, hbook, hbut⟩ := hleaving.moved (hc ▸ hfits)
    refine agreeing_unbind hin hbook (hres ▸ hbut) (by rw [State.enterBay_reservation, he]; rfl) fun x hx hxid => ?_
    exact hleaving.free x (by simpa using hx) (by rw [hres, hxid])

/-- After an unbind the record is not at the door, if it is still there (R46). -/
theorem State.unbind_atDoor {id : Nat} {q : Reservation} (hfree : ∀ x ∈ s.book.records, x.id = id → x.state = .bound b ∨ x.state = .ready b)
    (hq : (s.unbind id b).book.byId id = some q) : q.atDoor = false := by
  obtain ⟨hnone, heq⟩ | ⟨x, hx, -, heq⟩ := State.unbind_cases id b s
  · rw [heq] at hq
    obtain ⟨hmem, hqid⟩ := Book.byId_some hq
    obtain ⟨hb, hr⟩ := hnone q hq
    exact absurd (hfree q hmem hqid) (by simp [hb, hr])
  · generalize hu : (s.updateRecord id fun r => { r with state := .pending, late := false, atDoor := false }).request = u at heq
    have hbyId : u.book.byId id = some { x with state := .pending, late := false, atDoor := false } := by
      subst hu
      exact (State.byId_updateRecord (f := fun r => { r with state := .pending, late := false, atDoor := false })
        fun _ => rfl).trans (by rw [hx]; rfl)
    rw [heq] at hq
    dsimp only at hq
    split at hq
    · obtain hsame | ⟨y, hy, -, -, hexpire⟩ := State.expiryCheck_cases id u
      · rw [hsame, hbyId] at hq
        obtain rfl := Option.some.inj hq
        rfl
      · rw [hexpire, State.expire_eq, State.raise_book] at hq
        obtain ⟨hmem, hqid⟩ := Book.byId_some hq
        simp only [State.dropRecord, State.tellRemoved, Book.remove, State.request_book, List.mem_filter, decide_eq_true_eq] at hmem
        exact absurd (hqid.trans (Book.byId_some hy).2.symm) hmem.2
    · rw [hbyId] at hq
      obtain rfl := Option.some.inj hq
      rfl

theorem State.doorClear_away {id : Nat} (h : ∀ q, s.book.byId id = some q → q.atDoor = false) : s.doorClear id = s := by
  obtain heq | ⟨q, hq, hdoor, -⟩ := State.doorClear_cases id s
  · exact heq
  · simp [h q hq] at hdoor

theorem Agreeing.ajarCloses {k : Handover} (h : Agreeing s) (hst : (s.bay b).state = .ajar)
    (hres : (s.bay b).reservation = some k.reservation) : Agreeing (s.ajarCloses b k) := by
  have hused : Used b s := used_of_state h.bays (by simp [hst])
  have hleaving := h.leaving hused (by simp [hst])
  obtain ⟨q, hq, hmem, hqid, hqbay, hagree⟩ := h.record hres
  have hdoor : q.atDoor = true := by
    by_contra hno
    obtain ⟨-, hx⟩ | ⟨-, hx⟩ | ⟨-, hx, -⟩ := recordAgrees_of_bay hagree hqbay
    · simp [hst, hno] at hx
    · simp [hst, hno] at hx
    · simp [hst] at hx
  have hfits := fits_endState (e := q.ajarEnding) (baysSound_iff.1 h.bays b) (by rw [hst]; rfl) fun _ => ajar_pack h.bays hst
  unfold State.ajarCloses
  rw [hq]
  dsimp only
  obtain ⟨c, hc⟩ | hc := endState_cases (s.bay b).pendingFault q.ajarEnding
  · rw [State.endHandover_fault hc, State.doorClear_away]
    · exact hleaving.faultBay (hc ▸ hfits)
    · intro x hx
      unfold State.faultBay at hx
      dsimp only at hx
      rw [hres] at hx
      refine State.unbind_atDoor (fun y hy hyid => ?_) hx
      exact hleaving.free y (by simpa using hy) (by rw [hres, hyid])
  · rw [State.endHandover_state hc]
    obtain ⟨hin, hbook, hbut⟩ := hleaving.moved (hc ▸ hfits)
    have hreserved : ((s.enterBay b q.ajarEnding.state).bay b).reservation = some k.reservation := by
      rw [State.enterBay_reservation, hres]
      unfold Reservation.ajarEnding
      split <;> rfl
    refine agreeing_doorClear hin.sound hbook (hres ▸ hbut) hreserved (by simpa using hmem) hqid hdoor ?_
    rw [State.enterBay_state]
    unfold Reservation.ajarEnding
    obtain ⟨hx, -⟩ | ⟨hx, -⟩ | ⟨⟨p, hx⟩, hopen, -⟩ := recordAgrees_of_bay hagree hqbay
    · exact .inl ⟨hx, by rw [hx]; rfl⟩
    · exact .inr ⟨hx, by rw [hx]; rfl⟩
    · simp [hst] at hopen

theorem ajar_reservation (h : BaysSound s) {k : Handover} (hk : (s.bay b).handover = some k) :
    (s.bay b).reservation = some k.reservation := (baysSound_iff.1 h b).1.fields.2.2.2.2.2 k hk

theorem Agreeing.reportAjar (hr : ReportLimited r) (h : Agreeing s) (hst : (s.bay b).state = .ajar) :
    Agreeing (s.reportAjar b r) := by
  have hdoor := h.reportAtDoor hr (by rw [hst]; rfl)
  have hajar : ((s.reportAtDoor b r).bay b).state = .ajar := by rw [(State.reportAtDoor_bay b r s).1]; exact hst
  unfold State.reportAjar
  dsimp only
  split
  · exact hdoor
  · next k hk =>
    have hres := ajar_reservation hdoor.bays hk
    split
    · exact hdoor.ajarMissing hajar hres rfl
    split
    · exact (hdoor.ajarMissing hajar hres rfl).checkingThen hr
    split
    · exact hdoor.ajarCloses hajar hres
    · exact hdoor

theorem Agreeing.doorStep (h : Agreeing s) : Agreeing (s.doorStep b r) := by
  refine ⟨baysSound_doorStep h.bays, bookSound_kept.doorStep b r h.book, bindingsAgree_congr (by simp) (fun d => ?_) h.agree⟩
  have hstand : SameStand s (s.setBay b ((s.bay b).doorStep r)) d := by
    by_cases hd : d = b
    · unfold SameStand Bay.doorStep
      rw [hd, State.setBay_bay_self]
      split <;> exact ⟨rfl, rfl⟩
    · exact sameStand_setBay hd
  unfold State.doorStep
  dsimp only
  split
  · unfold SameStand at hstand ⊢
    rw [State.bay, State.raise_bays]
    exact hstand
  · exact hstand

theorem Agreeing.takeReport (hr : ReportLimited r) (h : Agreeing s) : Agreeing (s.takeReport b r) := by
  have hnote : Agreeing (s.noteReport b r) := h.setBay (baySound_noted (baysSound_iff.1 h.bays b) _ _) rfl rfl
  have hfault : Agreeing (if (s.noteReport b r).part == .run && r.boostFault then (s.noteReport b r).takeBoostFault b
      else s.noteReport b r) := by
    split
    · exact agreeing_calm.calm.takeBoostFault b hnote
    · exact hnote
  unfold State.takeReport
  dsimp only
  generalize (if (s.noteReport b r).part == .run && r.boostFault then (s.noteReport b r).takeBoostFault b
      else s.noteReport b r) = u at hfault
  have hdoor := hfault.doorStep (b := b) (r := r)
  split
  · exact hdoor
  · unfold State.reportByState
    split
    · next hst => exact hdoor.reportEmpty hr (used_of_state hdoor.bays (by simp [hst])) (by rw [hst]; rfl)
    · next hst => exact hdoor.reportChecking hr (used_of_state hdoor.bays (by simp [hst])) (hdoor.no_reservation (by rw [hst]; rfl))
    · next hst => exact hdoor.reportAccepted hr (by rw [hst]; rfl)
    · next hst => exact hdoor.reportAccepted hr (by rw [hst]; rfl)
    · next hst => exact hdoor.reportAccepted hr (by rw [hst]; rfl)
    · next hst => exact hdoor.reportOpen hr _ hst
    · next hst => exact hdoor.reportAjar hr hst
    · next hst => exact hdoor.reportStageFault hr hst
    · next hst => exact hdoor.reportPackFault hr hst
    · next hst => exact hdoor.reportOff hr hst

/-! ### Bays taken out of use, service (R5, R9, R10, R18, R19, R147) -/

/-- A bay not OPEN is not opened by what moves no bay but by the removal of a record. -/
theorem notOpened_calm (b : BayNo) : CalmApart fun s => (s.bay b).state ≠ .opened := by
  have hrelease : ∀ (r : Reservation) (s : State), (s.bay b).state ≠ .opened → ((s.releaseOf r).bay b).state ≠ .opened := by
    intro r s hs
    have hbay : ∀ d, ((s.releaseBay d).bay b).state ≠ .opened := by
      intro d
      have hstock : ((s.enterBay d .stock).bay b).state ≠ .opened := by
        rw [State.enterBay_bay]
        split
        · simp
        · exact hs
      unfold State.releaseBay
      split
      · exact hstock
      · exact hstock
      · exact hs
    unfold State.releaseOf
    split
    · exact hbay _
    · exact hbay _
    · exact hs
  exact {
    aside := fun _ _ _ _ _ hs => hs
    request := fun _ hs => hs
    removeRecord := fun r s _ _ hs => by rw [State.removeRecord_eq]; exact hrelease r s hs
    expire := fun r s _ _ hs => by
      rw [State.expire_eq, State.bay, State.raise_bays]
      exact hrelease r s hs
    unknown := fun _ hs => hs
    endGrant := fun c s _ hs => by rw [(sameStand_endGrant c s b).1]; exact hs
    fault := fun _ _ hs => hs
    renew := fun _ _ _ _ _ hs => hs
    decide := fun s _ hs => by rw [(sameStand_decide s b).1]; exact hs
    reshare := fun f s _ hs => by rw [(sameStand_reshare f s b).1]; exact hs
    claimTimer := fun _ _ hs => hs
    templates := fun _ _ _ hs => hs
    setSlot := fun _ _ _ _ hs => hs
    dropped := fun _ hs => hs }

theorem State.endHandover_notOpened (s : State) (b : BayNo) (e : HandoverEnd) : ((s.endHandover b e).bay b).state ≠ .opened := by
  obtain ⟨k, hk⟩ | hk := endState_cases (s.bay b).pendingFault e
  · rw [State.endHandover_fault hk, State.faultBay_state]
    simp
  · rw [State.endHandover_state hk, State.enterBay_state]
    cases e <;> simp [HandoverEnd.state]

/-- An OPEN bay whose link is lost leaves its record, and OPEN, on the way (R147). -/
theorem Agreeing.linkLostOpen (h : Agreeing s) (hst : (s.bay b).state = .opened) :
    Agreeing (s.linkLostOpen b) ∧ ((s.linkLostOpen b).bay b).state ≠ .opened := by
  have hhand : (s.bay b).handover.isSome = true := by
    rw [(baysSound_iff.1 h.bays b).1.fields.2.2.2.2.1, hst]
    rfl
  obtain ⟨k, hk⟩ := Option.isSome_iff_exists.1 hhand
  obtain ⟨hpack, -, hres⟩ := opened_pack h.bays hst hk
  unfold State.linkLostOpen
  rw [hk]
  dsimp only
  split
  · refine ⟨h.noReturn hst hk, ?_⟩
    have hended := s.endHandover_notOpened b .empty
    unfold State.noReturn
    rw [State.bay, State.raise_bays]
    obtain heq | ⟨r, d, p, -, hrst, heq⟩ := State.doneRecord_cases k.reservation (s.endHandover b .empty) <;> rw [heq]
    · exact hended
    · rw [State.removeRecord_eq, State.releaseOf, hrst]
      exact hended
  · next hno =>
    refine ⟨h.returnHandover hres hst (by rw [hpack]; simpa using hno), ?_⟩
    obtain ⟨q, p, hprior, -⟩ := h.returned hres hst
    have hended := (s.returnRecord k.reservation).endHandover_notOpened b p.ending
    unfold State.returnHandover
    rw [hprior]
    dsimp only
    split
    · obtain heq | ⟨x, -, -, heq⟩ := State.doorClear_cases k.reservation ((s.returnRecord k.reservation).endHandover b p.ending) <;> rw [heq]
      · exact hended
      · exact (notOpened_calm b).calm.expiryCheck k.reservation hended
    · exact hended

theorem Agreeing.loseLink (h : Agreeing s) : Agreeing (s.loseLink b) := by
  have hoff : ∀ u : State, Agreeing u → Used b u → (u.bay b).state ≠ .opened →
      Agreeing ((u.leaveBay b (.off .link)).raise (.linkLost b)) := fun u hu hused hopen =>
    ((hu.leaving hused hopen).leaveBay (fits_dropping rfl (by simp)) rfl).raise _
  unfold State.loseLink
  split
  · next hdue =>
    have hused : Used b s := used_of_state h.bays fun hst => by simp [Bay.linkDue, hst] at hdue
    dsimp only
    split
    · next hst =>
      obtain ⟨hagree, hopen⟩ := h.linkLostOpen hst
      exact hoff _ hagree ((InService.mk h.bays hused).linkLostOpen hst).used hopen
    · next hopen => exact hoff _ h hused hopen
  · exact h

theorem Agreeing.dataTimerEnds (h : Agreeing s) : Agreeing (s.dataTimerEnds b) := by
  unfold State.dataTimerEnds
  split
  · next hdue =>
    refine (h.leaving (used_of_state h.bays fun hst => ?_) fun hst => ?_).faultBay (fits_dropping rfl (by simp))
    · simp [Bay.dataDue, hst, BayState.accepted] at hdue
    · simp [Bay.dataDue, hst, BayState.accepted] at hdue
  · exact h

/-- OFF with another cause: no record reads it. -/
theorem Agreeing.recaused {c d : OffCause} (h : Agreeing s) (hst : (s.bay b).state = .off c) (hc : c ≠ .unused) (hd : d ≠ .unused) :
    Agreeing (s.setBay b { s.bay b with state := .off d }) := by
  have hres := h.no_reservation (b := b) (by rw [hst]; rfl)
  have hbut := agreeBut_of_agree h.agree h.ids b
  refine ⟨baysSound_setBay h.bays (baySound_recaused (baysSound_iff.1 h.bays b) hst hc hd), h.book, ?_⟩
  refine (hbut.moved (t := s.setBay b { s.bay b with state := .off d }) rfl fun e he => sameStand_setBay he).loose ?_ (by simp [hres])
  rw [State.setBay_bay_self]
  exact hres

theorem Agreeing.serviceOff (n : Nat) (h : Agreeing s) : Agreeing (s.serviceOff n) := by
  unfold State.serviceOff
  split
  · exact h.raise _
  · split
    · exact h.raise _
    · exact h.raise _
    · exact h.raise _
    · next hst => exact h.recaused hst (by simp) (by simp)
    · exact h
    · next b _ _ hopen _ hunused _ _ => exact (h.leaving (used_of_state h.bays hunused) hopen).leaveBay (fits_dropping rfl (by simp)) rfl

theorem Agreeing.serviceOn (n : Nat) (h : Agreeing s) : Agreeing (s.serviceOn n) := by
  unfold State.serviceOn
  split
  · exact h.raise _
  · split
    · exact h.raise _
    · next b _ _ hst =>
      split
      · split
        · refine (h.leaving (used_of_state h.bays (by simp [hst])) (by simp [hst])).enterBay (h.no_reservation (by rw [hst]; rfl)) ?_ ?_
          · split <;> exact fits_dropping rfl (by simp)
          · split <;> rfl
        · exact h.recaused hst (by simp) (by simp)
      · exact h.recaused hst (by simp) (by simp)
    · exact h

/-! ### Claims (R50, R138) -/

theorem Agreeing.go {q : Reservation} {p : Prior} (src : Station) (early : Option Nat) (h : Agreeing s) (hq : q ∈ s.book.records)
    (hdoor : q.atDoor = false) (hst : q.state = p.state b) : Agreeing (s.go src q b p early) := by
  have hbay : q.bay = some b := by unfold Reservation.bay; rw [hst]; cases p <;> rfl
  have hagree := h.agree.1 q hq
  have hres := recordAgrees_reservation hagree hbay
  have haccepted : (s.bay b).state.accepted = true := by
    obtain ⟨-, hx⟩ | ⟨-, hx⟩ | ⟨-, -, hx⟩ := recordAgrees_of_bay hagree hbay
    · rw [hx, hdoor]; rfl
    · rw [hx, hdoor]; rfl
    · simp [hdoor] at hx
  obtain ⟨hpack, hused⟩ := bay_of_accepted h.bays haccepted
  have hsound := baysSound_go src p early ⟨h.bays, hused⟩ hres hpack
  have hbut := agreeBut_of_agree h.agree h.ids b
  rw [hres] at hbut
  have hopened := (hbut.moved (t := s.enterBay b .opened) (by simp) fun d hd => sameStand_enterBay hd).relinked
    (f := fun r => { r with state := .handover b p, late := false, atDoor := true }) (by simpa using h.ids) (fun _ => rfl)
    (by simpa using hq) rfl ((State.enterBay_reservation s b .opened).trans hres) rfl
    ⟨(State.enterBay_reservation s b .opened).trans hres, State.enterBay_state s b .opened, rfl⟩
  have hbook : BookSound (s.goRecord q b p) := bookSound_apart.request _ (bookSound_apart.edit _ _ _
    ⟨by simp, by simp, .inr (by rw [State.enterBay_eq])⟩ (bookSound_apart.enterBay b .opened s h.book))
  have hgone : ∀ x : Bay, x.state = ((s.goRecord q b p).bay b).state → x.reservation = ((s.goRecord q b p).bay b).reservation →
      BookSound ((s.goRecord q b p).setBay b x) ∧ BindingsAgree ((s.goRecord q b p).setBay b x) := by
    intro x hstate hxres
    refine ⟨hbook, bindingsAgree_congr (s := s.goRecord q b p) rfl (fun d => ?_) hopened⟩
    by_cases hd : d = b
    · unfold SameStand
      rw [hd, State.setBay_bay_self]
      exact ⟨hstate, hxres⟩
    · exact sameStand_setBay hd
  unfold State.go at hsound ⊢
  dsimp only at hsound ⊢
  obtain ⟨hbook', hagree'⟩ := hgone { (s.goRecord q b p).bay b with
    handover := some ⟨(s.goRecord q b p).cfg.handoverTime * 1000, false, none, q.id⟩ } rfl rfl
  cases early with
  | none => exact ⟨hsound, bookSound_apart.post _ hbook', bindingsAgree_congr (by simp) (sameStand_of_bays (by simp)) hagree'⟩
  | some soc => exact ⟨hsound, bookSound_apart.raise _ (bookSound_apart.post _ hbook'),
      bindingsAgree_congr (by simp) (sameStand_of_bays (by simp)) hagree'⟩

theorem Agreeing.post (f : OutFrame) (h : Agreeing s) : Agreeing (s.post f) := agreeing_calm.post f h

theorem Agreeing.takeClaim (src : Station) (token : Nat) (h : Agreeing s) : Agreeing (s.takeClaim src token) := by
  unfold State.takeClaim
  split
  · exact h
  split
  · next q hq =>
    have hmem := (Book.byToken_some hq).1
    unfold State.answerClaim
    dsimp only
    split
    · exact h.post _
    · exact h.post _
    · next hst =>
      split
      · exact h.post _
      · next hdoor => exact h.go src none hmem (by simpa using hdoor) hst
    · next hst =>
      split
      · exact h.post _
      · next hdoor =>
        split
        · split
          · exact h.go src _ hmem (by simpa using hdoor) hst
          · exact h.post _
        · exact h.post _
  · split
    · exact h.post _
    · exact h

/-! ### The moves of a completion (R44, R45, R49, R98) -/

theorem sameStand_bindBay {id : Nat} {d : BayNo} (hd : d ≠ b) : SameStand s (s.bindBay b id) d := by
  unfold SameStand
  rw [State.bindBay, State.enterBay_bay, if_neg (Ne.symm hd), State.setBay_bay, if_neg (Ne.symm hd)]
  exact ⟨rfl, rfl⟩

theorem State.bindBay_stand (id : Nat) (b : BayNo) (s : State) :
    ((s.bindBay b id).bay b).state = .held ∧ ((s.bindBay b id).bay b).reservation = some id := by
  unfold State.bindBay
  refine ⟨State.enterBay_state _ _ _, ?_⟩
  rw [State.enterBay_reservation, State.setBay_bay_self]
  rfl

theorem Agreeing.bindRecord (id : Nat) (h : Agreeing s) : Agreeing (s.bindRecord id b) := by
  refine ⟨baysSound_bindRecord id h.bays, bookSound_kept.bindRecord id b h.book, ?_⟩
  obtain heq | ⟨q, hq, hpending, hst, heq⟩ := State.bindRecord_cases id b s <;> rw [heq]
  · exact h.agree
  · obtain ⟨hmem, rfl⟩ := Book.byId_some hq
    have hdoor : q.atDoor = false := by
      have := h.agree.1 q hmem
      unfold RecordAgrees at this
      rw [hpending] at this
      exact this
    obtain ⟨hheld, hres⟩ := State.bindBay_stand q.id b s
    have hbut := agreeBut_pending h.agree h.ids (h.no_reservation (b := b) (by rw [hst]; rfl)) hmem hpending
    refine (hbut.moved (t := s.bindBay b q.id) (by simp) fun d hd => sameStand_bindBay hd).relinked (by simpa using h.ids) (fun _ => rfl)
      (by simpa using hmem) rfl hres rfl ?_
    exact recordAgrees_bound (x := { q with state := .bound b, late := false }) rfl hdoor hres hheld

theorem Agreeing.rebindRecord (id : Nat) (old : BayNo) (h : Agreeing s) : Agreeing (s.rebindRecord id old b) := by
  refine ⟨baysSound_rebindRecord id old h.bays, bookSound_kept.rebindRecord id old b h.book, ?_⟩
  obtain heq | ⟨q, hq, -, hdoor, hold, hres, hnew, heq⟩ := State.rebindRecord_cases id old b s <;> rw [heq]
  · exact h.agree
  · obtain ⟨hmem, rfl⟩ := Book.byId_some hq
    have hne : b ≠ old := by rintro rfl; simp [hold] at hnew
    obtain ⟨hheld, hbound⟩ := State.bindBay_stand q.id b (s.enterBay old .stock)
    have hbut := agreeBut_of_agree h.agree h.ids old
    rw [hres] at hbut
    have hfree : ((s.enterBay old .stock).bay b).reservation = none := by
      rw [(sameStand_enterBay hne).2]
      exact h.no_reservation (by rw [hnew]; rfl)
    have hshift := (hbut.moved (t := s.enterBay old .stock) (by simp) fun d hd => sameStand_enterBay hd).shift
      (State.enterBay_reservation s old .stock) hfree
    refine (hshift.moved (t := (s.enterBay old .stock).bindBay b q.id) (by simp) fun d hd => sameStand_bindBay hd).relinked
      (by simpa using h.ids) (fun _ => rfl) (by simpa using hmem) rfl hbound rfl ?_
    exact recordAgrees_bound (x := { q with state := .bound b }) rfl hdoor hbound hheld

/-- A record changed in nothing that the agreement reads. -/
theorem bindingsAgree_edit {id : Nat} {f : Reservation → Reservation}
    (hf : ∀ r, (f r).id = r.id ∧ (f r).state = r.state ∧ (f r).atDoor = r.atDoor) (h : BindingsAgree s) :
    BindingsAgree (s.updateRecord id f) := by
  refine ⟨fun x hx => ?_, fun d j hj => ?_⟩
  · obtain ⟨y, hy, rfl⟩ := State.mem_updateRecord.1 hx
    have hagree := h.1 y hy
    obtain ⟨hid, hst, hdoor⟩ := hf y
    split
    · unfold RecordAgrees at hagree ⊢
      rw [hid, hst, hdoor]
      exact hagree
    · exact hagree
  · obtain ⟨y, hy, hyid, hbay⟩ := h.2 d j hj
    obtain ⟨hid, hst, -⟩ := hf y
    refine ⟨_, State.mem_updateRecord.2 ⟨y, hy, rfl⟩, ?_, ?_⟩
    · split
      · exact hid.trans hyid
      · exact hyid
    · split
      · unfold Reservation.bay at hbay ⊢
        rw [hst]
        exact hbay
      · exact hbay

theorem Agreeing.writeLate (id : Nat) (late : Bool) (h : Agreeing s) : Agreeing (s.writeLate id b late) := by
  refine ⟨baysSound_writeLate id late h.bays, bookSound_kept.writeLate id b late h.book, ?_⟩
  obtain heq | ⟨q, -, -, heq⟩ := State.writeLate_cases id b late s <;> rw [heq]
  · exact h.agree
  · have hedit := bindingsAgree_edit (id := id) (f := fun r => { r with late }) (fun _ => ⟨rfl, rfl, rfl⟩) h.agree
    dsimp only
    split
    · exact bindingsAgree_congr (by simp) (sameStand_of_bays (by simp)) hedit
    · exact hedit

end

theorem agreeing_moves : KeptMoves Agreeing :=
  { agreeing_calm.calm with
    bindRecord := fun id _ _ h => h.bindRecord id
    rebindRecord := fun id old _ _ h => h.rebindRecord id old
    writeLate := fun id _ late _ h => h.writeLate id late
    setpoints := fun l s _ hl h => ⟨baysSound_writeSetpoints hl h.bays, h.book,
      bindingsAgree_congr (s := s) rfl (fun d => by unfold SameStand; rw [State.writeSetpoints_bay]; exact ⟨rfl, rfl⟩) h.agree⟩
    sets := fun _ _ s _ h => agreeing_congr (s := s) rfl rfl rfl rfl h
    order := fun _ s _ h => agreeing_congr (s := s) rfl rfl rfl rfl h
    startPass := fun s h => agreeing_congr (s := s) rfl rfl rfl rfl h
    idle := fun s _ h => agreeing_congr (s := s) rfl rfl rfl rfl h }


/-! ### Every step (O5, O7) -/

/-- A new record is PENDING and names no bay (R41). -/
theorem agreeing_create {s : State} {q : Request} (hcheck : s.book.check s.cfg q = none) (h : Agreeing s) :
    Agreeing ({ s with book := s.book.insert (s.book.freeId (s.book.records.length + 1) s.book.nextId) q }.request) := by
  refine ⟨h.bays, bookSound_lasting.create q s hcheck h.book, fun r hr => ?_, fun d id hid => ?_⟩
  · obtain rfl | hr := mem_insertRecord.1 hr
    · exact (rfl : (Request.record _ q).atDoor = false)
    · exact recordAgrees_congr (fun d _ => ⟨rfl, rfl⟩) (h.agree.1 r hr)
  · obtain ⟨r, hr, hrid, hbay⟩ := h.agree.2 d id hid
    exact ⟨r, mem_insertRecord.2 (.inr hr), hrid, hbay⟩

theorem agreeing_empty {s : State} (hbays : BaysSound s) (hbook : s.book = .restart) (hres : ∀ b, (s.bay b).reservation = none) :
    Agreeing s := by
  refine ⟨hbays, by rw [bookSound_iff, hbook]; exact bookOk_restart _, fun r hr => ?_, fun d id hid => ?_⟩
  · rw [hbook] at hr
    simp [Book.restart] at hr
  · rw [hres d] at hid
    simp at hid

/-- A bay OFF with nothing in it. -/
theorem baySound_off {cfg : Setup} {run : Prop} {x : Bay} {c : OffCause} (hx : BayUnset x) {mask : BitVec 4}
    (hmask : run → (mask = 0 ↔ c = .unused)) : BaySound cfg run { x with mask := mask, state := .off c } := by
  rw [hx]
  refine ⟨⟨⟨by simp [Bay.restart], by simp, by simp [Bay.restart], rfl, rfl, by simp [Bay.restart]⟩, rfl,
    ⟨by simp [BayState.atDoor], by simp [Bay.restart], fun _ => rfl, fun _ _ => rfl⟩, by simp [Bay.restart], fun hr => ?_⟩,
    rfl, Nat.zero_le _, fun _ => rfl⟩
  simpa using hmask hr

theorem agreeing_enterRun {record : List Byte} {s : State} (hunset : UnsetHeld s) (hpart : s.part = .unset) :
    Agreeing (s.enterRun record) := by
  obtain ⟨hbook, -, -, -, -, -, -, -, -, hbays⟩ := hunset hpart
  have hoff : ∀ b, (s.bay b).state = .off .link := fun b => by rw [hbays b]; rfl
  refine agreeing_empty (baysSound_iff.2 fun b => ?_) hbook fun b => ?_
  · rw [State.enterRun_bay, Bay.enterRun, hoff b]
    by_cases hm : loadMask record b = 0
    · rw [if_pos hm]
      exact baySound_off (hbays b) fun _ => iff_of_true hm rfl
    · rw [if_neg hm]
      exact baySound_off (hbays b) fun _ => iff_of_false hm (by simp)
  · rw [State.enterRun_bay, hbays b]
    rfl

theorem agreeing_restarted (s : State) : Agreeing s.restarted := by
  have hbay : ∀ b, s.restarted.bay b = Bay.restart := fun b => by simp [State.restarted, State.reset, State.bay]
  refine agreeing_empty (baysSound_iff.2 fun b => ?_) rfl fun b => by rw [hbay]; rfl
  rw [hbay]
  exact baySound_off (x := Bay.restart) rfl (fun hr => by simp [State.restarted, State.reset] at hr)

theorem countDown_isSome (t : Option Nat) : countDown t ≠ none ↔ t ≠ none := by cases t <;> simp [countDown]

theorem baySound_tick {cfg : Setup} {run : Prop} {x : Bay} (h : BaySound cfg run x) : BaySound cfg run x.tick := by
  obtain ⟨⟨⟨hpend, hchecking, htimer, hres, hdoor, hcontext⟩, hpresence, hlock, hpack, hmask⟩, hset⟩ := h
  refine ⟨⟨⟨hpend, fun hc => (countDown_isSome _).2 (hchecking hc), fun ht => htimer ((countDown_isSome _).1 ht), hres, ?_, ?_⟩, ?_,
    hlock, hpack, hmask⟩, hset⟩
  · simpa [Bay.tick] using hdoor
  · intro k hk
    obtain ⟨j, hj, rfl⟩ := Option.map_eq_some_iff.1 hk
    exact hcontext j hj
  · unfold PackPresence at hpresence ⊢
    cases hst : x.state with
    | opened =>
      rw [hst] at hpresence
      obtain ⟨k, hk, hremoved, hout⟩ := hpresence
      simp only [Bay.tick, hst, hk]
      exact ⟨_, rfl, hremoved, hout⟩
    | ajar =>
      rw [hst] at hpresence
      obtain ⟨hp, k, hk, hremoved⟩ := hpresence
      simp only [Bay.tick, hst, hk]
      exact ⟨hp, _, rfl, hremoved⟩
    | fault k =>
      rw [hst] at hpresence
      simp only [Bay.tick, hst]
      cases k <;> exact hpresence
    | _ =>
      rw [hst] at hpresence
      simp only [Bay.tick, hst]
      exact hpresence

theorem agreeing_advance {s : State} (h : Agreeing s) : Agreeing s.advance := by
  obtain ⟨asks, plan, boost, feed, ts, heq, -⟩ := s.advance_eq
  have hbay : ∀ b, s.advance.bay b = (s.bay b).tick := fun b => by rw [heq]; simp [State.bay]
  refine ⟨baysSound_iff.2 fun b => ?_, bookSound_lasting.advance s h.book, bindingsAgree_congr (by rw [heq]) (fun d => ?_) h.agree⟩
  · rw [hbay, show s.advance.cfg = s.cfg by rw [heq], show s.advance.part = s.part by rw [heq]]
    exact baySound_tick (baysSound_iff.1 h.bays b)
  · unfold SameStand
    rw [hbay]
    exact ⟨rfl, rfl⟩

theorem agreeing_steady : Steady Agreeing :=
  { agreeing_calm.calm with
    takeReport := fun _ r _ h => h.takeReport (limitReport_limited r)
    loseLink := fun _ _ h => h.loseLink
    dataTimerEnds := fun _ _ h => h.dataTimerEnds
    serviceOff := fun n _ h => h.serviceOff n
    serviceOn := fun n _ h => h.serviceOn n
    takeClaim := fun src token _ h => h.takeClaim src token
    handoverTimerEnds := fun _ _ h => h.handoverTimerEnds
    ajarTimerEnds := fun _ _ h => h.ajarTimerEnds
    completePass := fun _ h => agreeing_moves.completePass h
    create := fun _ _ hcheck h => agreeing_create hcheck h
    startSend := fun n _ h => agreeing_calm.startSend n h
    clearLog := fun s h => agreeing_congr (s := s) rfl rfl rfl rfl h
    outputs := fun _ s h => agreeing_congr (s := s) rfl rfl rfl rfl h
    unread := fun _ _ _ _ _ s h => agreeing_congr (s := s) rfl rfl rfl rfl h
    settle := fun s h => agreeing_congr (s := s) (by simp) (by rw [State.settlePass_eq]) (by rw [State.settlePass_eq]) (by rw [State.settlePass_eq]) h
    enterRun := fun _ _ hunset hpart _ => agreeing_enterRun hunset hpart
    restarted := agreeing_restarted
    advance := fun _ h => agreeing_advance h }

/-- Settles O5: a bay enters a state with all the table asks of it, and a setpoint is written within its range. -/
theorem bayRecordsStaySound : Obligations.BayRecordsStaySound :=
  fun _ _ hs he => (agreeing_steady.step hs.start.1 ⟨hs.bays, hs.book, hs.bindings⟩ he).bays

/-- Settles O7: each rule moves one bay and its record together, the rest of the table standing by. -/
theorem recordsAndBaysAgree : Obligations.RecordsAndBaysAgree :=
  fun _ _ hs he => (agreeing_steady.step hs.start.1 ⟨hs.bays, hs.book, hs.bindings⟩ he).agree

end Sys2Proof.Machine
end


section
/-! SUPPORT. The block step, the reset state, and a part that restarts: the setup loaded from the store, the pieces of a
setup assembly, and the shares of cabinets that know one another's claims. -/

namespace Sys2Proof.Machine

open Sys2Proof.Machine.Safety

/-! ### The block step (O1) -/

/-- Settles O1: by the definition of the step, which takes the front command from the queue. -/
theorem stepTakesFrontCommand : Obligations.StepTakesFrontCommand := by
  intro c rest s h
  simp [step, h]

/-! ### The reset state (O3) -/

theorem reset_bay (b : BayNo) : State.reset.bay b = .restart := by
  simp [State.bay, State.reset]

/-- The reset state is sound: what holds of every restarted part holds of it, which is its own restart. -/
theorem reset_sound : Sound State.reset where
  start := ⟨State.restarted_unsetHeld State.reset, fun h => by simp [State.reset] at h⟩
  bays := (agreeing_restarted State.reset).bays
  book := (agreeing_restarted State.reset).book
  bindings := (agreeing_restarted State.reset).agree
  slots := slotsSound_lasting.restarted State.reset
  plan := ⟨rfl, by simp [State.reset, Planner.restart], by simp [State.reset], by simp [State.reset, Planner.restart]⟩
  draw := drawWithinShare_lasting.restarted State.reset
  boost := boostSound_lasting.restarted State.reset
  feed := feedSound_lasting.restarted State.reset
  line := lineSound_lasting.restarted State.reset
  templates := templatesSound_lasting.restarted State.reset

/-- Settles O3: soundness of a restarted part, and the restart values read off one block after another. -/
theorem resetHoldsRestartValues : Obligations.ResetHoldsRestartValues := by
  refine ⟨reset_sound, rfl, rfl, rfl, fun b => ?bay, rfl, rfl, rfl, fun i => ?slot, rfl, rfl, rfl, rfl, rfl, rfl, rfl, rfl, rfl,
    rfl, fun i => ?template, rfl, rfl, rfl, rfl, rfl, rfl, rfl, rfl⟩
  case bay => simp [reset_bay, Bay.restart]
  case slot => simp [State.reset, AskTable.restart]
  case template => simp [State.reset, TemplateStore.restart]

/-! ### The shares of one kiosk (O18) -/

/-- Parts of a whole `c`, each in the proportion of `f` to `n` and rounded down, add up to no more than the whole in the
proportion of the sum of `f` to `n`. -/
theorem sum_proportion_le {α : Type} (f : α → Nat) (c n : Nat) (l : List α) :
    (l.map fun x => c * f x / n).sum ≤ c * (l.map f).sum / n := by
  induction l with
  | nil => simp
  | cons x xs ih =>
    simp only [List.map_cons, List.sum_cons, Nat.mul_add]
    exact (Nat.add_le_add_left ih _).trans Nat.div_add_div_le_add_div

theorem sum_map_sub {α : Type} {f g : α → Nat} {l : List α} (h : ∀ x ∈ l, g x ≤ f x) :
    (l.map fun x => f x - g x).sum + (l.map g).sum = (l.map f).sum := by
  induction l with
  | nil => rfl
  | cons x xs ih =>
    have hx := h x (by simp)
    have hxs := ih fun y hy => h y (by simp [hy])
    simp only [List.map_cons, List.sum_cons]
    omega

/-- The share is never above the raw share, the trim being at most 1000 (R130, R131). -/
theorem Feed.shareNow_le_rawShare {cfg : Setup} {f : Feed} (h : f.trim ≤ 1000) : f.shareNow cfg ≤ f.rawShare := by
  have hround : roundTen (f.rawShare * f.trim / 1000) ≤ f.rawShare :=
    (roundTen_le _).trans (Nat.div_le_of_le_mul (by rw [Nat.mul_comm 1000]; exact Nat.mul_le_mul_left _ h))
  unfold Feed.shareNow
  dsimp only
  split
  · exact (min_le_left _ _).trans hround
  · exact hround

/-- The raw share of a cabinet whose kiosk demands `d` in all, `dp` of it with priority (R130). -/
def rawShareOf (limit d dp : Nat) (f : Feed) : Nat :=
  if d ≤ limit then f.ownDemand
  else if dp ≥ limit then (if dp = 0 then 0 else limit * f.ownPriority / dp)
  else f.ownPriority + (limit - dp) * (f.ownDemand - f.ownPriority) / (d - dp)

theorem Feed.rawShare_eq {f : Feed} {limit d dp : Nat} (hl : f.limit = limit) (hd : f.totalDemand = d)
    (hp : f.totalPriority = dp) : f.rawShare = rawShareOf limit d dp f := by
  subst hl hd hp; rfl

/-- The raw shares of cabinets whose own figures make up the kiosk's add up to no more than the limit (R130): either all
demands fit, or the limit is shared out by priority demand, or what priority leaves is shared out by the rest. -/
theorem sum_rawShareOf_le {limit : Nat} {l : List Feed} (h : ∀ f ∈ l, f.ownPriority ≤ f.ownDemand) :
    (l.map (rawShareOf limit (l.map (·.ownDemand)).sum (l.map (·.ownPriority)).sum)).sum ≤ limit := by
  generalize hd : (l.map (·.ownDemand)).sum = d
  generalize hp : (l.map (·.ownPriority)).sum = dp
  have hle : dp ≤ d := by rw [← hd, ← hp]; exact sum_le_sum h
  by_cases hfit : d ≤ limit
  · have heq : rawShareOf limit d dp = (·.ownDemand) := funext fun f => if_pos hfit
    rwa [heq, hd]
  by_cases hprio : dp ≥ limit
  · by_cases hzero : dp = 0
    · have heq : rawShareOf limit d dp = fun _ => 0 :=
        funext fun f => (if_neg hfit).trans ((if_pos hprio).trans (if_pos hzero))
      simp [heq]
    · have heq : rawShareOf limit d dp = fun f => limit * f.ownPriority / dp :=
        funext fun f => (if_neg hfit).trans ((if_pos hprio).trans (if_neg hzero))
      rw [heq]
      refine (sum_proportion_le Feed.ownPriority limit dp l).trans ?_
      rw [show (l.map Feed.ownPriority).sum = dp from hp, Nat.mul_div_cancel _ (by omega)]
  · have heq : rawShareOf limit d dp =
        fun f => f.ownPriority + (limit - dp) * (f.ownDemand - f.ownPriority) / (d - dp) :=
      funext fun f => (if_neg hfit).trans (if_neg hprio)
    rw [heq, List.sum_map_add]
    have hrest : (l.map fun f => f.ownDemand - f.ownPriority).sum = d - dp := by
      have := sum_map_sub h
      rw [hp, hd] at this
      omega
    have hpart := sum_proportion_le (fun f : Feed => f.ownDemand - f.ownPriority) (limit - dp) (d - dp) l
    rw [hrest, Nat.mul_div_cancel _ (by omega)] at hpart
    rw [show (l.map Feed.ownPriority).sum = dp from hp]
    omega

/-- Settles O18: each share is at most the raw share, and the raw shares of one kiosk fit its limit. -/
theorem sharesOfOneKioskFitItsLimit : Obligations.SharesOfOneKioskFitItsLimit := by
  intro limit l h
  have hd : ∀ g : Feed → Nat, (l.map fun x => g x.2) = (l.map (·.2)).map g := fun g => by simp
  calc (l.map fun x => x.2.shareNow x.1).sum
      ≤ (l.map fun x => x.2.rawShare).sum := sum_le_sum fun x hx => Feed.shareNow_le_rawShare (h x hx).2.1
    _ = ((l.map (·.2)).map (rawShareOf limit ((l.map (·.2)).map (·.ownDemand)).sum
          ((l.map (·.2)).map (·.ownPriority)).sum)).sum := by
        rw [← hd]
        refine congrArg List.sum (List.map_congr_left fun x hx => ?_)
        obtain ⟨hlimit, -, -, hdemand, hpriority⟩ := h x hx
        refine Feed.rawShare_eq hlimit (hdemand.trans ?_) (hpriority.trans ?_) <;> simp [Function.comp_def]
    _ ≤ limit := sum_rawShareOf_le fun f hf => by
        obtain ⟨x, hx, rfl⟩ := List.mem_map.1 hf
        exact (h x hx).2.2.1

/-! ### Restart (O19) -/

/-- The end of a released restart that stays in UNSET, in one that enters RUN, its pass started. -/
theorem exec_restart_erased {s : State} {erase : Bool}
    (h : erase = true ∨ s.store.ended = false ∨ checkOf s.store.record ≠ s.store.check) :
    exec (.restart erase) s = .next { s.restarted with
      store := .empty, pins := { s.pins with restart := false, erase := erase } } := by
  have hinvalid : (!erase && s.store.valid) = false := by
    rcases h with h | h | h <;> simp [SetupStore.valid, h]
  simp only [exec, execRestart, State.start, State.restarted, hinvalid]
  rfl

/-- The bays of a restarted part as it enters RUN. -/
theorem freshBays_eq (record : List Byte) :
    (Vector.ofFn fun i => ((Vector.replicate 12 Bay.restart)[i]).enterRun (loadMask record i)) = freshBays record := by
  refine Vector.ext fun i hi => ?_
  simp [freshBays, Bay.enterRun, Bay.restart]

/-- The share as the part enters RUN is 0: nothing is demanded yet (R120). -/
theorem Feed.enterRun_eq (cfg : Setup) (line : LineState) :
    Feed.enterRun cfg line =
      { Feed.restart with
        limit := cfg.meterLostLimit, claimTimer := some 2000, detached := decide (line = .detached) } := by
  have hshare : ∀ f : Feed, f.ownDemand = 0 → f.ownPriority = 0 → f.peers = [] → f.shareNow cfg = 0 := by
    intro f hd hp hl
    simp [Feed.shareNow, Feed.rawShare, Feed.totalDemand, Feed.totalPriority, hd, hp, hl, roundTen]
  unfold Feed.enterRun
  dsimp only
  rw [hshare _ rfl rfl rfl]
  simp [Feed.restart, limitInForce, claimMillis, beq_eq_decide]

/-- Settles O19: each row of the table is a restarted part, the last one entering RUN with its pass started. -/
theorem restartFollowsTheStore : Obligations.RestartFollowsTheStore := by
  intro s
  refine ⟨rfl, fun erase h => exec_restart_erased h, fun hended hcheck => ?_⟩
  have hvalid : (!false && s.store.valid) = true := by simp [SetupStore.valid, hended, hcheck]
  simp only [exec, execRestart, State.start, State.restarted, hvalid, if_true, State.enterRun, Feed.enterRun_eq]
  rw [show (Vector.ofFn fun i => (State.reset.bays[i]).enterRun (loadMask s.store.record i)) = freshBays s.store.record from
    freshBays_eq s.store.record]
  rfl

/-! ### Loaded values (O20) -/

/-- What a value limited to a range is (R174). -/
def LimitedTo (lo hi v x : Nat) : Prop :=
  (lo ≤ v → v ≤ hi → x = v) ∧ (v < lo → x = lo) ∧ (hi < v → x = hi)

theorem limitTo_limited {lo hi : Nat} (h : lo ≤ hi) (v : Nat) : LimitedTo lo hi v (limitTo lo hi v) := by
  unfold LimitedTo limitTo; omega

theorem limitTo_range {lo hi : Nat} (h : lo ≤ hi) (v : Nat) : lo ≤ limitTo lo hi v ∧ limitTo lo hi v ≤ hi := by
  unfold limitTo; omega

/-- What a two-byte item with a default is loaded as (R174). -/
theorem loadItem_loaded {lo hi default : Nat} (h : lo ≤ hi) (hd : lo ≤ default) (hd' : default ≤ hi) (hh : hi < 65535) (v : Nat) :
    lo ≤ loadItem lo hi default v ∧ loadItem lo hi default v ≤ hi ∧ (v = 65535 → loadItem lo hi default v = default) ∧
      (lo ≤ v → v ≤ hi → loadItem lo hi default v = v) ∧ (v < lo → loadItem lo hi default v = lo) ∧
      (hi < v → v ≠ 65535 → loadItem lo hi default v = hi) := by
  unfold loadItem limitTo
  split <;> omega

theorem loadSetup_capacity (r : List Byte) (k : PackClass) :
    (loadSetup r).capacity[k] = limitTo 500 8000 (field r (7 + 2 * k) 2) := by
  simp [loadSetup]

theorem loadSetup_commitLimit (r : List Byte) (k : PackClass) :
    (loadSetup r).commitLimit[k] = limitTo 0 32 (field r (16 + k) 1) := by
  simp [loadSetup]

theorem loadSetup_station (r : List Byte) : (loadSetup r).station.val = limitTo 0 15 (field r 0 1) := by
  have := (limitTo_range (Nat.zero_le 15) (field r 0 1)).2
  exact Nat.mod_eq_of_lt (by omega)

theorem loadMask_bit (r : List Byte) (b : BayNo) (k : PackClass) :
    (loadMask r b).getLsbD k = (r.getD (1 + b.val / 2) 0).getLsbD (if b.val % 2 = 0 then 4 + k.val else k.val) := by
  unfold loadMask
  split <;> simp

/-- Settles O20: every item is a field of the record limited to its range. -/
theorem loadedValuesLieInTheirRanges : Obligations.LoadedValuesLieInTheirRanges := by
  intro r
  refine ⟨fun k => ⟨?capacityLow, ?capacityHigh, ?commit⟩, (limitTo_range (Nat.zero_le _) _).2,
    (limitTo_range (Nat.zero_le _) _).2, (limitTo_range (Nat.zero_le _) _).2, rfl, ?items, ?limited, rfl,
    fun b k => loadMask_bit r b k⟩
  case capacityLow => rw [loadSetup_capacity]; exact (limitTo_range (by decide) _).1
  case capacityHigh => rw [loadSetup_capacity]; exact (limitTo_range (by decide) _).2
  case commit => rw [loadSetup_commitLimit]; exact (limitTo_range (by decide) _).2
  case items =>
    simp only [List.forall_mem_cons]
    exact ⟨loadItem_loaded (by decide) (by decide) (by decide) (by decide) _,
      loadItem_loaded (by decide) (by decide) (by decide) (by decide) _,
      loadItem_loaded (by decide) (by decide) (by decide) (by decide) _,
      loadItem_loaded (by decide) (by decide) (by decide) (by decide) _,
      loadItem_loaded (by decide) (by decide) (by decide) (by decide) _,
      loadItem_loaded (by decide) (by decide) (by decide) (by decide) _, fun x hx => by cases hx⟩
  case limited =>
    have hcapacity : ∀ k : PackClass, LimitedTo 500 8000 (field r (7 + 2 * k) 2) (loadSetup r).capacity[k] := fun k => by
      rw [loadSetup_capacity]; exact limitTo_limited (by decide) _
    have hcommit : ∀ k : PackClass, LimitedTo 0 32 (field r (16 + k) 1) (loadSetup r).commitLimit[k] := fun k => by
      rw [loadSetup_commitLimit]; exact limitTo_limited (by decide) _
    have hstation : LimitedTo 0 15 (field r 0 1) (loadSetup r).station.val := by
      rw [loadSetup_station]; exact limitTo_limited (by decide) _
    simp only [List.forall_mem_cons]
    exact ⟨hstation, hcapacity 0, hcapacity 1, hcapacity 2, hcapacity 3, hcommit 0, hcommit 1, hcommit 2, hcommit 3,
      limitTo_limited (by decide) _, limitTo_limited (by decide) _, limitTo_limited (by decide) _, fun x hx => by cases hx⟩

/-! ### A SETUP frame (O21 to O23) -/

/-- A SETUP frame taken with no write of the store cut short (R175, R177). -/
theorem exec_setup {s : State} {g : Setting} {src : Station} {piece : Nat} {content : List Byte} {rest : List AskFrame}
    (hp : s.pins.restart = false) (hq : s.line.askQueue = ⟨src, .setup piece content⟩ :: rest)
    (hcut : (g.cut && s.bringsWrite g.select) = false) :
    exec (.setup g) s =
      .next (State.finish none s (((popAsk s).quiet.setSelect g.select).takeSetup piece content)) := by
  have hpop : ({ s.quiet with line.askQueue := rest } : State) = (popAsk s).quiet := by simp [popAsk, State.quiet, hq]
  simp only [exec, execSetup, hcut, event, State.take_live hp]
  rw [if_neg (by simp), State.fromAsk_cons (s := s.quiet) hq rfl, hpop]

theorem State.setSelect_eq (level : Bool) (s : State) :
    s.setSelect level =
      { s with
        pins := { s.pins with select := level }
        assembly := if s.pins.select = true ∧ level = false then none else s.assembly } := by
  unfold State.setSelect
  cases hs : s.pins.select <;> cases level <;> simp

/-- A part in RUN brings no write of the store (R177). -/
theorem State.bringsWrite_run {s : State} (h : s.part = .run) (select : Bool) : s.bringsWrite select = false := by
  unfold State.bringsWrite
  split <;> simp [h]

/-- Settles O21: in RUN the frame raises its notice and nothing else. -/
theorem setupInRunIsIgnored : Obligations.SetupInRunIsIgnored := by
  intro select cut src piece content rest s hr hq
  obtain ⟨heq, hraised⟩ := State.raise_raised (s := (popAsk s).quiet.setSelect select) (.setupIgnored piece)
    (by rw [State.setSelect_part]; exact hr.run)
  have hexec := exec_setup (g := ⟨select, cut⟩) hr.released hq (by simp [State.bringsWrite_run hr.run])
  have htake : ((popAsk s).quiet.setSelect select).takeSetup piece content =
      ((popAsk s).quiet.setSelect select).raise (.setupIgnored piece) := by
    simp [State.takeSetup, popAsk, State.quiet, State.setSelect_eq, hr.run]
  rw [htake, State.finish_unchanged ?settled ?out ?bays] at hexec
  case settled => rw [State.raise_plan, State.setSelect_eq]; exact hr.settled
  case out => simp [State.setSelect_eq]; rfl
  case bays => exact commandChanged_same (by simp [State.setSelect_eq]; rfl)
  refine ⟨_, hexec, ?_, ?_⟩
  · rw [heq]; simp only [State.setSelect_eq]; rfl
  · rw [State.setSelect_eq] at hraised ⊢
    exact hraised

/-! ### Setup assembly in UNSET (O22, O23) -/

/-- Whether a piece is the last one, taken as expected and with a matching check (R176). -/
def Completes (piece : Nat) (content : List Byte) (a : Option Assembly) : Prop :=
  piece = 4 ∧ content.length = 7 ∧ ∃ x, a = some x ∧ x.next = 4 ∧ (storeOf (x.bytes ++ content)).valid = true

theorem storeOf_valid (bytes : List Byte) :
    (storeOf bytes).valid = true ↔ checkOf (bytes.take 42) = BitVec.ofNat 16 (field bytes 42 2) := by
  simp [SetupStore.valid, storeOf]

/-- A frame brings the write of the store where SELECT is asserted and its piece completes the assembly (R176). -/
theorem State.bringsWrite_iff {s : State} {src : Station} {piece : Nat} {content : List Byte} {rest : List AskFrame}
    (h : Waiting s) (hq : s.line.askQueue = ⟨src, .setup piece content⟩ :: rest) (select : Bool) :
    s.bringsWrite select = true ↔ select = true ∧ Completes piece content s.assembly := by
  unfold Completes
  by_cases hpiece : piece = 4
  · subst hpiece
    cases ha : s.assembly with
    | none => simp [State.bringsWrite, hq, h.released, h.unset, State.expected, ha]
    | some a =>
      by_cases hnext : a.next = 4 <;>
        simp [State.bringsWrite, hq, h.released, h.unset, State.expected, ha, hnext, pieceLength, and_assoc]
  · refine iff_of_false ?_ fun hc => hpiece hc.2.1
    unfold State.bringsWrite
    split
    · rename_i hfront
      rw [hq] at hfront
      simp only [List.cons.injEq, AskFrame.mk.injEq, AskBody.setup.injEq] at hfront
      exact absurd hfront.1.2.1 hpiece
    · simp

/-- A piece that does not complete the assembly is kept, or discards it (R175). -/
theorem State.takePiece_of_not_completes {s : State} {piece : Nat} {content : List Byte}
    (h : ¬ Completes piece content s.assembly) :
    s.takePiece piece content = { s with assembly := assemblyAfter piece content s.assembly } := by
  unfold Completes at h
  unfold State.takePiece assemblyAfter
  by_cases hzero : piece = 0
  · subst hzero
    by_cases hlen : content.length = 7 <;> simp [State.expected, pieceLength, hlen]
  by_cases hhigh : piece > 4
  · have hnot : ¬ (piece = 1 ∨ piece = 2 ∨ piece = 3) := by omega
    simp [State.expected, hzero, hhigh, hnot]
  cases ha : s.assembly with
  | none => simp [State.expected, hzero, ha]
  | some a =>
    by_cases hnext : a.next = piece
    · by_cases hfour : piece = 4
      · have hvalid : content.length = 7 → (storeOf (a.bytes ++ content)).valid = false := fun hlen =>
          Bool.eq_false_iff.2 fun hv => h ⟨hfour, hlen, a, ha, hnext.trans hfour, hv⟩
        subst hfour
        by_cases hlen : content.length = 7
        · simp [State.expected, ha, hnext, pieceLength, hlen, State.finishAssembly, hvalid hlen]
        · simp [State.expected, ha, hnext, pieceLength, hlen]
      · have hmiddle : piece = 1 ∨ piece = 2 ∨ piece = 3 := by omega
        have hlength : pieceLength piece = 8 + piece := by rcases hmiddle with rfl | rfl | rfl <;> rfl
        by_cases hlen : content.length = 8 + piece <;>
          simp [State.expected, hzero, hhigh, hfour, hmiddle, ha, hnext, hlength, hlen]
    · simp [State.expected, hzero, hhigh, ha, hnext]

theorem State.takeSetup_selected {s : State} (h : s.part = .unset) (hs : s.pins.select = true) (piece : Nat)
    (content : List Byte) : s.takeSetup piece content = s.takePiece piece content := by
  simp [State.takeSetup, h, hs]

theorem State.takeSetup_released {s : State} (h : s.part = .unset) (hs : s.pins.select = false) (piece : Nat)
    (content : List Byte) : s.takeSetup piece content = s := by
  simp [State.takeSetup, h, hs]

/-- Settles O22: the pin lets an assembly go; a frame is discarded, or its piece kept or discarding. -/
theorem setupPiecesAreAssembled : Obligations.SetupPiecesAreAssembled := by
  intro s
  refine ⟨fun h => ?released, fun h => ?held, fun select cut src piece content rest hw hq hcheck => ?frame⟩
  case released =>
    have hs : s.pins.restart = false ∧ s.plan.requested = false :=
      h.elim (fun w => ⟨w.released, w.settled⟩) fun r => ⟨r.released, r.settled⟩
    have hexec : exec .selectRelease s = .next (State.finish none s (s.quiet.setSelect false)) := by
      simp [exec, execSelectRelease, hs.1]
    rw [hexec, State.setSelect_eq, State.finish_unchanged (by exact hs.2) (by rfl) (commandChanged_same (by rfl))]
    simp [State.quiet, quietOut, Outputs.quiet]
  case held => simp [exec, execSelectRelease, h, State.quiet, quietOut, Outputs.quiet]
  case frame =>
    have hnot : ¬ (select = true ∧ Completes piece content s.assembly) := by
      rintro ⟨hselect, hfour, hlen, a, ha, hnext, hv⟩
      exact hcheck hselect hfour a ha hnext hlen ((storeOf_valid _).1 hv)
    have hwrite : (cut && s.bringsWrite select) = false := by
      rw [Bool.eq_false_iff.2 fun hb => hnot ((State.bringsWrite_iff hw hq select).1 hb), Bool.and_false]
    have htake : ((popAsk s).quiet.setSelect select).takeSetup piece content =
        { popAsk s with
          pins := { s.pins with select := select }, out := quietOut
          assembly :=
            if select = true then assemblyAfter piece content s.assembly
            else if s.pins.select = true then none else s.assembly } := by
      rw [State.setSelect_eq]
      cases select with
      | false => rw [State.takeSetup_released (by exact hw.unset) rfl]; simp [State.quiet, popAsk, quietOut, Outputs.quiet]
      | true =>
        rw [State.takeSetup_selected (by exact hw.unset) rfl, State.takePiece_of_not_completes]
        · simp [State.quiet, popAsk, quietOut, Outputs.quiet]
        · simpa [State.quiet, popAsk] using hnot
    rw [exec_setup hw.released hq hwrite, htake,
      State.finish_unchanged (by exact hw.settled) (by rfl) (commandChanged_same (by rfl))]

/-- The bays of a part in UNSET as it enters RUN (R23, R176). -/
theorem enterRun_bays {s : State} (h : ∀ b, BayUnset (s.bay b)) (record : List Byte) :
    (Vector.ofFn fun i => (s.bays[i]).enterRun (loadMask record i)) = Vector.ofFn fun i =>
      { s.bays[i] with mask := loadMask record i, state := if loadMask record i = 0 then .off .unused else .off .link } := by
  refine congrArg Vector.ofFn (funext fun i => ?_)
  have hstate : (s.bays[i]).state = .off .link := by rw [show s.bays[i] = s.bay i from rfl, h i]; rfl
  rw [Bay.enterRun, hstate]

/-- The last piece, taken as expected and with a matching check (R176). -/
theorem State.takePiece_completes {s : State} {bytes content : List Byte} (ha : s.assembly = some ⟨4, bytes⟩)
    (hlen : content.length = 7) (hvalid : (storeOf (bytes ++ content)).valid = true) :
    s.takePiece 4 content =
      ({ s with store := storeOf (bytes ++ content) }.enterRun ((bytes ++ content).take 42)).raise
        (.setupLoaded (loadSetup ((bytes ++ content).take 42)).station) := by
  have hexpected : s.expected 4 = some bytes := by simp [State.expected, ha]
  simp only [State.takePiece, hexpected]
  exact (if_pos hlen).trans ((if_pos trivial).trans (if_pos hvalid))

/-- Settles O23: the last piece loads the store it wrote and enters RUN; a write cut short leaves a restarted part. -/
theorem setupCompletesIntoRun : Obligations.SetupCompletesIntoRun := by
  intro src bytes content rest s hw hheld hq ha hlen record check bays loaded hcheck
  have hvalid : (storeOf (bytes ++ content)).valid = true := (storeOf_valid _).2 hcheck
  constructor
  · obtain ⟨hbook, -, hplan, -, -, -, -, -, -, hunset⟩ := hheld hw.unset
    let entered : State := { loaded with plan := { Planner.restart with period := some 10000, requested := true } }
    have hentered : ({ popAsk s with
          pins := { s.pins with select := true }, store := storeOf (bytes ++ content), out := .quiet } : State).enterRun
        record = entered := by
      simp only [State.enterRun, Feed.enterRun_eq, State.request]
      rw [show (popAsk s).plan = .restart from hplan,
        show (Vector.ofFn fun i => ((popAsk s).bays[i]).enterRun (loadMask record i)) = bays from enterRun_bays hunset record]
      rfl
    have htake : ((popAsk s).quiet.setSelect true).takeSetup 4 content =
        entered.raise (.setupLoaded (loadSetup record).station) := by
      rw [← hentered, State.setSelect_eq, State.takeSetup_selected (by exact hw.unset) rfl,
        State.takePiece_completes (by simpa [popAsk, State.quiet] using ha) hlen hvalid]
      rfl
    obtain ⟨heq, hflags, hline⟩ := State.raise_raised (s := entered) (.setupLoaded (loadSetup record).station) rfl
    have hsame : ∀ d, commandChanged s (entered.raise (.setupLoaded (loadSetup record).station)) d = false := fun d => by
      simp [commandChanged, State.bay, entered, loaded, bays]
    let raised := entered.raise (.setupLoaded (loadSetup record).station)
    refine ⟨{ loaded with flags := raised.flags, line := raised.line },
      (exec_setup hw.released hq rfl).trans (congrArg _ ?_), rfl, hflags, hline⟩
    rw [htake, State.finish_some none (by rw [State.raise_plan]) (by rw [State.raise_part]), ordersOf_none_eq_nil hsame,
      heq]
    have hpass : entered.plan.asked entered.snapshot = loaded.plan := by
      simp [entered, loaded, State.snapshot, Planner.asked, Planner.restart, popAsk, hbook, Book.restart, Feed.restart,
        periodMillis]
    exact congrArg (fun p => { loaded with plan := p, flags := raised.flags, line := raised.line }) hpass
  · refine ⟨s.cutWrite, ?_, rfl, rfl⟩
    have hwrite := (State.bringsWrite_iff hw hq true).2 ⟨rfl, rfl, hlen, _, ha, rfl, hvalid⟩
    simp [exec, execSetup, hwrite]

end Sys2Proof.Machine
end


section
/-! SUPPORT. Rules of the whole part: the bay orders of an event, and what only a restart changes. -/

namespace Sys2Proof.Machine

open Sys2Proof.Machine.Safety

/-! ### How a command that is no restart ends -/

/-- The bay whose valid report a command is (R20). -/
def Instr.reply : Instr → Option BayNo
  | .bayReport b r => if r.checkOk then some b else none
  | _ => none

theorem Instr.reply_iff {c : Instr} {b : BayNo} : Instr.reply c = some b ↔ ∃ r, c = .bayReport b r ∧ r.checkOk = true := by
  cases c with
  | bayReport d r => by_cases hok : r.checkOk = true <;> simp [Instr.reply, hok]
  | _ => simp [Instr.reply]

/-- A command that is no restart ends as an event on a part whose RESTART is released. -/
theorem exec_finish {c : Instr} {s t : State} (hlive : s.pins.restart = false) (hrestart : isRestart s c = false)
    (he : exec c s = .next t) : ∃ u, t = State.finish (Instr.reply c) s u := by
  cases c with
  | restart erase => simp [isRestart] at hrestart
  | restartAsserted => simp [isRestart] at hrestart
  | selectRelease =>
    refine ⟨s.quiet.setSelect false, ?_⟩
    have hend : State.finish none s (s.quiet.setSelect false) = t := by simpa [exec, execSelectRelease, hlive] using he
    exact hend.symm
  | bayReport b r =>
    by_cases hok : r.checkOk = true
    · rw [exec, execBayReport, if_pos hok, State.take_live hlive] at he
      exact ⟨_, by rw [Instr.reply, if_pos hok]; exact (Host.Outcome.next.inj he).symm⟩
    · rw [exec, execBayReport, if_neg hok, event, State.take_live hlive] at he
      exact ⟨_, by rw [Instr.reply, if_neg hok]; exact (Host.Outcome.next.inj he).symm⟩
  | setup g =>
    rw [exec, execSetup, not_cut_of_not_restart hrestart, if_neg (by simp), event, State.take_live hlive] at he
    exact ⟨_, (Host.Outcome.next.inj he).symm⟩
  | _ => exact ⟨_, (Host.Outcome.next.inj (he.symm.trans (congrArg Host.Outcome.next (State.take_live hlive _ _))))⟩

/-- While RESTART is held asserted such a command changes nothing but a pin, and puts nothing out (R172). -/
theorem exec_held_frame {c : Instr} {s t : State} (hheld : s.pins.restart = true) (hrestart : isRestart s c = false)
    (he : exec c s = .next t) : t = { s.quiet with pins := t.pins } := by
  cases c with
  | restart erase => simp [isRestart] at hrestart
  | restartAsserted => simp [isRestart] at hrestart
  | selectRelease =>
    rw [exec, execSelectRelease, if_pos hheld] at he
    rw [← Host.Outcome.next.inj he]
  | _ => rw [exec_held hheld (by simp) he]

/-! ### Bay orders (O13) -/

theorem commandChanged_iff {s t : State} {b : BayNo} : commandChanged s t b = true ↔
    (t.bay b).setpoint ≠ (s.bay b).setpoint ∨ (t.bay b).boost ≠ (s.bay b).boost ∨ (t.bay b).locked ≠ (s.bay b).locked := by
  rw [ne_comm (a := (t.bay b).setpoint), ne_comm (a := (t.bay b).boost), ne_comm (a := (t.bay b).locked)]
  simp [commandChanged, or_assoc]

theorem ordersOf_bays (reply : Option BayNo) (s t : State) :
    (ordersOf reply s t).map (·.bay) = baysWhere fun b => commandChanged s t b || reply == some b := by
  rw [ordersOf, List.map_map]
  exact List.map_id _

@[simp] theorem State.finish_bay (reply : Option BayNo) (s u : State) (b : BayNo) :
    (State.finish reply s u).bay b = u.bay b := by
  show u.settlePass.bay b = u.bay b
  simp only [State.bay, State.settlePass_bays]

theorem State.finish_orders (reply : Option BayNo) (s u : State) :
    (State.finish reply s u).out.orders = ordersOf reply s (State.finish reply s u) :=
  (ordersOf_congr rfl : ordersOf reply s u.settlePass = ordersOf reply s (State.finish reply s u))

/-- Settles O13: an event ends with the orders that the definition of its end gives; in restart there are none. -/
theorem bayOrdersFollowCommandedValues : Obligations.BayOrdersFollowCommandedValues := by
  intro c s t hrestart he
  cases hp : s.pins.restart with
  | true =>
    rw [exec_held_frame hp hrestart he]
    exact ⟨List.nodup_nil, by simp [Outputs.quiet], fun b => by simp [Outputs.quiet, State.bay]⟩
  | false =>
    obtain ⟨u, rfl⟩ := exec_finish hp hrestart he
    rw [State.finish_orders, ordersOf_bays]
    generalize State.finish (Instr.reply c) s u = t
    refine ⟨baysWhere_nodup _, fun o ho => ?_, fun b => ?_⟩
    · obtain ⟨b, -, rfl⟩ := List.mem_map.1 ho
      rfl
    · rw [mem_baysWhere, Bool.or_eq_true, commandChanged_iff, beq_iff_eq, Instr.reply_iff, or_assoc, or_assoc]
      simp

/-! ### What goes onto the line, and the condition flags (O15) -/

/-- A property of the frame begun and the condition flags that a raised flag keeps. -/
def FlagKept (Q : Option WireFrame → BitVec 34 → Prop) : Prop := ∀ w f n, Q w f → Q w (setFlag n f)

section
variable {Q : Option WireFrame → BitVec 34 → Prop} (hQ : FlagKept Q) {s : State}
include hQ

theorem flagKept_raise (n : Notice) (hs : Q s.out.wire s.flags) : Q (s.raise n).out.wire (s.raise n).flags := by
  rw [State.raise_out, State.raise_flags]
  exact hQ _ _ _ hs

omit hQ in
theorem State.releaseOf_signs (r : Reservation) : (s.releaseOf r).out = s.out ∧ (s.releaseOf r).flags = s.flags := by
  unfold State.releaseOf
  split <;> simp

theorem flagKept_removeRecord (r : Reservation) (hs : Q s.out.wire s.flags) :
    Q (s.removeRecord r).out.wire (s.removeRecord r).flags := by
  rw [State.removeRecord_eq]
  obtain ⟨hout, hflags⟩ := State.releaseOf_signs (s := s) r
  simpa [State.dropRecord, State.tellRemoved, hout, hflags] using hs

theorem flagKept_expiryCheck (id : Nat) (hs : Q s.out.wire s.flags) :
    Q (s.expiryCheck id).out.wire (s.expiryCheck id).flags := by
  obtain heq | ⟨r, -, -, -, heq⟩ := State.expiryCheck_cases id s <;> rw [heq]
  · exact hs
  · exact flagKept_raise hQ _ (flagKept_removeRecord hQ r (s := { s with book.expired := _ }) hs)

theorem flagKept_recount (send recv : Nat) (st : LineState) (gaps : Option Nat) (hs : Q s.out.wire s.flags) :
    Q ((s.setLine send recv st gaps).setCaution).out.wire ((s.setLine send recv st gaps).setCaution).flags := by
  have hline : Q (s.setLine send recv st gaps).out.wire (s.setLine send recv st gaps).flags := by
    unfold State.setLine
    dsimp only
    split
    · exact hs
    · refine flagKept_raise hQ _ ?_
      unfold State.tellLineState
      split
      · exact hs
      · dsimp only
        split
        · exact hs
        · obtain ⟨v, q, heq, -⟩ := State.recomputeShare_eq
            { s with
              line := { s.line with sendCount := send, recvCount := recv, state := st, gaps := gaps }
              feed.detached := st == .detached }
          rw [heq]
          exact hs
  unfold State.setCaution
  dsimp only
  split
  · exact flagKept_raise hQ _ hline
  · exact hline

theorem flagKept_kept : Kept fun u => Q u.out.wire u.flags where
  out o s _ hw hs := by rw [hw]; exact hs
  raise n s := flagKept_raise hQ n
  post f s hs := by simpa using hs
  request _ hs := hs
  useFree _ _ hs := hs
  popAsk _ hs := hs
  popPeer _ hs := hs
  removeRecord r s _ _ := flagKept_removeRecord hQ r
  expire r s _ _ hs := flagKept_raise hQ _ (flagKept_removeRecord hQ r (s := { s with book.expired := _ }) hs)
  unknown _ hs := hs
  endGrant c s _ hs := by simpa using hs
  fault _ _ hs := hs
  renew _ _ _ _ _ hs := hs
  decide s _ hs := by simpa using hs
  reshare f s _ hs := by
    obtain ⟨v, q, heq, -⟩ := s.reshare_eq f
    rw [heq]; exact hs
  claimTimer _ _ hs := hs
  templates _ _ _ hs := hs
  relined _ _ _ _ hs := hs
  recount send recv st gaps s _ := flagKept_recount hQ send recv st gaps
  setSlot _ _ _ _ hs := hs
  dropped _ hs := hs
  enterBay b n s hs := by simpa using hs
  putBay _ _ _ _ hs := hs
  edit _ _ _ _ _ hs := hs
  unbind id b s hs := by
    obtain ⟨-, heq⟩ | ⟨r, -, -, heq⟩ := State.unbind_cases id b s <;> rw [heq]
    · exact hs
    · dsimp only
      split
      · exact flagKept_expiryCheck hQ id (s := (s.updateRecord id _).request) hs
      · exact hs
  doorClear id s hs := by
    obtain heq | ⟨r, -, -, heq⟩ := State.doorClear_cases id s <;> rw [heq]
    · exact hs
    · exact flagKept_expiryCheck hQ id (s := s.updateRecord id _) hs
  removeAtDoor r s _ := flagKept_removeRecord hQ r

theorem flagKept_pass : KeptPass fun u => Q u.out.wire u.flags where
  toKept := flagKept_kept hQ
  setpoints _ _ _ hs := hs
  sets _ _ _ _ hs := hs
  order _ _ _ hs := hs
  startPass _ hs := hs
  idle _ _ hs := hs

theorem flagKept_setSelect (level : Bool) (hs : Q s.out.wire s.flags) :
    Q (s.setSelect level).out.wire (s.setSelect level).flags := by
  rw [State.setSelect_eq]
  exact hs

theorem flagKept_takePiece (n : Nat) (content : List Byte) (hs : Q s.out.wire s.flags) :
    Q (s.takePiece n content).out.wire (s.takePiece n content).flags := by
  unfold State.takePiece
  split
  · split
    · split
      · unfold State.finishAssembly
        dsimp only
        split
        · exact flagKept_raise hQ _ hs
        · exact hs
      · exact hs
    · exact hs
  · exact hs

theorem flagKept_takeSetup (n : Nat) (content : List Byte) (hs : Q s.out.wire s.flags) :
    Q (s.takeSetup n content).out.wire (s.takeSetup n content).flags := by
  unfold State.takeSetup
  split
  · exact flagKept_raise hQ _ hs
  · split
    · exact flagKept_takePiece hQ _ _ hs
    · exact hs

/-- Every command but a restart, a send and a clearing of flags ends with such a property. -/
theorem flagKept_covers {c : Instr} (hsend : ∀ n, c = .sendStart n → ∀ s : State, Q s.out.wire s.flags →
      Q (s.startSend n).out.wire (s.startSend n).flags)
    (hclear : c = .statusClear → ∀ m (s : State), Q s.out.wire s.flags → Q (s.clearFlags m).out.wire (s.clearFlags m).flags) :
    Covers (fun u => Q u.out.wire u.flags) c where
  new _ _ _ _ hs := hs
  pass _ _ := (flagKept_pass hQ).completePass
  send := hsend
  clear := hclear
  select _ level _ := flagKept_setSelect hQ level
  piece _ n content _ _ _ := flagKept_takePiece hQ n content

end

/-- Such a property holds at the end of an event that is no restart, no send and no clearing of flags. -/
theorem flagKept_exec {Q : Option WireFrame → BitVec 34 → Prop} (hQ : FlagKept Q) {c : Instr} {s t : State}
    (hsend : ∀ n, c = .sendStart n → ∀ s : State, Q s.out.wire s.flags →
      Q (s.startSend n).out.wire (s.startSend n).flags)
    (hclear : c = .statusClear → ∀ m (s : State), Q s.out.wire s.flags → Q (s.clearFlags m).out.wire (s.clearFlags m).flags)
    (hrestart : isRestart s c = false) (hs : Q none s.flags) (he : exec c s = .next t) : Q t.out.wire t.flags := by
  have hfinish : ∀ reply u, Q u.out.wire u.flags → Q (State.finish reply s u).out.wire (State.finish reply s u).flags := by
    intro reply u hu
    show Q u.settlePass.out.wire u.settlePass.flags
    rwa [State.settlePass_eq]
  cases hp : s.pins.restart with
  | true => rw [exec_held_frame hp hrestart he]; exact hs
  | false =>
    by_cases hsetup : ∃ g, c = .setup g
    · obtain ⟨g, rfl⟩ := hsetup
      rw [exec, execSetup, not_cut_of_not_restart hrestart, if_neg (by simp), event, State.take_live hp] at he
      rw [← Host.Outcome.next.inj he]
      refine hfinish none _ ?_
      unfold State.fromAsk
      split
      · exact hs
      · split
        · next body hbody =>
          dsimp only at hbody
          split at hbody
          · obtain rfl := Option.some.inj hbody
            have hselect := fun l => flagKept_setSelect hQ g.select (s := { s.quiet with line := l }) hs
            exact flagKept_takeSetup hQ _ _ (hselect _)
          · simp at hbody
        · exact hs
    · obtain ⟨reply, u, hu, rfl⟩ := (flagKept_kept hQ).rules.exec (flagKept_covers hQ hsend hclear)
        (fun g hg => absurd ⟨g, hg⟩ hsetup) hp hrestart hs he
      exact hfinish reply u hu

/-- Only SEND_START puts a frame onto the line (R161). -/
theorem exec_wire {c : Instr} {s t : State} (hrestart : isRestart s c = false) (he : exec c s = .next t)
    (hw : t.out.wire ≠ none) : s.part = .run ∧ s.line.state ≠ .detached ∧ ∃ n, c = .sendStart n := by
  by_cases hsend : ∃ n, c = .sendStart n
  · obtain ⟨n, rfl⟩ := hsend
    cases hp : s.pins.restart with
    | true => rw [exec_held hp (by simp) he] at hw; exact absurd rfl hw
    | false =>
      rw [exec, execSendStart, event, State.take_live hp] at he
      rw [← Host.Outcome.next.inj he] at hw
      change (s.quiet.startSend n).settlePass.out.wire ≠ none at hw
      rw [State.settlePass_eq] at hw
      obtain heq | ⟨hmay, -⟩ := State.startSend_cases n s.quiet
      · rw [heq] at hw; exact absurd rfl hw
      · simp only [State.maySend, Bool.and_eq_true, beq_iff_eq, bne_iff_ne] at hmay
        exact ⟨hmay.1.1.1, hmay.1.1.2, n, rfl⟩
  · exact absurd (flagKept_exec (Q := fun w _ => w = none) (fun _ _ _ h => h) (fun n hn => absurd ⟨n, hn⟩ hsend)
      (fun _ m s h => by unfold State.clearFlags; dsimp only; split <;> exact h) hrestart rfl he) hw

theorem setFlag_getLsbD {f : BitVec 34} {n k : Nat} (h : f.getLsbD k = true) : (setFlag n f).getLsbD k = true := by
  simp [setFlag, h]

/-! ### What stands in RUN (O15) -/

/-- The part in RUN with the setup, the store and the class masks of `s`, and a converter FAULTED as it was. -/
structure StandsAs (s u : State) : Prop where
  run : u.part = .run
  cfg : u.cfg = s.cfg
  store : u.store = s.store
  mask : ∀ b : BayNo, (u.bay b).mask = (s.bay b).mask
  faulted : s.boost.converter = .faulted → u.boost.converter = .faulted

theorem StandsAs.congr {s u v : State} (h : StandsAs s u) (hrun : v.part = u.part) (hcfg : v.cfg = u.cfg)
    (hstore : v.store = u.store) (hmask : ∀ b : BayNo, (v.bay b).mask = (u.bay b).mask)
    (hfaulted : u.boost.converter = .faulted → v.boost.converter = .faulted) : StandsAs s v where
  run := hrun.trans h.run
  cfg := hcfg.trans h.cfg
  store := hstore.trans h.store
  mask b := (hmask b).trans (h.mask b)
  faulted hf := hfaulted (h.faulted hf)

/-- A decision changes nothing of a bay but its boost field (R111). -/
theorem State.decideGrant_bay (s : State) (d : BayNo) : ∃ v, s.decideGrant.bay d = { s.bay d with boost := v } := by
  unfold State.decideGrant
  split
  · next b a _ =>
    rw [show (State.grant b { s with boost := a }).bay d = if b = d then { s.bay b with boost := true } else s.bay d from
      State.setBay_bay _ b d _]
    split
    · next hbd => subst hbd; exact ⟨_, rfl⟩
    · exact ⟨_, rfl⟩
  · exact ⟨_, rfl⟩

theorem standsAs_apart (s₀ : State) : KeptApart (StandsAs s₀) where
  aside _ _ _ _ _ hs := hs.congr rfl rfl rfl (fun _ => rfl) id
  request _ hs := hs.congr rfl rfl rfl (fun _ => rfl) id
  enterBay b n s hs := by
    refine hs.congr (by simp) (by simp) (by simp) (fun d => ?_) fun hf => ?_
    · rw [State.enterBay_bay]; split <;> simp_all [Bay.entering, Bay.writeSetpoint]
    · rw [State.enterBay_eq]; simp [endsGrant, hf, Converter.holder]
  putBay b x s hx hs := by
    refine hs.congr rfl rfl rfl (fun d => ?_) id
    rw [State.setBay_bay]; split
    · next h => rw [← h]; exact hx.mask
    · rfl
  edit _ _ _ _ hs := hs.congr rfl rfl rfl (fun _ => rfl) id
  drop _ _ _ _ _ hs := hs.congr rfl rfl rfl (fun _ => rfl) id
  unknown _ hs := hs.congr rfl rfl rfl (fun _ => rfl) id
  endGrant c s _ hs := by
    refine hs.congr (by simp) (by simp) (by simp) (fun d => ?_) fun hf => ?_
    · cases hh : s.boost.converter.holder with
      | none => simp [State.endGrant, hh]
      | some h => rw [State.endGrant_bay c hh]; split <;> simp_all
    · simp [State.endGrant, hf, Converter.holder]
  fault _ _ hs := hs.congr rfl rfl rfl (fun _ => rfl) fun _ => rfl
  renew _ _ _ _ hc hs := hs.congr rfl rfl rfl (fun _ => rfl) fun hf => by simp [hc] at hf
  decide s hc hs := by
    refine hs.congr (by simp) (by simp) (by simp) (fun d => ?_) fun hf => ?_
    · obtain ⟨v, heq⟩ := s.decideGrant_bay d
      rw [heq]
    · simp [hf] at hc
  reshare f s _ hs := by
    obtain ⟨v, q, heq, hv⟩ := s.reshare_eq f
    rw [heq]
    refine hs.congr rfl rfl rfl (fun b => ?_) id
    obtain ⟨p, -, hb⟩ := hv b
    show (v[b]).mask = _
    rw [hb]
  claimTimer _ _ hs := hs.congr rfl rfl rfl (fun _ => rfl) id
  templates _ _ _ hs := hs.congr rfl rfl rfl (fun _ => rfl) id
  setSlot _ _ _ _ hs := hs.congr rfl rfl rfl (fun _ => rfl) id
  dropped _ hs := hs.congr rfl rfl rfl (fun _ => rfl) id

theorem standsAs_pass (s₀ : State) : KeptPass (StandsAs s₀) where
  toKept := (standsAs_apart s₀).kept
  setpoints l s _ hs := hs.congr rfl rfl rfl (fun b => by rw [State.writeSetpoints_bay]; rfl) id
  sets _ _ _ _ hs := hs.congr rfl rfl rfl (fun _ => rfl) id
  order _ _ _ hs := hs.congr rfl rfl rfl (fun _ => rfl) id
  startPass _ hs := hs.congr rfl rfl rfl (fun _ => rfl) id
  idle _ _ hs := hs.congr rfl rfl rfl (fun _ => rfl) id

theorem standsAs_covers (s₀ : State) (c : Instr) : Covers (StandsAs s₀) c where
  new _ _ _ _ hs := hs.congr rfl rfl rfl (fun _ => rfl) id
  pass _ _ := (standsAs_pass s₀).completePass
  send n _ _ := (standsAs_apart s₀).startSend n
  clear _ m s hs := by
    unfold State.clearFlags
    dsimp only
    split
    · exact hs.congr rfl rfl rfl (fun _ => rfl) id
    · exact hs.congr rfl rfl rfl (fun _ => rfl) id
  select _ level s hs := by
    rw [State.setSelect_eq]
    exact hs.congr rfl rfl rfl (fun _ => rfl) id
  piece _ _ _ _ _ hpart hs := by simp [hs.run] at hpart

/-- Settles O15: what stands in RUN stands after every update; the other two are read off what an event puts out. -/
theorem runStandsUntilRestart : Obligations.RunStandsUntilRestart := by
  intro c s t hrestart he
  refine ⟨fun hrun => ?_, exec_wire hrestart he, fun hclear n _ hflag => ?_⟩
  · have hs : StandsAs s s.quiet := ⟨hrun, rfl, rfl, fun _ => rfl, id⟩
    have ht : StandsAs s t := by
      cases hp : s.pins.restart with
      | true => rw [exec_held_frame hp hrestart he]; exact hs.congr rfl rfl rfl (fun _ => rfl) id
      | false =>
        obtain ⟨reply, u, hu, rfl⟩ := (standsAs_apart s).kept.rules.exec (standsAs_covers s c)
          (fun _ _ hunset => by simp [hrun] at hunset) hp hrestart hs he
        refine hu.congr (State.settlePass_part u) ?_ ?_ (fun b => by rw [State.finish_bay]) ?_
        · show u.settlePass.cfg = _; rw [State.settlePass_eq]
        · show u.settlePass.store = _; rw [State.settlePass_eq]
        · show _ → u.settlePass.boost.converter = _; rw [State.settlePass_eq]; exact id
    exact ⟨ht.run, ht.cfg, ht.store, ht.mask, ht.faulted⟩
  · refine flagKept_exec (Q := fun _ f => f.getLsbD n = true) (fun _ _ _ h => setFlag_getLsbD h) (fun m _ u hu => ?_)
      (fun hc => absurd hc hclear) hrestart hflag he
    obtain heq | ⟨-, e, -, -, heq⟩ := State.startSend_cases m u <;> rw [heq] <;> exact hu

end Sys2Proof.Machine
end


section
/-! SUPPORT. Rules of the whole part: a record past its expiry instant at the door, and the changes that request a pass. -/

namespace Sys2Proof.Machine

open Sys2Proof.Machine.Safety

/-! ### A record past its instant at the door (O36) -/

/-- What neither the book's changes nor the bays' touch: the part state, the setup and the clock. -/
def SameSetting (u s : State) : Prop := u.part = s.part ∧ u.cfg = s.cfg ∧ u.clock = s.clock

theorem SameSetting.refl (s : State) : SameSetting s s := ⟨rfl, rfl, rfl⟩

theorem SameSetting.trans {s t u : State} (h : SameSetting u t) (h' : SameSetting t s) : SameSetting u s :=
  ⟨h.1.trans h'.1, h.2.1.trans h'.2.1, h.2.2.trans h'.2.2⟩

/-- The book within an event that began in `s` in RUN with record `r` at the door: ids distinct, and what holds the id and token of
`r` is at the door still, with the window of `r`. -/
structure DoorStill (s : State) (r : Reservation) (u : State) : Prop where
  run : u.part = .run
  setting : SameSetting u s
  ids : (u.book.records.map (·.id)).Nodup
  door : ∀ z ∈ u.book.records, z.id = r.id → z.token = r.token → z.atDoor = true ∧ z.windowClose = r.windowClose

section
variable {s₀ : State} {r₀ : Reservation} {s u : State}

theorem DoorStill.of_sublist (h : DoorStill s₀ r₀ s) (hsame : SameSetting u s)
    (hbook : u.book.records.Sublist s.book.records) : DoorStill s₀ r₀ u where
  run := hsame.1.trans h.run
  setting := hsame.trans h.setting
  ids := (hbook.map _).nodup h.ids
  door z hz := h.door z (hbook.subset hz)

theorem DoorStill.congr (h : DoorStill s₀ r₀ s) (hsame : SameSetting u s)
    (hbook : u.book.records = s.book.records) : DoorStill s₀ r₀ u :=
  h.of_sublist hsame (hbook ▸ .refl _)

theorem State.removeRecord_records (r : Reservation) (s : State) :
    (s.removeRecord r).book.records = s.book.records.filter (·.id ≠ r.id) := by
  rw [State.removeRecord_eq]
  simp [State.dropRecord, State.tellRemoved, Book.remove]

theorem State.releaseOf_setting (r : Reservation) (s : State) : SameSetting (s.releaseOf r) s := by
  unfold State.releaseOf
  split <;> simp [SameSetting]

theorem State.removeRecord_setting (r : Reservation) (s : State) : SameSetting (s.removeRecord r) s := by
  rw [State.removeRecord_eq]
  exact s.releaseOf_setting r

theorem State.raise_setting (n : Notice) (s : State) : SameSetting (s.raise n) s :=
  ⟨State.raise_part _ _, State.raise_cfg _ _, State.raise_clock _ _⟩

theorem State.expire_setting (r : Reservation) (s : State) : SameSetting (s.expire r) s :=
  (State.raise_setting _ _).trans (State.removeRecord_setting r _)

theorem DoorStill.removeRecord (r : Reservation) (h : DoorStill s₀ r₀ s) : DoorStill s₀ r₀ (s.removeRecord r) :=
  h.of_sublist (s.removeRecord_setting r) (by rw [State.removeRecord_records]; exact List.filter_sublist)

theorem DoorStill.expire (r : Reservation) (h : DoorStill s₀ r₀ s) : DoorStill s₀ r₀ (s.expire r) :=
  (DoorStill.removeRecord r
    (h.congr (u := { s with book.expired := pushExpired r.token s.book.expired }) (.refl _) rfl)).congr
    (State.raise_setting _ _) (congrArg Book.records (State.raise_book _ _))

theorem State.recomputeShare_aside (s : State) : SameSetting s.recomputeShare s ∧ s.recomputeShare.book = s.book := by
  obtain ⟨v, q, heq, -⟩ := s.recomputeShare_eq
  rw [heq]
  exact ⟨.refl _, rfl⟩

theorem doorStill_calm : CalmApart (DoorStill s₀ r₀) where
  aside _ _ _ _ _ h := h.congr (.refl _) rfl
  request _ h := h.congr (.refl _) rfl
  removeRecord r _ _ _ h := h.removeRecord r
  expire r _ _ _ h := h.expire r
  unknown _ h := h.congr (.refl _) rfl
  endGrant c s _ h := h.congr (by simp [SameSetting]) (by simp)
  fault _ _ h := h.congr (.refl _) rfl
  renew _ _ _ _ _ h := h.congr (.refl _) rfl
  decide s _ h := h.congr (by simp [SameSetting]) (by simp)
  reshare f s _ h := by
    obtain ⟨hsame, hbook⟩ := State.recomputeShare_aside { s with feed := f }
    exact h.congr hsame (congrArg Book.records hbook)
  claimTimer _ _ h := h.congr (.refl _) rfl
  templates _ _ _ h := h.congr (.refl _) rfl
  setSlot _ _ _ _ h := h.congr (.refl _) rfl
  dropped _ h := h.congr (.refl _) rfl

theorem DoorStill.updateRecord (h : DoorStill s₀ r₀ s) {id : Nat} {f : Reservation → Reservation}
    (hmade : ∀ r, (f r).id = r.id ∧ (f r).token = r.token ∧ (f r).windowClose = r.windowClose)
    (hdoor : ∀ r ∈ s.book.records, r.id = id → r.id = r₀.id → r.token = r₀.token → (f r).atDoor = true) :
    DoorStill s₀ r₀ (s.updateRecord id f) where
  run := h.run
  setting := h.setting
  ids := by rw [State.updateRecord_ids fun r => (hmade r).1]; exact h.ids
  door z hz hid htoken := by
    obtain ⟨y, hy, rfl⟩ := State.mem_updateRecord.1 hz
    by_cases hyid : y.id = id
    · obtain ⟨hfid, hftoken, hfclose⟩ := hmade y
      simp only [hyid, if_true] at hid htoken ⊢
      rw [hfid] at hid
      rw [hftoken] at htoken
      exact ⟨hdoor y hy hyid hid htoken, hfclose.trans (h.door y hy hid htoken).2⟩
    · simp only [hyid, if_false] at hid htoken ⊢
      exact h.door y hy hid htoken

/-- A record whose at door is cleared leaves the book in the expiry check that follows if it is past its instant: none past
its instant is left with at door no (R46, R51, R52). -/
theorem DoorStill.cleared (hdue : r₀.expiry s₀.cfg ≤ s₀.clock.seconds) (h : DoorStill s₀ r₀ s) {id : Nat} {r : Reservation}
    {f : Reservation → Reservation} (hr : s.book.byId id = some r)
    (hmade : ∀ r, (f r).id = r.id ∧ (f r).token = r.token ∧ (f r).windowClose = r.windowClose ∧ (f r).atDoor = false)
    (hsetting : SameSetting u s) (hbook : u.book = (s.updateRecord id f).book) :
    DoorStill s₀ r₀ (u.expiryCheck id) ∧ (r.atDoor = false → DoorStill s₀ r₀ u) := by
  obtain ⟨hmem, hid⟩ := Book.byId_some hr
  have hunique : ∀ z ∈ s.book.records, z.id = id → z = r := fun z hz hzid =>
    record_unique h.ids hz hmem (hzid.trans hid.symm)
  have hother : ¬ (r.id = r₀.id ∧ r.token = r₀.token) → DoorStill s₀ r₀ u := fun hne =>
    (h.updateRecord (f := f) (fun r => ⟨(hmade r).1, (hmade r).2.1, (hmade r).2.2.1⟩)
      fun z hz hzid hid₀ htoken => absurd ⟨hid₀, htoken⟩ (hunique z hz hzid ▸ hne)).congr hsetting (by rw [hbook])
  refine ⟨?_, fun hdoor => hother fun ⟨hid₀, htoken⟩ => by simp [(h.door r hmem hid₀ htoken).1] at hdoor⟩
  by_cases hsame : r.id = r₀.id ∧ r.token = r₀.token
  · have hexpires : (f r).expiryDue u.cfg u.clock.seconds = true := by
      obtain ⟨-, hclose⟩ := h.door r hmem hsame.1 hsame.2
      obtain ⟨-, hcfg, hclock⟩ := hsetting.trans h.setting
      simpa only [Reservation.expiryDue, Reservation.expiry, (hmade r).2.2.1, (hmade r).2.2.2, hclose, hcfg, hclock, Bool.not_false, Bool.and_true, decide_eq_true_eq] using hdue
    have hfound : u.book.byId id = some (f r) := by rw [hbook, State.byId_updateRecord fun r => (hmade r).1, hr]; rfl
    have hcheck : u.expiryCheck id = u.expire (f r) := by simp only [State.expiryCheck, hfound, hexpires, if_true]
    have hrecords : (u.expire (f r)).book.records = u.book.records.filter (·.id ≠ id) := by
      rw [State.expire, State.raise_book, State.removeRecord_records, (hmade r).1, hid]
    have hleft := (u.expire_setting (f r)).trans hsetting
    rw [hcheck]
    refine ⟨hleft.1.trans h.run, hleft.trans h.setting, ?_, fun z hz hid₀ _ => ?_⟩
    · rw [hrecords, hbook]
      refine (List.filter_sublist.map _).nodup ?_
      rw [State.updateRecord_ids fun r => (hmade r).1]
      exact h.ids
    · rw [hrecords] at hz
      exact absurd (hid₀.trans (hsame.1.symm.trans hid)) (by simpa using (List.mem_filter.1 hz).2)
  · exact doorStill_calm.calm.expiryCheck id (hother hsame)

theorem doorStill_kept (hdue : r₀.expiry s₀.cfg ≤ s₀.clock.seconds) : Kept (DoorStill s₀ r₀) :=
  { doorStill_calm.calm with
    enterBay := fun b n s h => h.congr (by simp [SameSetting]) (by simp)
    putBay := fun _ _ _ _ h => h.congr (.refl _) rfl
    edit := fun id f s hf hdoor h => by
      refine h.updateRecord (fun r => ⟨(hf.made r).1, (hf.made r).2.1, (hf.made r).2.2.2.2.2⟩) fun r hr _ hid htoken => ?_
      exact (hdoor r).elim (fun heq => heq.trans (h.door r hr hid htoken).1) fun h => h
    unbind := fun id b s h => by
      obtain ⟨-, heq⟩ | ⟨r, hr, -, heq⟩ := State.unbind_cases id b s <;> rw [heq]
      · exact h
      · have hcleared := h.cleared (f := fun r => { r with state := .pending, late := false, atDoor := false })
          (u := (s.updateRecord id fun r => { r with state := .pending, late := false, atDoor := false }).request)
          hdue hr (fun _ => ⟨rfl, rfl, rfl, rfl⟩) (.refl _) rfl
        dsimp only
        split
        · exact hcleared.1
        · exact hcleared.2 (by simpa using ‹¬ r.atDoor = true›)
    doorClear := fun id s h => by
      obtain heq | ⟨r, hr, -, heq⟩ := State.doorClear_cases id s <;> rw [heq]
      · exact h
      · exact (h.cleared (f := fun r => { r with atDoor := false })
          (u := s.updateRecord id fun r => { r with atDoor := false }) hdue hr (fun _ => ⟨rfl, rfl, rfl, rfl⟩) (.refl _) rfl).1
    removeAtDoor := fun r _ _ h => h.removeRecord r }

theorem doorStill_pass (hdue : r₀.expiry s₀.cfg ≤ s₀.clock.seconds) : KeptPass (DoorStill s₀ r₀) where
  toKept := doorStill_kept hdue
  setpoints _ _ _ h := h.congr (.refl _) rfl
  sets _ _ _ _ h := h.congr (.refl _) rfl
  order _ _ _ h := h.congr (.refl _) rfl
  startPass _ h := h.congr (.refl _) rfl
  idle _ _ h := h.congr (.refl _) rfl

/-- What such a command does beside its updates, the creation of records apart. -/
theorem doorStill_covers (hdue : r₀.expiry s₀.cfg ≤ s₀.clock.seconds) {c : Instr} (hcreates : Instr.creates c = false) :
    Covers (DoorStill s₀ r₀) c where
  new h := by simp [hcreates] at h
  pass _ _ h := (doorStill_pass hdue).completePass h
  send n _ _ h := doorStill_calm.startSend n h
  clear _ m s h := by
    unfold State.clearFlags
    dsimp only
    split
    · exact h.congr (.refl _) rfl
    · exact h.congr (.refl _) rfl
  select _ level s h := by
    rw [State.setSelect_eq]
    exact h.congr (.refl _) rfl
  piece _ _ _ _ _ hpart h := by simp [h.run] at hpart

/-- A command that creates records removes none: the record at the door is in the book still, and no new one has its id. -/
structure DoorKept (s : State) (r : Reservation) (u : State) : Prop where
  sound : BookSound u
  still : DoorStill s r u
  there : r.id ∈ u.book.records.map (·.id)

theorem doorKept_new : KeptNew (DoorKept s₀ r₀) where
  raise n s h := ⟨bookSound_lasting.raise n s h.sound, doorStill_calm.raise n h.still, by simpa using h.there⟩
  request s h := ⟨h.sound, doorStill_calm.request s h.still, h.there⟩
  useFree n s h := ⟨h.sound, h.still.congr (.refl _) rfl, h.there⟩
  templates _ _ _ h := ⟨h.sound, h.still.congr (.refl _) rfl, h.there⟩
  setSlot _ _ _ _ h := ⟨h.sound, h.still.congr (.refl _) rfl, h.there⟩
  create q s hcheck h := by
    obtain ⟨hlen, -, -, -, -, -, hnext, -⟩ := h.sound
    have hsound := bookSound_lasting.create q s hcheck h.sound
    have hfree := Book.freeId_free hnext hlen
    generalize s.book.freeId (s.book.records.length + 1) s.book.nextId = id at hsound hfree ⊢
    have hmem : ∀ z, z ∈ insertRecord (q.record id) s.book.records ↔ z = q.record id ∨ z ∈ s.book.records := fun z =>
      mem_insertRecord
    obtain ⟨y, hy, hid⟩ := List.mem_map.1 h.there
    refine ⟨hsound, ⟨h.still.run, h.still.setting, hsound.2.2.1, fun z hz hid₀ => ?_⟩, ?_⟩
    · obtain rfl | hz := (hmem z).1 hz
      · exact absurd (List.mem_map.2 ⟨y, hy, hid.trans hid₀.symm⟩) hfree
      · exact h.still.door z hz hid₀
    · exact List.mem_map.2 ⟨y, (hmem y).2 (.inr hy), hid⟩

/-- The commands that create records leave the record at the door. -/
theorem doorKept_exec {c : Instr} {t : State} (hcreates : Instr.creates c = true) (hlive : s.pins.restart = false)
    (hs : DoorKept s₀ r₀ s.quiet) (he : exec c s = .next t) : EndsWith (DoorKept s₀ r₀) s t := by
  cases c with
  | bidWindowEnd i => exact endsWith_event hlive (doorKept_new.bidEnds i hs) he
  | templateInstant i => exact endsWith_event hlive (doorKept_new.instantPassed i hs) he
  | dayTime =>
    refine endsWith_event hlive (kept_fromPeer (fun u h => ⟨h.sound, h.still.congr (.refl _) rfl, h.there⟩)
      (fun x body hx u hu => ?_) hs) he
    split at hx
    · obtain rfl := Option.some.inj hx
      exact kept_inRun (fun v hv => doorKept_new.takeDayTime _ hv) hu
    · simp at hx
  | _ => simp [Instr.creates] at hcreates

end

/-- Settles O36: no update of a command leaves the record with at door no, and a restart empties the book. -/
theorem atDoorRecordExpiresAsDoorClears : Obligations.AtDoorRecordExpiresAsDoorClears := by
  intro c r s t hs he hr hdoor hdue z hz hid htoken
  obtain ⟨-, -, hids, -⟩ := hs.book
  cases execCases he with
  | restart erase =>
    have hempty : (s.start erase).book = .restart := by
      unfold State.start
      dsimp only
      split <;> rfl
    rw [State.settlePass_eq] at hz
    simp [hempty, Book.restart] at hz
  | asserted => simp [State.restarted, State.reset, Book.restart] at hz
  | cut => simp [State.cutWrite, State.restarted, State.useFree, State.reset, Book.restart] at hz
  | held pins => exact record_unique hids hz hr hid ▸ hdoor
  | live hlive _ _ hends =>
    have hrun : s.part = .run := by
      obtain hpart | hpart := s.part_cases
      · obtain ⟨hbook, -⟩ := hs.start.1 hpart
        simp [hbook, Book.restart] at hr
      · exact hpart
    have hstill : DoorStill s r s.quiet := ⟨hrun, .refl _, hids, fun y hy hyid _ => by
      rw [record_unique hids hy hr hyid]
      exact ⟨hdoor, rfl⟩⟩
    have hend : EndsWith (DoorStill s r) s t := by
      cases hcreates : Instr.creates c with
      | true =>
        obtain ⟨reply, u, hu, rfl⟩ := doorKept_exec hcreates hlive
          ⟨hs.book, hstill, List.mem_map.2 ⟨r, hr, rfl⟩⟩ he
        exact ⟨reply, u, hu.still, rfl⟩
      | false =>
        exact hends _ (doorStill_kept hdue).rules (doorStill_covers hdue hcreates) (fun _ _ hunset => by simp [hrun] at hunset)
          hstill
    obtain ⟨reply, u, hu, rfl⟩ := hend
    refine (hu.door z ?_ hid htoken).1
    change z ∈ u.settlePass.book.records at hz
    rwa [State.settlePass_eq] at hz

end Sys2Proof.Machine
end


section
/-! SUPPORT. The changes that the planner works from request a pass (R83). -/

namespace Sys2Proof.Machine

open Sys2Proof.Machine.Safety

/-- A part in RUN within an event that began in `s`: the planner is as it was but for the request, and where no pass has been
requested the records, the codes of the bay states, the share and the holder of the converter are those of `s`. -/
structure Unasked (s u : State) : Prop where
  run : u.part = .run
  plan : u.plan = { s.plan with requested := u.plan.requested }
  same : u.plan.requested = false →
    u.book.records.map (fun r => (r.id, r.state)) = s.book.records.map (fun r => (r.id, r.state)) ∧
    (∀ b : BayNo, (u.bay b).state.code = (s.bay b).state.code) ∧ u.feed.share = s.feed.share ∧
    u.boost.converter.holder = s.boost.converter.holder

section
variable {s₀ s u : State}

/-- An update that requests a pass may change the rest as it will. -/
theorem Unasked.asked (h : Unasked s₀ s) (hpart : u.part = s.part) (hplan : u.plan = { s.plan with requested := true }) :
    Unasked s₀ u where
  run := hpart.trans h.run
  plan := by rw [hplan, h.plan]
  same hf := by simp [hplan] at hf

theorem Unasked.congr (h : Unasked s₀ s) (hpart : u.part = s.part) (hplan : u.plan = s.plan)
    (hrecords : u.book.records.map (fun r => (r.id, r.state)) = s.book.records.map (fun r => (r.id, r.state)))
    (hcodes : ∀ b : BayNo, (u.bay b).state.code = (s.bay b).state.code) (hshare : u.feed.share = s.feed.share)
    (hholder : u.boost.converter.holder = s.boost.converter.holder) : Unasked s₀ u where
  run := hpart.trans h.run
  plan := by rw [hplan]; exact h.plan
  same hf := by
    obtain ⟨h1, h2, h3, h4⟩ := h.same (hplan ▸ hf)
    exact ⟨hrecords.trans h1, fun b => (hcodes b).trans (h2 b), hshare.trans h3, hholder.trans h4⟩

/-- An update of what the planner does not work from. -/
theorem Unasked.aside (h : Unasked s₀ s) (hpart : u.part = s.part) (hplan : u.plan = s.plan) (hbook : u.book.records = s.book.records)
    (hbays : u.bays = s.bays) (hshare : u.feed.share = s.feed.share)
    (hholder : u.boost.converter.holder = s.boost.converter.holder) : Unasked s₀ u :=
  h.congr hpart hplan (by rw [hbook]) (fun b => by rw [State.bay, State.bay, hbays]) hshare hholder

theorem unasked_apart : KeptApart (Unasked s₀) where
  aside _ _ _ _ _ h := h.aside rfl rfl rfl rfl rfl rfl
  request _ h := h.asked rfl rfl
  enterBay b n s h := h.asked (by simp) (by rw [State.enterBay_eq])
  putBay b x s hx h := by
    refine h.congr rfl rfl rfl (fun d => ?_) rfl rfl
    rw [State.setBay_bay]
    split
    · next hd => rw [← hd]; exact hx.code
    · rfl
  edit id f s hf h := by
    obtain hstate | hasked := hf.state
    · refine h.congr rfl rfl ?_ (fun _ => rfl) rfl rfl
      rw [State.updateRecord_book, List.map_map]
      refine List.map_congr_left fun r _ => ?_
      simp only [Function.comp]
      split
      · rw [(hf.made r).1, hstate r]
      · rfl
    · exact h.asked rfl (by rw [State.updateRecord_plan, ← hasked])
  drop _ _ _ _ _ h := h.asked rfl rfl
  unknown _ h := h.aside rfl rfl rfl rfl rfl rfl
  endGrant c s _ h := by
    cases hh : s.boost.converter.holder with
    | none => simpa [State.endGrant, hh] using h
    | some d => exact h.asked (by simp) (by rw [State.endGrant_eq c hh])
  fault _ hh h := h.aside rfl rfl rfl rfl rfl hh.symm
  renew _ _ _ _ hc h := h.aside rfl rfl rfl rfl rfl (by rw [hc]; rfl)
  decide s hc h := by
    have hnone : s.boost.converter.holder = none := by obtain hc | ⟨n, hc⟩ := hc <;> rw [hc] <;> rfl
    unfold State.decideGrant
    split
    · exact h.asked rfl rfl
    · exact h.aside rfl rfl rfl rfl rfl hnone.symm
  reshare f s hf h := by
    rw [State.reshare]
    obtain ⟨-, heq⟩ | ⟨-, heq⟩ | ⟨-, heq⟩ := State.recomputeShare_cases { s with feed := f }
    · rw [heq]; exact h.aside rfl rfl rfl rfl hf.share rfl
    · rw [heq]; exact h.asked rfl rfl
    · obtain ⟨v, hclamp, -⟩ := State.clampShare_eq f.share (f.shareNow s.cfg)
        { s with feed := { f with share := f.shareNow s.cfg } }
      rw [heq.trans hclamp]
      exact h.asked rfl rfl
  claimTimer _ _ h := h.aside rfl rfl rfl rfl rfl rfl
  templates _ _ _ h := h.aside rfl rfl rfl rfl rfl rfl
  setSlot _ _ _ _ h := h.aside rfl rfl rfl rfl rfl rfl
  dropped _ h := h.aside rfl rfl rfl rfl rfl rfl

theorem unasked_covers {c : Instr} (hc : c ≠ .passCompletion) : Covers (Unasked s₀) c where
  new _ _ _ _ h := h.asked rfl rfl
  pass h := absurd h hc
  send n _ _ h := unasked_apart.startSend n h
  clear _ m s h := by
    unfold State.clearFlags
    dsimp only
    split
    · exact h.aside rfl rfl rfl rfl rfl rfl
    · exact h.aside rfl rfl rfl rfl rfl rfl
  select _ level s h := by
    rw [State.setSelect_eq]
    exact h.aside rfl rfl rfl rfl rfl rfl
  piece _ _ _ _ _ hpart h := by simp [h.run] at hpart

end

/-- The end of an event in RUN that requested a pass, for any reply (R83, R84). -/
theorem Unasked.passAsked {s u : State} (h : Unasked s u) (hasked : u.plan.requested = true) (hs : s.plan.requested = false)
    (reply : Option BayNo) : PassAsked s (State.finish reply s u) :=
  (State.finish_requested reply hs h.run (h.plan.trans (by rw [hasked]))).2

/-- Settles O14: where no pass is requested each update leaves what the planner works from as it was. -/
theorem changesRequestPlanPass : Obligations.ChangesRequestPlanPass := by
  intro c s t hs hrun hlive hrestart hc he hchanged
  have hstart : Unasked s s.quiet := ⟨hrun, rfl, fun _ => ⟨rfl, fun _ => rfl, rfl, rfl⟩⟩
  obtain ⟨reply, u, hu, rfl⟩ := unasked_apart.kept.rules.exec (unasked_covers hc) (fun _ _ hunset => by simp [hrun] at hunset)
    hlive hrestart hstart he
  cases hasked : u.plan.requested with
  | true => exact hu.passAsked hasked hs.plan.1 reply
  | false =>
    rw [State.finish_none reply hasked] at hchanged
    obtain ⟨hrecords, hcodes, hshare, hholder⟩ := hu.same hasked
    obtain h | ⟨b, h⟩ | h | h := hchanged
    · exact absurd hrecords h
    · exact absurd (hcodes b) h
    · exact absurd hshare h
    · exact absurd hholder h

end Sys2Proof.Machine
end


section
/-! SUPPORT. The idle step: one millisecond of the schedule clock, and the commands that are then due. -/

namespace Sys2Proof.Machine

open Sys2Proof.Machine.Safety

/-! ### The order of the commands due -/

/-- The first member of any group in reach is taken, the other members being left in their groups. -/
theorem takeGroup_spec {gs : List (List Instr)} {k : Nat} (hk : k < gs.length) (hne : ∀ g ∈ gs, g ≠ []) :
    ∃ c rest, takeGroup k gs = some (c, rest) ∧ (∀ g ∈ rest, g ≠ []) ∧ gs.flatten.Perm (c :: rest.flatten) := by
  induction gs generalizing k with
  | nil => simp at hk
  | cons g gs ih =>
    obtain ⟨c, g, rfl⟩ := List.exists_cons_of_ne_nil (hne g (by simp))
    have hgs : ∀ x ∈ gs, x ≠ [] := fun x hx => hne x (by simp [hx])
    cases k with
    | zero =>
      cases g with
      | nil => exact ⟨c, gs, rfl, hgs, by simp⟩
      | cons d g => exact ⟨c, (d :: g) :: gs, rfl, by simpa using hgs, by simp⟩
    | succ k =>
      obtain ⟨d, rest, htake, hrest, hperm⟩ := ih (by simpa using hk) hgs
      refine ⟨d, (c :: g) :: rest, by simp [takeGroup, htake], by simpa using hrest, ?_⟩
      rw [List.flatten_cons, List.flatten_cons]
      exact (hperm.append_left _).trans List.perm_middle

/-- The commands put in the queue are the members of the groups. -/
theorem mergeFree_perm (free : Nat) {fuel : Nat} {gs : List (List Instr)} (hne : ∀ g ∈ gs, g ≠ [])
    (hfuel : (gs.map List.length).sum ≤ fuel) : (mergeFree free fuel gs).Perm gs.flatten := by
  induction fuel generalizing gs with
  | zero =>
    cases gs with
    | nil => exact .refl _
    | cons g gs =>
      have := List.length_pos_iff.2 (hne g (by simp))
      simp only [List.map_cons, List.sum_cons] at hfuel
      omega
  | succ fuel ih =>
    cases gs with
    | nil => exact .refl _
    | cons g gs =>
      generalize hk : (if (g :: gs).length ≤ 1 then 0 else Config.orderChoice (free + fuel) % (g :: gs).length) = k
      have hlt : k < (g :: gs).length := by
        subst hk
        split
        · exact Nat.succ_pos _
        · exact Nat.mod_lt _ (Nat.succ_pos _)
      obtain ⟨c, rest, htake, hrest, hperm⟩ := takeGroup_spec hlt hne
      have hmerge : mergeFree free (fuel + 1) (g :: gs) = c :: mergeFree free fuel rest := by
        rw [mergeFree]
        simp only [hk, htake]
      have hlength := hperm.length_eq
      rw [List.length_flatten, List.length_cons, List.length_flatten] at hlength
      rw [hmerge]
      exact ((ih hrest (by omega)).cons c).trans hperm.symm

theorem mem_whenDue {due : Bool} {i c : Instr} : c ∈ whenDue due i ↔ due = true ∧ c = i := by
  cases due <;> simp [whenDue]

/-! ### The moments at which commands are due -/

theorem Bay.linkDue_iff {x : Bay} : x.linkDue = true ↔ 3000 ≤ x.reportAge ∧ ∀ c, x.state ≠ .off c := by
  unfold Bay.linkDue linkLossMillis
  cases x.state <;> simp

theorem Bay.dataDue_iff {x : Bay} :
    x.dataDue = true ↔ x.dataTimer = some 0 ∧ x.state ∈ [.checking, .stock, .held, .ready] := by
  unfold Bay.dataDue
  cases x.state <;> simp [BayState.accepted]

theorem Bay.handoverDue_iff {x : Bay} :
    x.handoverDue = true ↔ x.state = .opened ∧ x.handover.map (·.timer) = some 0 := by
  unfold Bay.handoverDue
  cases x.handover <;> simp

theorem Bay.ajarDue_iff {x : Bay} : x.ajarDue = true ↔ x.state = .ajar ∧ x.handover.map (·.timer) = some 0 := by
  unfold Bay.ajarDue
  cases x.handover <;> simp

theorem Slot.discardDue_iff {x : Slot} :
    x.discardDue = true ↔ x.state = .lost 0 ∨ x.state = .none 0 ∨ ∃ id off k, x.state = .won id off k 0 := by
  unfold Slot.discardDue
  cases x.state <;> simp

theorem Reservation.expiryDue_iff {cfg : Setup} {now : Nat} {r : Reservation} :
    r.expiryDue cfg now = true ↔ r.expiry cfg ≤ now ∧ r.atDoor = false := by
  simp [Reservation.expiryDue]

theorem mem_slotDue {s : State} {i : SlotNo} {c : Instr} : c ∈ (s.slotDue i).flatten ↔
    (∃ x, s.asks.slots[i] = some x ∧ x.bidDue = true ∧ c = .bidWindowEnd i) ∨
      ∃ x, s.asks.slots[i] = some x ∧ x.discardDue = true ∧ c = .discardTimerExpiry i := by
  unfold State.slotDue
  cases s.asks.slots[i] <;> simp [mem_whenDue]

theorem mem_flatten_flatMap {α β : Type} {l : List α} {f : α → List (List β)} {c : β} :
    c ∈ (l.flatMap f).flatten ↔ ∃ a ∈ l, c ∈ (f a).flatten := by
  simp only [List.mem_flatten, List.mem_flatMap]
  exact ⟨fun ⟨g, ⟨a, ha, hg⟩, hc⟩ => ⟨a, ha, g, hg, hc⟩, fun ⟨a, ha, g, hg, hc⟩ => ⟨g, ⟨a, ha, hg⟩, hc⟩⟩

theorem State.contextDue_iff {s : State} {st : Station} :
    s.contextDue st = true ↔ s.ts.contexts[st].map (·.timer) = some 0 := by
  unfold State.contextDue
  cases s.ts.contexts[st] <;> simp [Context.due]

theorem Planner.passDue_iff {p : Planner} : p.passDue = true ↔ ∃ x, p.pass = some x ∧ 50 ≤ x.age := by
  unfold Planner.passDue
  cases p.pass <;> simp [passMillis]

theorem mem_instantsDue {s : State} {c : Instr} : c ∈ s.instantsDue ↔
    ∃ i x, s.ts.slots[i] = some x ∧ x.passed ≠ none ∧ c = .templateInstant i := by
  simp only [State.instantsDue, allTemplates, List.mem_map, List.mem_filter, List.mem_finRange, true_and]
  constructor
  · rintro ⟨i, hi, rfl⟩
    cases hx : s.ts.slots[i] with
    | none => simp [hx] at hi
    | some x => exact ⟨i, x, hx, by simpa [hx, Option.isSome_iff_ne_none] using hi, rfl⟩
  · rintro ⟨i, x, hx, hp, rfl⟩
    exact ⟨i, by simpa [hx, Option.isSome_iff_ne_none] using hp, rfl⟩

theorem mem_expiriesDue {s : State} {c : Instr} : c ∈ s.expiriesDue ↔
    ∃ r ∈ s.book.records, r.expiry s.cfg ≤ s.clock.seconds ∧ r.atDoor = false ∧ c = .recordExpiry r.id := by
  simp only [State.expiriesDue, List.mem_map, List.mem_filter, Reservation.expiryDue_iff]
  exact ⟨fun ⟨r, ⟨hr, hx, hd⟩, hc⟩ => ⟨r, hr, hx, hd, hc.symm⟩, fun ⟨r, hr, hx, hd, hc⟩ => ⟨r, ⟨hr, hx, hd⟩, hc.symm⟩⟩

/-- The commands of the due groups, group after group. -/
theorem mem_dueGroups {s : State} {c : Instr} : c ∈ s.dueGroups.flatten ↔
    (∃ b, ((s.bay b).linkDue = true ∧ c = .linkLoss b) ∨ ((s.bay b).dataDue = true ∧ c = .dataTimerExpiry b) ∨
      ((s.bay b).handoverDue = true ∧ c = .handoverTimerExpiry b) ∨ ((s.bay b).ajarDue = true ∧ c = .doorAjarTimerExpiry b)) ∨
    (∃ i, (∃ x, s.asks.slots[i] = some x ∧ x.bidDue = true ∧ c = .bidWindowEnd i) ∨
      ∃ x, s.asks.slots[i] = some x ∧ x.discardDue = true ∧ c = .discardTimerExpiry i) ∨
    (∃ p ∈ s.feed.peers, (p.staleDue = true ∧ c = .peerStale p.station) ∨ (p.lostDue = true ∧ c = .peerLost p.station)) ∨
    (∃ st, s.contextDue st = true ∧ c = .templateContextTimeout st) ∨
    c ∈ s.expiriesDue ∨ c ∈ s.instantsDue ∨ (s.ts.rollDue = true ∧ c = .dayRoll) ∨
    (s.plan.period = some 0 ∧ c = .periodTimerExpiry) ∨ (s.plan.passDue = true ∧ c = .passCompletion) ∨
    ((∃ h, s.boost.converter = .granted h 0) ∧ c = .sliceTimerExpiry) ∨
    (s.boost.converter = .switching 0 ∧ c = .switchTimerExpiry) ∨
    ((s.part == .run && s.feed.meterDue) = true ∧ c = .meterLost) ∨ (s.feed.claimTimer = some 0 ∧ c = .claimTimerExpiry) := by
  have hempty : ∀ l : List (List Instr), c ∈ (l.filter (!·.isEmpty)).flatten ↔ c ∈ l.flatten := fun l => by
    simp only [List.mem_flatten, List.mem_filter]
    exact ⟨fun ⟨g, hg, hc⟩ => ⟨g, hg.1, hc⟩, fun ⟨g, hg, hc⟩ => ⟨g, ⟨hg, by cases g <;> simp_all⟩, hc⟩⟩
  have hbays : c ∈ (allBays.flatMap s.bayDue).flatten ↔
      ∃ b, ((s.bay b).linkDue = true ∧ c = .linkLoss b) ∨ ((s.bay b).dataDue = true ∧ c = .dataTimerExpiry b) ∨
        ((s.bay b).handoverDue = true ∧ c = .handoverTimerExpiry b) ∨
        ((s.bay b).ajarDue = true ∧ c = .doorAjarTimerExpiry b) := by
    rw [mem_flatten_flatMap]
    simp [State.bayDue, allBays, mem_whenDue]
  have hslots : c ∈ (allSlots.flatMap s.slotDue).flatten ↔
      ∃ i, (∃ x, s.asks.slots[i] = some x ∧ x.bidDue = true ∧ c = .bidWindowEnd i) ∨
        ∃ x, s.asks.slots[i] = some x ∧ x.discardDue = true ∧ c = .discardTimerExpiry i := by
    rw [mem_flatten_flatMap]
    simp only [allSlots, List.mem_finRange, true_and, mem_slotDue]
  have hpeers : c ∈ (s.feed.peers.flatMap Peer.due).flatten ↔ ∃ p ∈ s.feed.peers,
      (p.staleDue = true ∧ c = .peerStale p.station) ∨ (p.lostDue = true ∧ c = .peerLost p.station) := by
    rw [mem_flatten_flatMap]
    simp [Peer.due, mem_whenDue]
  have hcontexts : c ∈ ((List.finRange 16).map fun st => whenDue (s.contextDue st) (.templateContextTimeout st)).flatten ↔
      ∃ st, s.contextDue st = true ∧ c = .templateContextTimeout st := by
    simp [mem_whenDue]
  unfold State.dueGroups
  rw [hempty]
  simp only [List.flatten_append, List.mem_append, List.flatten_cons, List.flatten_nil, List.append_nil, mem_whenDue,
    beq_iff_eq, or_assoc, hbays, hslots, hpeers, hcontexts]
  cases s.boost.converter with
  | granted h m => cases m <;> simp
  | switching m => cases m <;> simp
  | idle => simp
  | faulted => simp

/-- The commands of the due groups are those whose moment has come. -/
theorem mem_dueGroups_iff_dueNow {s : State} {c : Instr} : c ∈ s.dueGroups.flatten ↔ DueNow s c := by
  rw [mem_dueGroups]
  cases c with
  | linkLoss b => simp [DueNow, mem_instantsDue, mem_expiriesDue, Bay.linkDue_iff]
  | dataTimerExpiry b => simp [DueNow, mem_instantsDue, mem_expiriesDue, Bay.dataDue_iff]
  | handoverTimerExpiry b => simp [DueNow, mem_instantsDue, mem_expiriesDue, Bay.handoverDue_iff]
  | doorAjarTimerExpiry b => simp [DueNow, mem_instantsDue, mem_expiriesDue, Bay.ajarDue_iff]
  | bidWindowEnd i => simp [DueNow, mem_instantsDue, mem_expiriesDue, Slot.bidDue]
  | discardTimerExpiry i => simp [DueNow, mem_instantsDue, mem_expiriesDue, Slot.discardDue_iff]
  | recordExpiry id => simp [DueNow, mem_instantsDue, mem_expiriesDue, eq_comm (a := id), and_comm, and_left_comm, and_assoc]
  | periodTimerExpiry => simp [DueNow, mem_instantsDue, mem_expiriesDue]
  | passCompletion => simp [DueNow, mem_instantsDue, mem_expiriesDue, Planner.passDue_iff]
  | sliceTimerExpiry => simp [DueNow, mem_instantsDue, mem_expiriesDue]
  | switchTimerExpiry => simp [DueNow, mem_instantsDue, mem_expiriesDue]
  | meterLost => simp [DueNow, mem_instantsDue, mem_expiriesDue, Feed.meterDue, meterMillis]
  | peerStale st => simp [DueNow, mem_instantsDue, mem_expiriesDue, Peer.staleDue, eq_comm (a := st), and_comm]
  | peerLost st => simp [DueNow, mem_instantsDue, mem_expiriesDue, Peer.lostDue, eq_comm (a := st), and_comm]
  | claimTimerExpiry => simp [DueNow, mem_instantsDue, mem_expiriesDue]
  | templateContextTimeout st => simp [DueNow, mem_instantsDue, mem_expiriesDue, State.contextDue_iff]
  | templateInstant i => simp [DueNow, mem_instantsDue, mem_expiriesDue]
  | dayRoll => simp [DueNow, mem_instantsDue, mem_expiriesDue]
  | _ => simp [DueNow, mem_instantsDue, mem_expiriesDue]

/-- The queue after an idle millisecond holds just the commands whose moment has come. -/
theorem State.tick_pending {s : State} (hr : s.pins.restart = false) (c : Instr) :
    c ∈ s.tick.pending ↔ DueNow s.tick c := by
  have heq : s.tick = { s.quiet.advance with
      pending := s.tick.pending, free := s.tick.free } := by simp [State.tick, hr]
  have hgroups : s.tick.dueGroups = s.quiet.advance.dueGroups := by rw [heq]; rfl
  have hpend : s.tick.pending.Perm s.quiet.advance.dueGroups.flatten := by
    simp only [State.tick, hr, Bool.false_eq_true, if_false]
    refine mergeFree_perm _ (fun g hg => ?_) (le_refl _)
    have := (List.mem_filter.1 hg).2
    simpa using this
  rw [hpend.mem_iff, ← hgroups, mem_dueGroups_iff_dueNow]

/-! ### The points of the day clock -/

/-- The store as the clock has just counted: the points of the day clock passed at a full second (R156). -/
theorem State.advance_run {s : State} (hp : s.part = .run) : s.advance = { s with
    clock := s.clock.tick, bays := Vector.ofFn fun i => (s.bays[i]).tick
    asks := s.asks.tick, plan := s.plan.tick, boost.converter := s.boost.converter.tick, feed := s.feed.tick
    ts := match s.ts.dayOffset with
      | some o => if s.clock.tick.millis = 0 then s.ts.tick.reach s.cfg (s.clock.tick.seconds + o) else s.ts.tick
      | none => s.ts.tick } := by
  unfold State.advance
  simp only [hp]
  cases ho : s.ts.dayOffset with
  | none => simp [State.reachSecond, State.localSecond, TemplateStore.tick, ho]
  | some o =>
    dsimp only
    split <;> simp [State.reachSecond, State.localSecond, TemplateStore.tick, ho]

/-- The clock counts to a template's instant exactly when the time of day is the window's opening less the lead. -/
theorem timeOfDay_eq_instant {cfg : Setup} {l : Int} {x : Template} :
    timeOfDay l = x.instant cfg ↔ (l - ((x.todOpen : Int) - cfg.templateLead)) % 86400 = 0 := by
  unfold timeOfDay Template.instant daySeconds
  omega

theorem timeOfDay_eq_zero {l : Int} : timeOfDay l = 0 ↔ l % 86400 = 0 := by
  unfold timeOfDay daySeconds
  omega

theorem Template.reach_eq {cfg : Setup} {l : Int} {x : Template} : x.reach cfg l =
    { x with passed := if (l - ((x.todOpen : Int) - cfg.templateLead)) % 86400 = 0 then some (l / 86400) else x.passed } := by
  simp only [Template.reach, timeOfDay_eq_instant, dayNumber, daySeconds, Nat.cast_ofNat]
  split <;> rfl

theorem Clock.tick_eq (c : Clock) :
    c.tick = if c.millis < 999 then ⟨c.seconds, c.millis + 1⟩ else ⟨(c.seconds + 1) % 4294967296, 0⟩ := by
  unfold Clock.tick
  by_cases h : c.millis < 999
  · rw [if_neg (by omega), if_pos h]
  · rw [if_pos (by omega), if_neg h]
    rfl

/-- The store as the points of the day clock are passed at a moment of a full second (R156). -/
theorem TemplateStore.reach_tick {ts : TemplateStore} {cfg : Setup} {t : State}
    (h : t.ts = match ts.dayOffset with
      | some o => if t.clock.millis = 0 then ts.tick.reach cfg (t.clock.seconds + o) else ts.tick
      | none => ts.tick) :
    (∀ st : Station, t.ts.contexts[st] = (ts.contexts[st]).map fun c => { c with timer := c.timer - 1 }) ∧
    t.ts.dayOffset = ts.dayOffset ∧
    (∀ i : TemplateNo, t.ts.slots[i] = (ts.slots[i]).map fun x =>
      { x with
        passed := if pointPassed t ((x.todOpen : Int) - cfg.templateLead) = true then
          t.ts.dayOffset.map fun o => ((t.clock.seconds : Int) + o) / 86400 else x.passed }) ∧
    t.ts.rollDue = (ts.rollDue || pointPassed t 0) := by
  have hoffset : t.ts.dayOffset = ts.dayOffset := by
    rw [h]
    split
    · split <;> rfl
    · rfl
  refine ⟨fun st => ?_, hoffset, fun i => ?_, ?_⟩
  · rw [h]
    split
    · split <;> simp [TemplateStore.reach, TemplateStore.tick]
    · simp [TemplateStore.tick]
  · simp only [pointPassed, hoffset]
    rw [h]
    cases ho : ts.dayOffset with
    | none => simp [TemplateStore.tick]
    | some o =>
      by_cases hm : t.clock.millis = 0
      · simp only [hm, TemplateStore.reach, TemplateStore.tick, Fin.getElem_fin, Vector.getElem_ofFn, if_true]
        refine congrArg (Option.map · _) (funext fun x => ?_)
        simp [Template.reach_eq]
      · simp [hm, TemplateStore.tick]
  · simp only [pointPassed, hoffset]
    rw [h]
    cases ho : ts.dayOffset with
    | none => simp [TemplateStore.tick]
    | some o =>
      by_cases hm : t.clock.millis = 0
      · simp [hm, TemplateStore.reach, TemplateStore.tick, Bool.beq_eq_decide_eq, timeOfDay_eq_zero]
      · simp [hm, TemplateStore.tick]

/-- Settles O2: the millisecond itself block by block, and the commands then due as the members of the due groups. -/
theorem idleStepIsOneMillisecond : Obligations.IdleStepIsOneMillisecond := by
  intro s hpend hr
  have htick : step s = .next s.tick := by simp [step, hpend]
  have heq : s.tick = { s.quiet.advance with pending := s.tick.pending, free := s.tick.free } := by simp [State.tick, hr]
  obtain ⟨asks, plan, boost, feed, ts, hadv, hunset, -⟩ := s.quiet.advance_eq
  have hclock : s.tick.clock = s.clock.tick := by rw [heq, hadv]; rfl
  refine ⟨s.tick, htick, ?_, hclock.trans s.clock.tick_eq, fun b => ?_, fun hp => ?_, fun hp => ?_, s.tick_pending hr⟩
  · rw [heq, hadv]
    rfl
  · rw [heq, hadv]
    simp [State.bay, State.quiet, Bay.tick, countAge, countDown]
  · obtain ⟨rfl, rfl, rfl, rfl, rfl⟩ := hunset hp
    rw [heq, hadv]
    exact ⟨rfl, rfl, rfl, rfl, rfl⟩
  · have hrun : s.quiet.advance = _ := State.advance_run hp
    have hasks : s.tick.asks = s.asks.tick := by rw [heq, hrun]; rfl
    have hplan : s.tick.plan = s.plan.tick := by rw [heq, hrun]; rfl
    have hboost : s.tick.boost = { s.boost with converter := s.boost.converter.tick } := by rw [heq, hrun]; rfl
    have hfeed : s.tick.feed = s.feed.tick := by rw [heq, hrun]; rfl
    have hts : s.tick.ts = match s.ts.dayOffset with
        | some o => if s.tick.clock.millis = 0 then s.ts.tick.reach s.cfg (s.tick.clock.seconds + o) else s.ts.tick
        | none => s.ts.tick := by
      rw [hclock, heq, hrun]
      rfl
    refine ⟨fun i => ?_, ?_, ?_, ?_, ?_, TemplateStore.reach_tick hts⟩
    · rw [hasks]
      simp only [AskTable.tick, Fin.getElem_fin, Vector.getElem_ofFn]
      cases s.asks.slots[i] with
      | none => rfl
      | some x => cases hx : x.state <;> simp [hx, SlotState.tick]
    · rw [hasks]
      rfl
    · rw [hplan]
      rfl
    · rw [hboost]
      cases s.boost.converter <;> rfl
    · rw [hfeed]
      rfl

end Sys2Proof.Machine
end


section
/-! SUPPORT. The estimate and the power cap (R25 to R32), and how they move with their inputs (R35). -/

namespace Sys2Proof.Machine

open Sys2Proof.Machine.Safety

/-! ### Rounding -/

theorem ceilDiv_mono {a a' d d' : Nat} (ha : a' ≤ a) (hd : 0 < d) (hdd : d ≤ d') : ceilDiv a' d' ≤ ceilDiv a d := by
  have hceil : ∀ {x y : Nat}, 0 < y → ceilDiv x y = (x + (y - 1)) / y := fun hy => by
    unfold ceilDiv
    rw [Nat.add_sub_assoc hy]
  rw [hceil hd, hceil (by omega), Nat.div_le_iff_le_mul (by omega)]
  have hdiv := Nat.div_add_mod (a + (d - 1)) d
  have hmod := Nat.mod_lt (a + (d - 1)) hd
  have hscale : d * ((a + (d - 1)) / d) ≤ (a + (d - 1)) / d * d' := by
    rw [Nat.mul_comm]
    exact Nat.mul_le_mul_left _ hdd
  omega

theorem ceilDiv_pos {a d : Nat} (ha : 0 < a) (hd : 0 < d) : 0 < ceilDiv a d := by
  unfold ceilDiv
  exact Nat.div_pos (by omega) hd

theorem ceilDiv_zero (d : Nat) : ceilDiv 0 d = 0 := by
  unfold ceilDiv
  rcases Nat.eq_zero_or_pos d with rfl | hd
  · rfl
  · exact Nat.div_eq_of_lt (by omega)

theorem roundTen_mono {p q : Nat} (h : p ≤ q) : roundTen p ≤ roundTen q := by
  unfold roundTen
  omega

/-! ### Bands -/

theorem bandPower_mono {l l' k k' x x' : Nat} (hl : l ≤ l') (hk : k ≤ k') (hx : x ≤ x') :
    bandPower l k x ≤ bandPower l' k' x' := by
  unfold bandPower
  exact Nat.div_le_div_right (Nat.mul_le_mul (Nat.mul_le_mul hl hk) hx)

theorem tempFactor_pos {t : Int} (h : tempFactor t ≠ 0) : 200 ≤ tempFactor t := by
  unfold tempFactor at *
  split_ifs at h ⊢ <;> omega

theorem band_taper {b : Band} (hb : b ∈ bands) : 200 ≤ b.taper := by
  have : ∀ b ∈ bands, 200 ≤ b.taper := by decide
  exact this b hb

theorem bandPower_pos {l : Nat} {t : Int} {b : Band} (hl : 1200 ≤ l) (ht : tempFactor t ≠ 0) (hb : b ∈ bands) :
    0 < bandPower l (tempFactor t) b.taper :=
  calc 0 < bandPower 1200 200 200 := by decide
    _ ≤ _ := bandPower_mono hl (tempFactor_pos ht) (band_taper hb)

theorem pieceSeconds_mono {l l' k k' c c' x w w' : Nat} (hl : l ≤ l') (hk : k ≤ k') (hc : c' ≤ c) (hw : w' ≤ w)
    (hp : 0 < bandPower l k x) : pieceSeconds l' k' c' x w' ≤ pieceSeconds l k c x w :=
  ceilDiv_mono (Nat.mul_le_mul_right _ (ceilDiv_mono (Nat.mul_le_mul hw hc) (by omega) (le_refl _))) hp
    (bandPower_mono hl hk (le_refl _))

/-- A band outside a soc range brings the piece of width 0, and so no branch is needed. -/
theorem bandSeconds_eq (l k c s t : Nat) (b : Band) :
    bandSeconds l k c s t b = pieceSeconds l k c b.taper (min t b.hi - max s b.lo) := by
  unfold bandSeconds
  dsimp only
  split
  · rfl
  · rw [Nat.sub_eq_zero_of_le (by omega)]
    simp [pieceSeconds, ceilDiv_zero]

theorem bandSeconds_outside {l k c s t : Nat} {b : Band} (h : t ≤ b.lo ∨ b.hi ≤ s ∨ t ≤ s) : bandSeconds l k c s t b = 0 := by
  unfold bandSeconds
  exact if_neg (by omega)

theorem bandSeconds_mono {l l' k k' c c' s s' t t' : Nat} {b : Band} (hl : l ≤ l') (hk : k ≤ k') (hc : c' ≤ c) (hs : s ≤ s')
    (ht : t' ≤ t) (hp : 0 < bandPower l k b.taper) : bandSeconds l' k' c' s' t' b ≤ bandSeconds l k c s t b := by
  rw [bandSeconds_eq, bandSeconds_eq]
  exact pieceSeconds_mono hl hk hc (by omega) hp

/-- An edge of a band leaves each band on one side of it. -/
theorem bandSeconds_split {l k c s e t : Nat} {b : Band} (hse : s ≤ e) (het : e ≤ t) (h : e ≤ b.lo ∨ b.hi ≤ e) :
    bandSeconds l k c s t b = bandSeconds l k c s e b + bandSeconds l k c e t b := by
  obtain h | h := h
  · rw [bandSeconds_outside (s := s) (t := e) (.inl h), Nat.zero_add]
    unfold bandSeconds
    rw [Nat.max_eq_right (a := s) (by omega), Nat.max_eq_right (a := e) (by omega)]
  · rw [bandSeconds_outside (s := e) (t := t) (.inr (.inl h)), Nat.add_zero]
    unfold bandSeconds
    rw [Nat.min_eq_right (a := t) (by omega), Nat.min_eq_right (a := e) (by omega)]

/-- The seconds of all bands together, before the limit of R30. -/
def rawSeconds (l k c s t : Nat) : Nat := (bands.map (bandSeconds l k c s t)).sum

theorem rawSeconds_mono {l l' c c' s s' t t' : Nat} {x x' : Int} (hl1 : 1200 ≤ l) (hl : l ≤ l') (h0 : tempFactor x ≠ 0)
    (hk : tempFactor x ≤ tempFactor x') (hc : c' ≤ c) (hs : s ≤ s') (ht : t' ≤ t) :
    rawSeconds l' (tempFactor x') c' s' t' ≤ rawSeconds l (tempFactor x) c s t :=
  List.sum_le_sum fun _ hb => bandSeconds_mono hl hk hc hs ht (bandPower_pos hl1 h0 hb)

theorem rawSeconds_split {l k c s e t : Nat} (he : e ∈ [800, 850, 900, 950]) (hse : s ≤ e) (het : e ≤ t) :
    rawSeconds l k c s t = rawSeconds l k c s e + rawSeconds l k c e t := by
  have hedge : ∀ e ∈ [800, 850, 900, 950], ∀ b ∈ bands, e ≤ b.lo ∨ b.hi ≤ e := by decide
  unfold rawSeconds
  rw [← List.sum_map_add]
  exact congrArg _ (List.map_congr_left fun b hb => bandSeconds_split hse het (hedge e he b hb))

/-- Within one band the seconds are those of one piece. -/
theorem rawSeconds_within {l k c s t : Nat} {b : Band} (hb : b ∈ bands) (hs : b.lo ≤ s) (ht : t ≤ b.hi) :
    rawSeconds l k c s t = pieceSeconds l k c b.taper (t - s) := by
  have hapart : ∀ b ∈ bands, bands.count b = 1 ∧ ∀ x ∈ bands, x ≠ b → x.hi ≤ b.lo ∨ b.hi ≤ x.lo := by decide
  obtain ⟨hone, hothers⟩ := hapart b hb
  unfold rawSeconds
  rw [List.sum_map_eq_nsmul_single b _ fun x hne hx => bandSeconds_outside (by have := hothers x hx hne; omega), hone, one_smul,
    bandSeconds_eq, Nat.min_eq_left ht, Nat.max_eq_left hs]

/-- Any soc below 1000 lies in a band. -/
theorem exists_band {s : Nat} (hs : s < 1000) : ∃ b ∈ bands, b.lo ≤ s ∧ s < b.hi := by
  simp only [bands, List.mem_cons, List.not_mem_nil, or_false, exists_eq_or_imp, exists_eq_left]
  omega

theorem rawSeconds_pos {l c s t : Nat} {x : Int} (hl : 1200 ≤ l) (hx : tempFactor x ≠ 0) (hc : 0 < c) (hs : s < t)
    (ht : t ≤ 1000) : 0 < rawSeconds l (tempFactor x) c s t := by
  obtain ⟨b, hb, hlo, hhi⟩ := exists_band (s := s) (by omega)
  have hpiece : 0 < bandSeconds l (tempFactor x) c s t b := by
    rw [bandSeconds_eq]
    refine ceilDiv_pos (Nat.mul_pos (ceilDiv_pos (Nat.mul_pos (by omega) hc) (by omega)) (by omega)) ?_
    exact bandPower_pos hl hx hb
  exact hpiece.trans_le (List.single_le_sum (by simp) _ (List.mem_map_of_mem hb))

/-! ### The estimate -/

theorem estimate_reached {s t k h l : Nat} {x : Int} (hst : t ≤ s) : estimate s t k h x l = 0 := if_pos hst

theorem estimate_dead {s t k h l : Nat} {x : Int} (hst : s < t) (h0 : k * h / 1000 = 0 ∨ tempFactor x = 0) :
    estimate s t k h x l = 65535 := by
  unfold estimate effectiveCapacity beyondHorizon
  rw [if_neg (by omega)]
  obtain h0 | h0 := h0 <;> simp [h0]

theorem estimate_live {s t k h l : Nat} {x : Int} (hst : s < t) (hc : k * h / 1000 ≠ 0) (hx : tempFactor x ≠ 0) :
    estimate s t k h x l = min 65535 (rawSeconds l (tempFactor x) (k * h / 1000) s t) := by
  unfold estimate effectiveCapacity beyondHorizon
  simp only [hc, hx, if_false]
  exact if_neg (by omega)

theorem estimate_limited (s t k h l : Nat) (x : Int) : estimate s t k h x l ≤ 65535 := by
  unfold estimate beyondHorizon
  dsimp only
  split
  · omega
  · split
    · omega
    · split <;> omega

/-- R35: the estimate falls or stays as the soc rises, the target falls, the effective capacity falls without reaching 0,
the temperature factor rises or the stage limit rises. -/
theorem estimate_mono {s s' t t' k h h' l l' : Nat} {x x' : Int} (hl1 : 1200 ≤ l) (hl : l ≤ l') (hs : s ≤ s') (ht : t' ≤ t)
    (hc : k * h' / 1000 ≤ k * h / 1000) (hc0 : k * h' / 1000 = 0 → k * h / 1000 = 0)
    (hx : tempFactor x ≤ tempFactor x') : estimate s' t' k h' x' l' ≤ estimate s t k h x l := by
  by_cases hst' : t' ≤ s'
  · rw [estimate_reached hst']
    exact Nat.zero_le _
  by_cases hdead : k * h / 1000 = 0 ∨ tempFactor x = 0
  · rw [estimate_dead (by omega) hdead]
    exact estimate_limited _ _ _ _ _ _
  · obtain ⟨hcap, hk⟩ := not_or.1 hdead
    rw [estimate_live (by omega) (fun h0 => hcap (hc0 h0)) (by omega), estimate_live (by omega) hcap hk]
    exact min_le_min_left _ (rawSeconds_mono hl1 hl hk hx hc hs ht)

theorem estimate_eq_zero {s t k h l : Nat} {x : Int} (hl : 1200 ≤ l) (ht : t ≤ 1000) :
    estimate s t k h x l = 0 ↔ t ≤ s := by
  refine ⟨fun h0 => ?_, estimate_reached⟩
  by_contra hst
  by_cases hdead : k * h / 1000 = 0 ∨ tempFactor x = 0
  · rw [estimate_dead (by omega) hdead] at h0
    omega
  · obtain ⟨hcap, hk⟩ := not_or.1 hdead
    rw [estimate_live (by omega) hcap hk] at h0
    have := rawSeconds_pos hl hk (c := k * h / 1000) (s := s) (by omega) (by omega) ht
    omega

theorem estimate_split {s e t k h l : Nat} {x : Int} (he : e ∈ [800, 850, 900, 950]) (hse : s < e) (het : e < t) :
    estimate s t k h x l = min 65535 (estimate s e k h x l + estimate e t k h x l) := by
  by_cases hdead : k * h / 1000 = 0 ∨ tempFactor x = 0
  · rw [estimate_dead (by omega) hdead, estimate_dead hse hdead, estimate_dead het hdead]
    rfl
  · obtain ⟨hcap, hk⟩ := not_or.1 hdead
    rw [estimate_live (by omega) hcap hk, estimate_live hse hcap hk, estimate_live het hcap hk,
      rawSeconds_split he hse.le het.le]
    omega

/-! ### The cap -/

theorem taperAt_of_band {b : Band} {s : Nat} (hb : b ∈ bands) (hlo : b.lo ≤ s) (hhi : s < b.hi) : taperAt s = b.taper := by
  have hapart : ∀ b ∈ bands, ∀ x ∈ bands, x = b ∨ x.hi ≤ b.lo ∨ b.hi ≤ x.lo := by decide
  unfold taperAt
  split
  · next x hx =>
    have hin := List.find?_some hx
    obtain rfl | h := hapart b hb x (List.mem_of_find?_eq_some hx)
    · rfl
    · simp only [Bool.and_eq_true, decide_eq_true_eq] at hin
      omega
  · next hnone =>
    have := List.find?_eq_none.1 hnone b hb
    simp [hlo, hhi] at this

theorem taperAt_full {s : Nat} (hs : 1000 ≤ s) : taperAt s = 0 := by
  have htop : ∀ b ∈ bands, b.hi ≤ 1000 := by decide
  unfold taperAt
  split
  · next x hx =>
    have hin := List.find?_some hx
    have := htop x (List.mem_of_find?_eq_some hx)
    simp only [Bool.and_eq_true, decide_eq_true_eq] at hin
    omega
  · rfl

theorem taperAt_anti {s s' : Nat} (h : s ≤ s') : taperAt s' ≤ taperAt s := by
  by_cases hfull : 1000 ≤ s'
  · rw [taperAt_full hfull]
    exact Nat.zero_le _
  · obtain ⟨b, hb, hlo, hhi⟩ := exists_band (s := s) (by omega)
    obtain ⟨x, hx, hlo', hhi'⟩ := exists_band (s := s') (by omega)
    rw [taperAt_of_band hb hlo hhi, taperAt_of_band hx hlo' hhi']
    have hdown : ∀ b ∈ bands, ∀ x ∈ bands, b.taper < x.taper → x.hi ≤ b.lo := by decide
    by_contra hlt
    have := hdown b hb x hx (by omega)
    omega

/-- Whether a bay with a pack takes charge at all: it is chargeable, and its pack is not HELD at the target (R32). -/
def takesCharge (cfg : Setup) (target : Nat) (b : Bay) (p : Pack) : Prop :=
  b.chargeable cfg = true ∧ ¬ (b.state = .held ∧ target ≤ p.soc)

theorem capAt_none {cfg : Setup} {l target : Nat} {b : Bay} {p : Pack} (hp : b.pack = some p)
    (h : ¬ takesCharge cfg target b p) : capAt cfg l target b = 0 := by
  unfold capAt
  unfold takesCharge at h
  by_cases hc : b.chargeable cfg = true
  · have : b.state = .held ∧ target ≤ p.soc := by tauto
    simp [hc, hp, this]
  · simp [hc]

theorem capAt_some {cfg : Setup} {l target : Nat} {b : Bay} {p : Pack} (hp : b.pack = some p)
    (h : takesCharge cfg target b p) :
    capAt cfg l target b = roundTen (bandPower l (tempFactor p.temperature) (taperAt p.soc)) := by
  obtain ⟨hc, hheld⟩ := h
  unfold capAt
  simp only [hc, hp, Bool.not_true, Bool.false_eq_true, if_false]
  exact if_neg hheld

/-- R35 for the cap: it rises or stays with the stage limit and the temperature factor, and falls or stays as the soc
rises. -/
theorem capAt_mono {cfg : Setup} {l l' target : Nat} {b b' : Bay} {p p' : Pack} (hp : b.pack = some p)
    (hp' : b'.pack = some p') (hl : l ≤ l') (hx : tempFactor p.temperature ≤ tempFactor p'.temperature)
    (hsoc : p'.soc ≤ p.soc) (htake : takesCharge cfg target b p → takesCharge cfg target b' p') :
    capAt cfg l target b ≤ capAt cfg l' target b' := by
  by_cases h : takesCharge cfg target b p
  · rw [capAt_some hp h, capAt_some hp' (htake h)]
    exact roundTen_mono (bandPower_mono hl hx (taperAt_anti hsoc))
  · rw [capAt_none hp h]
    exact Nat.zero_le _

/-- A lower soc leaves a pack able to take charge. -/
theorem takesCharge_anti {cfg : Setup} {target : Nat} {b b' : Bay} {p p' : Pack} (hp : b.pack = some p)
    (hp' : b'.pack = some p') (hstate : b'.state = b.state) (hret : p'.retired = p.retired) (hsoc : p'.soc ≤ p.soc)
    (h : takesCharge cfg target b p) : takesCharge cfg target b' p' := by
  obtain ⟨hc, hheld⟩ := h
  refine ⟨?_, fun ⟨hst, hle⟩ => hheld ⟨hstate ▸ hst, by omega⟩⟩
  unfold Bay.chargeable at *
  rw [hstate]
  cases hst : b.state <;> simp_all [Pack.chargeable]
  omega

/-- Settles O16: the estimate by `estimate_mono`, `estimate_split` and `rawSeconds_within`, the cap by `capAt_mono`. -/
theorem estimateFollowsItsInputs : Obligations.EstimateFollowsItsInputs := by
  intro soc soc' target target' k health health' temp temp' cfg b p hsoc hsoc' htarget htarget' hhealth _ htemp hp whole bayAt
  have hcap : k * health' / 1000 ≤ k * health / 1000 := Nat.div_le_div_right (Nat.mul_le_mul_left _ hhealth)
  refine ⟨fun l hl => ?_, estimate_mono (by omega) (by omega) (le_refl _) (le_refl _) (le_refl _) id (le_refl _),
    capAt_mono hp hp (by omega) (le_refl _) (le_refl _) id, ?_⟩
  · have hl1 : 1200 ≤ l := by
      have : ∀ l ∈ [1200, 4000], 1200 ≤ l := by decide
      exact this l hl
    refine ⟨estimate_mono hl1 (le_refl _) hsoc (le_refl _) (le_refl _) id (le_refl _),
      estimate_mono hl1 (le_refl _) (le_refl _) htarget (le_refl _) id (le_refl _),
      fun h0 => estimate_mono hl1 (le_refl _) (le_refl _) (le_refl _) hcap (fun h => absurd h h0) (le_refl _),
      estimate_mono hl1 (le_refl _) (le_refl _) (le_refl _) (le_refl _) id htemp,
      estimate_eq_zero hl1 (by omega), estimate_dead, fun e he hse het => estimate_split he hse het,
      fun x hx hlo hst hhi hc hk => ?_, fun h => ?_, fun x hx hlo hhi hc hheld => ?_, ?_, ?_, ?_, fun hst => ?_⟩
    · have hband : ∀ x ∈ bandTable, (⟨x.1, x.2.1, x.2.2⟩ : Band) ∈ bands := by decide
      rw [estimate_live hst hc hk, rawSeconds_within (hband x hx) hlo hhi]
      rfl
    · exact capAt_none hp (by unfold takesCharge; rcases h with h | h <;> simp [h])
    · have hband : ∀ x ∈ bandTable, (⟨x.1, x.2.1, x.2.2⟩ : Band) ∈ bands := by decide
      rw [capAt_some hp ⟨hc, hheld⟩, taperAt_of_band (hband x hx) hlo hhi]
      rfl
    · exact capAt_mono rfl rfl (le_refl _) (le_refl _) hsoc (takesCharge_anti rfl rfl rfl rfl hsoc)
    · exact capAt_mono rfl rfl (le_refl _) htemp (le_refl _) (takesCharge_anti rfl rfl rfl rfl (le_refl _))
    · exact le_antisymm (capAt_mono rfl rfl (le_refl _) (le_refl _) (le_refl _) (takesCharge_anti rfl rfl rfl rfl (le_refl _)))
        (capAt_mono rfl rfl (le_refl _) (le_refl _) (le_refl _) (takesCharge_anti rfl rfl rfl rfl (le_refl _)))
    · have hshort : ∀ n, soc < n → ¬ ((bayAt soc health temp).state = .held ∧ n ≤ soc) := fun n hn h => by omega
      by_cases hc : (bayAt soc health temp).chargeable cfg = true
      · rw [capAt_some rfl ⟨hc, hshort target' (by omega)⟩, capAt_some rfl ⟨hc, hshort target hst⟩]
      · rw [capAt_none rfl fun h => hc h.1, capAt_none rfl fun h => hc h.1]
  · unfold tempFactor
    split_ifs <;> omega

end Sys2Proof.Machine
end


section
/-! SUPPORT. The notices of an event apart from the rest of it: the state after a list of notices, what the operations make
of such a state, and the end of an event that raised them. With this layer an event is worked out on the blocks alone, its
notices being gathered in their order. -/

namespace Sys2Proof.Machine

open Sys2Proof.Machine.Safety

/-! ### A list of notices -/

/-- The state after the notices of a list have been raised one after another. -/
def State.told (ns : List Notice) (s : State) : State := ns.foldl (fun u n => u.raise n) s

@[simp] theorem State.told_nil (s : State) : s.told [] = s := rfl

theorem State.told_cons (n : Notice) (ns : List Notice) (s : State) : s.told (n :: ns) = (s.raise n).told ns := rfl

@[simp] theorem State.told_append (ns ms : List Notice) (s : State) : (s.told ns).told ms = s.told (ns ++ ms) :=
  List.foldl_append.symm

@[simp] theorem State.told_raise (ns : List Notice) (n : Notice) (s : State) : (s.told ns).raise n = s.told (ns ++ [n]) :=
  State.told_append ns [n] s

theorem State.raise_eq_told (n : Notice) (s : State) : s.raise n = s.told [n] := rfl

/-- A notice alone, as R179 says; in UNSET too. -/
theorem raised_raise (n : Notice) (s : State) : Raised [n] s (s.raise n) := by
  refine ⟨by simp, ?_⟩
  by_cases h : s.cfg.disableMask.getLsbD (groupOfCode n.code) = true
  · simp [State.raise, State.silenced, h]
  · cases hp : s.part <;> simp [State.raise, State.silenced, State.post, h, hp]

/-- Notices change the condition flags and the Line Controller alone. -/
theorem State.told_eq (ns : List Notice) (s : State) :
    s.told ns = { s with flags := (s.told ns).flags, line := (s.told ns).line } := by
  induction ns generalizing s with
  | nil => rfl
  | cons n ns ih =>
    rw [State.told_cons, ih]
    apply State.eq_of_fields <;> simp

/-- The notices of a list set their flags and are posted as R179 says. -/
theorem raised_told (ns : List Notice) (s : State) : Raised ns s (s.told ns) := by
  induction ns generalizing s with
  | nil => exact ⟨rfl, rfl⟩
  | cons n ns ih =>
    obtain ⟨hflags, hline⟩ := ih (s.raise n)
    obtain ⟨hflag, hpost⟩ := raised_raise n s
    have hsilent : ∀ m, (s.raise n).silenced m = s.silenced m := fun m => by simp [State.silenced]
    refine ⟨?_, ?_⟩
    · rw [State.told_cons, hflags, hflag]
      rfl
    · rw [State.told_cons, hline, hpost]
      simp only [State.raise_part, hsilent]
      rfl

section
variable (ns : List Notice) (s : State)

@[simp] theorem State.told_pins : (s.told ns).pins = s.pins := by rw [State.told_eq]
@[simp] theorem State.told_clock : (s.told ns).clock = s.clock := by rw [State.told_eq]
@[simp] theorem State.told_part : (s.told ns).part = s.part := by rw [State.told_eq]
@[simp] theorem State.told_store : (s.told ns).store = s.store := by rw [State.told_eq]
@[simp] theorem State.told_assembly : (s.told ns).assembly = s.assembly := by rw [State.told_eq]
@[simp] theorem State.told_free : (s.told ns).free = s.free := by rw [State.told_eq]
@[simp] theorem State.told_pending : (s.told ns).pending = s.pending := by rw [State.told_eq]
@[simp] theorem State.told_cfg : (s.told ns).cfg = s.cfg := by rw [State.told_eq]
@[simp] theorem State.told_bays : (s.told ns).bays = s.bays := by rw [State.told_eq]
@[simp] theorem State.told_book : (s.told ns).book = s.book := by rw [State.told_eq]
@[simp] theorem State.told_asks : (s.told ns).asks = s.asks := by rw [State.told_eq]
@[simp] theorem State.told_plan : (s.told ns).plan = s.plan := by rw [State.told_eq]
@[simp] theorem State.told_boost : (s.told ns).boost = s.boost := by rw [State.told_eq]
@[simp] theorem State.told_feed : (s.told ns).feed = s.feed := by rw [State.told_eq]
@[simp] theorem State.told_ts : (s.told ns).ts = s.ts := by rw [State.told_eq]
@[simp] theorem State.told_out : (s.told ns).out = s.out := by rw [State.told_eq]
@[simp] theorem State.told_bay (b : BayNo) : (s.told ns).bay b = s.bay b := by rw [State.told_eq]; rfl

end

/-! ### Notices and the blocks -/

/-- A notice neither reads nor writes the blocks beside the Line Controller. -/
theorem State.raise_aside (n : Notice) (s : State) (bays : Vector Bay 12) (book : Book) (asks : AskTable) (plan : Planner)
    (boost : Arbiter) (feed : Feed) (ts : TemplateStore) (out : Outputs) :
    State.raise n { s with
        bays := bays, book := book, asks := asks, plan := plan, boost := boost, feed := feed, ts := ts, out := out } =
      { s.raise n with
        bays := bays, book := book, asks := asks, plan := plan, boost := boost, feed := feed, ts := ts, out := out } := by
  by_cases h : s.cfg.disableMask.getLsbD (groupOfCode n.code) = true
  · simp [State.raise, State.silenced, h]
  · cases hp : s.part <;> simp [State.raise, State.silenced, State.post, h, hp]

theorem State.told_aside (ns : List Notice) (s : State) (bays : Vector Bay 12) (book : Book) (asks : AskTable)
    (plan : Planner) (boost : Arbiter) (feed : Feed) (ts : TemplateStore) (out : Outputs) :
    State.told ns { s with
        bays := bays, book := book, asks := asks, plan := plan, boost := boost, feed := feed, ts := ts, out := out } =
      { s.told ns with
        bays := bays, book := book, asks := asks, plan := plan, boost := boost, feed := feed, ts := ts, out := out } := by
  induction ns generalizing s with
  | nil => rfl
  | cons n ns ih => rw [State.told_cons, State.raise_aside, ih, State.told_cons]

section
variable (ns : List Notice) (s : State) (b : BayNo)

@[simp] theorem State.told_setBay (x : Bay) : (s.told ns).setBay b x = (s.setBay b x).told ns := by
  refine Eq.trans ?_ (s.told_aside ns (s.bays.set b x b.isLt) s.book s.asks s.plan s.boost s.feed s.ts s.out).symm
  apply State.eq_of_fields <;> simp [State.setBay]

@[simp] theorem State.told_request : (s.told ns).request = s.request.told ns := by
  refine Eq.trans ?_
    (s.told_aside ns s.bays s.book s.asks { s.plan with requested := true } s.boost s.feed s.ts s.out).symm
  apply State.eq_of_fields <;> simp [State.request]

@[simp] theorem State.told_updateRecord (id : Nat) (f : Reservation → Reservation) :
    (s.told ns).updateRecord id f = (s.updateRecord id f).told ns := by
  refine Eq.trans ?_ (s.told_aside ns s.bays { s.book with records := s.book.records.map fun r => if r.id == id then f r else r }
    s.asks s.plan s.boost s.feed s.ts s.out).symm
  apply State.eq_of_fields <;> simp [State.updateRecord]

@[simp] theorem State.told_enterBay (new : BayState) : (s.told ns).enterBay b new = (s.enterBay b new).told ns := by
  rw [State.enterBay_eq (State.told ns s), State.enterBay_eq s]
  refine Eq.trans ?_ (State.told_aside ns s _ _ _ _ _ _ _ _).symm
  apply State.eq_of_fields <;> simp

end

/-! ### The end of an event -/

/-- The event's one order answers the report of the only bay whose commanded values may have changed (R20). -/
theorem ordersOf_reply {s u : State} {b : BayNo} (h : ∀ d, d ≠ b → u.bay d = s.bay d) :
    ordersOf (some b) s u = [u.orderFor b] := by
  have hone : (baysWhere fun d => commandChanged s u d || some b == some d) = [b] := by
    have hall : (fun d => commandChanged s u d || some b == some d) = fun d => d == b := by
      funext d
      by_cases hd : d = b
      · simp [hd]
      · simp [commandChanged, h d hd, hd, Ne.symm hd]
    rw [baysWhere, hall, allBays, List.filter_beq, List.count_eq_one_of_mem (List.nodup_finRange 12) (List.mem_finRange b)]
    rfl
  rw [ordersOf, hone]
  rfl

/-- The end of an event: it raised these notices, and beside them the pass and the orders alone come after its
blocks. -/
theorem State.finish_told {s v : State} {ns : List Notice} (reply : Option BayNo) (hs : s.plan.requested = false)
    (hv : v.plan.requested = true → v.part = .run) :
    ∃ t, State.finish reply s (v.told ns) = t ∧
      t = { v with plan := t.plan, flags := t.flags, line := t.line, out := t.out } ∧ Raised ns v t ∧
      t.out = { v.out with orders := ordersOf reply s v } ∧
      (v.plan = { s.plan with requested := true } → PassAsked s t) ∧ (v.plan = s.plan → t.plan = s.plan) := by
  have horders : ordersOf reply s (v.told ns) = ordersOf reply s v := ordersOf_congr (by simp)
  by_cases hp : v.plan.requested = true
  · have hfin := State.finish_some (s := s) (u := v.told ns) reply (by simpa using hp) (by simpa using hv hp)
    refine ⟨_, rfl, ?_, ?_, ?_, fun hplan => ?_, fun hplan => ?_⟩
    · rw [hfin]
      apply State.eq_of_fields <;> simp
    · rw [hfin]
      exact raised_told ns v
    · rw [hfin]
      simp [horders]
    · exact (State.finish_requested reply hs (by simpa using hv hp) (by simpa using hplan)).2
    · rw [hplan, hs] at hp
      exact absurd hp (by simp)
  · have hfin := State.finish_none (s := s) (u := v.told ns) reply (by simpa using hp)
    refine ⟨_, rfl, ?_, ?_, ?_, fun hplan => ?_, fun hplan => ?_⟩
    · rw [hfin]
      apply State.eq_of_fields <;> simp
    · rw [hfin]
      exact raised_told ns v
    · rw [hfin]
      simp [horders]
    · rw [hplan] at hp
      exact absurd rfl hp
    · rw [hfin]
      simpa using hplan

/-- The end of the event of a report that has changed no other bay than its own. -/
theorem replied_of_out {s t v : State} {b : BayNo} (ht : t.bays = v.bays)
    (hout : t.out = { v.out with orders := ordersOf (some b) s v }) (hq : v.out = quietOut)
    (hb : ∀ d, d ≠ b → v.bay d = s.bay d) : Replied b t := by
  unfold Replied
  rw [hout, hq, ordersOf_reply hb]
  have : t.bay b = v.bay b := by simp [State.bay, ht]
  simp [quietOut, State.orderFor, this]

end Sys2Proof.Machine
end


section
/-! SUPPORT. A bay report taken: its receipt, and the reports that move no bay (R4, R6, R22). -/

namespace Sys2Proof.Machine

open Sys2Proof.Machine.Safety

/-! ### The receipt of a report -/

/-- The part with the first two parts of R4 done to a bay's record. -/
def State.received (b : BayNo) (r : Report) (s : State) : State :=
  { s with bays := s.bays.set b (reported r (s.bay b)) b.isLt }

@[simp] theorem State.received_bay_self (b : BayNo) (r : Report) (s : State) :
    (s.received b r).bay b = reported r (s.bay b) := State.setBay_bay_self _ _ _

theorem reported_eq (r : Report) (x : Bay) :
    reported r x = Bay.doorStep r { x with reportAge := 0, lastPresent := some r.present } := by
  unfold reported Bay.doorStep
  cases hl : x.lockPending <;> cases hd : r.door <;> simp

/-- The receipt of a report and its door step, with DOOR_FORCED where R22 raises it. -/
theorem State.receipt_eq (b : BayNo) (r : Report) (s : State) :
    (s.noteReport b r).doorStep b r = (s.received b r).told (forcedNotices b r (s.bay b)) := by
  have hbays : ((s.noteReport b r).setBay b (((s.noteReport b r).bay b).doorStep r)) = s.received b r := by
    simp [State.noteReport, State.setBay, State.bay, State.received, reported_eq]
  have hforced : ((s.noteReport b r).bay b).doorForced r = true ↔
      (s.bay b).door = .closed ∧ r.door = .opened ∧ (s.bay b).locked = true ∧ (s.bay b).lockPending = false := by
    simp [State.noteReport, Bay.doorForced, and_assoc]
  unfold State.doorStep forcedNotices
  dsimp only
  rw [hbays]
  by_cases h : ((s.noteReport b r).bay b).doorForced r = true
  · rw [if_pos h, if_pos (hforced.1 h), (hforced.1 h).2.1]
    rfl
  · rw [if_neg h, if_neg (hforced.not.1 h)]
    rfl

/-- A report without a boost fault taken in RUN: its receipt, then the rule of the bay's state. -/
theorem State.takeReport_run {b : BayNo} {r : Report} {s : State} (hrun : s.part = .run) (hf : r.boostFault = false) :
    s.takeReport b r = ((s.received b r).told (forcedNotices b r (s.bay b))).reportByState b (s.bay b).door r := by
  rw [State.takeReport_of_no_boostFault hrun hf, State.afterReceipt, State.receipt_eq]
  simp [State.noteReport]

theorem State.takeReport_unset {b : BayNo} {r : Report} {s : State} (hunset : s.part = .unset) :
    s.takeReport b r = (s.received b r).told (forcedNotices b r (s.bay b)) := by
  have hnote : (s.noteReport b r).part = .unset := hunset
  rw [← State.receipt_eq]
  simp [State.takeReport, hnote]

theorem limitReport_boostFault (r : Report) : (limitReport r).boostFault = r.boostFault := rfl

/-- The event of a valid report without a boost fault in RUN. -/
theorem exec_bayReport_run {b : BayNo} {r : Report} {s : State} (hr : Running s) (hok : r.checkOk = true)
    (hf : r.boostFault = false) :
    exec (.bayReport b r) s = .next (State.finish (some b) s
      (((s.quiet.received b (limitReport r)).told (forcedNotices b (limitReport r) (s.bay b))).reportByState b (s.bay b).door
        (limitReport r))) := by
  rw [exec_bayReport hr.released hok, State.takeReport_run (r := limitReport r) (s := s.quiet) hr.run hf]
  rfl

/-- What a report's event comes to whose rule has changed no other bay than its own and raised these notices. -/
theorem exec_bayReport_told {b : BayNo} {r : Report} {s v : State} {ns : List Notice} (hs : s.plan.requested = false)
    (hexec : exec (.bayReport b r) s = .next (State.finish (some b) s (v.told ns)))
    (hv : v.plan.requested = true → v.part = .run)
    (hout : v.out = quietOut) (hb : ∀ d, d ≠ b → v.bay d = s.bay d) :
    ∃ t, exec (.bayReport b r) s = .next t ∧
      t = { v with plan := t.plan, flags := t.flags, line := t.line, out := t.out } ∧ Raised ns v t ∧ Replied b t ∧
      (v.plan = { s.plan with requested := true } → PassAsked s t) ∧ (v.plan = s.plan → t.plan = s.plan) := by
  obtain ⟨t, ht, heq, hraised, ho, hasked, hkept⟩ := State.finish_told (v := v) (ns := ns) (some b) hs hv
  have hbays : t.bays = v.bays := by rw [heq]
  exact ⟨t, by rw [hexec, ht], heq, hraised, replied_of_out hbays ho hout hb, hasked, hkept⟩

/-- The whole event of a valid report without a boost fault in RUN, by what the rule of the bay's state makes of its receipt. -/
theorem exec_bayReport_ends {b : BayNo} {r : Report} {s v : State} {ns : List Notice} (hr : Running s)
    (hok : r.checkOk = true) (hf : r.boostFault = false)
    (hbody : ((s.quiet.received b (limitReport r)).told (forcedNotices b (limitReport r) (s.bay b))).reportByState b
      (s.bay b).door (limitReport r) = v.told ns)
    (hv : v.part = .run) (hout : v.out = quietOut) (hb : ∀ d, d ≠ b → v.bay d = s.bay d) :
    ∃ t, exec (.bayReport b r) s = .next t ∧
      t = { v with plan := t.plan, flags := t.flags, line := t.line, out := t.out } ∧ Raised ns v t ∧ Replied b t ∧
      (v.plan = { s.plan with requested := true } → PassAsked s t) ∧ (v.plan = s.plan → t.plan = s.plan) :=
  exec_bayReport_told hr.settled
    ((exec_bayReport_run hr hok hf).trans (congrArg (fun u => Host.Outcome.next (State.finish (some b) s u)) hbody))
    (fun _ => hv) hout hb

theorem State.received_bay_other {b d : BayNo} (h : d ≠ b) (r : Report) (s : State) :
    (s.received b r).bay d = s.bay d := by
  rw [State.received, ← State.setBay, State.setBay_bay, if_neg (Ne.symm h)]

/-- A report that moves no bay: in UNSET, and in RUN to a bay OFF with another cause than LINK. -/
theorem State.takeReport_unmoved {b : BayNo} {r : Report} {s : State}
    (h : s.part = .unset ∨ s.part = .run ∧ r.boostFault = false ∧
      ((s.bay b).state = .off .service ∨ (s.bay b).state = .off .unused)) :
    s.takeReport b r = (s.received b r).told (forcedNotices b r (s.bay b)) := by
  obtain hunset | ⟨hrun, hf, hoff⟩ := h
  · exact State.takeReport_unset hunset
  · have hstate : (reported r (s.bay b)).state = (s.bay b).state := rfl
    rw [State.takeReport_run hrun hf]
    obtain hoff | hoff := hoff <;> simp [State.reportByState, hstate, hoff, State.reportOff]

/-- Settles O24: a report whose check fails is no event, and the others end after their receipt. -/
theorem reportThatMovesNoBay : Obligations.ReportThatMovesNoBay := by
  intro b r s
  refine ⟨fun hlive hbad => ?_, fun hquiet hok => ?_⟩
  · have hsettled : s.plan.requested = false := hlive.elim (·.settled) (·.settled)
    have hreleased : s.pins.restart = false := hlive.elim (·.released) (·.released)
    have hexec : exec (.bayReport b r) s = .next (State.finish none s s.quiet) := by
      simp only [exec, execBayReport, hbad, Bool.false_eq_true, if_false, event, State.take_live hreleased, id]
    exact hexec.trans (congrArg _ (State.finish_unchanged (by exact hsettled) (by rfl) (commandChanged_same (by rfl))))
  · have hsettled : s.plan.requested = false := hquiet.elim (·.settled) (·.1.settled)
    have hreleased : s.pins.restart = false := hquiet.elim (·.released) (·.1.released)
    have hbody := State.takeReport_unmoved (b := b) (r := limitReport r) (s := s.quiet)
      (hquiet.imp (·.unset) fun ⟨hr, hf, hoff⟩ => ⟨hr.run, hf, hoff⟩)
    have hexec := (exec_bayReport hreleased hok).trans (congrArg (fun u => Host.Outcome.next (State.finish (some b) s u)) hbody)
    obtain ⟨t, ht, heq, hraised, hreplied, -, hplan⟩ := exec_bayReport_told (v := s.quiet.received b (limitReport r))
      hsettled hexec (fun h => absurd (hsettled.symm.trans h) (by simp)) rfl
      fun d hd => State.received_bay_other hd _ s.quiet
    refine ⟨t, ht, ?_, hraised, hreplied⟩
    rw [heq, hplan rfl]
    rfl

end Sys2Proof.Machine
end


section
/-! SUPPORT. A part that meets the premises of O25 and is not sound: an EMPTY bay whose reservation field names a record BOUND
to it. -/

namespace Sys2Proof.Machine

open Sys2Proof.Machine.Safety

/-- A record BOUND to bay 0. -/
def strandedRecord : Reservation where
  id := 1
  token := 7
  cls := 0
  target := 900
  windowOpen := 1000
  windowClose := 1600
  state := .bound 0
  origin := .ask
  late := false
  atDoor := false

/-- A part in RUN whose bay 0 is EMPTY with a reservation left over; R1 rules that out, the premises of O25 do not. -/
def strandedPart : State :=
  { State.reset with
    part := .run, bays := State.reset.bays.set 0 { Bay.restart with state := .empty, reservation := some 1 }
    book := { State.reset.book with records := [strandedRecord] } }

/-- A report with a stage fault and no pack. -/
def stagedReport : Report where
  checkOk := true
  door := .closed
  present := false
  serial := 0
  cls := 0
  soc := 0
  temperature := 250
  health := 900
  packFault := false
  stageFault := true
  boostFault := false

/-- The event of the report unbinds the record. -/
theorem strandedPart_unbinds :
    ∃ t, exec (.bayReport 0 stagedReport) strandedPart = .next t ∧ t.book.records.map (·.state) = [.pending] :=
  ⟨_, rfl, by decide⟩

/-- Refutes O25: its premises do not say that an EMPTY bay names no reservation, and the stage fault of a report to such a bay
unbinds the record it names, where the statement leaves the book as it is. -/
theorem not_reportTakesPackIn : ¬ Obligations.ReportTakesPackIn := by
  intro h
  have hboost : BoostSound strandedPart := ⟨by decide, by decide, by decide, by decide⟩
  obtain ⟨t, ht, heq, -⟩ := h 0 stagedReport strandedPart ⟨rfl, rfl, rfl⟩ hboost ⟨by decide, by decide, by decide⟩ rfl rfl rfl
    (by decide)
  obtain ⟨u, hu, hpending⟩ := strandedPart_unbinds
  obtain rfl : t = u := by simpa [ht] using hu
  have hbook := congrArg State.book heq
  dsimp only at hbook
  rw [hbook] at hpending
  exact absurd hpending (by decide)

end Sys2Proof.Machine
end


section
/-! SUPPORT. A bay that goes to a state without a reservation: its record, the arbiter, the record it unbinds, and the CHECKING
rule on the way (R9, R12, R17, R46, R106). -/

namespace Sys2Proof.Machine

open Sys2Proof.Machine.Safety

/-! ### The record of the bay -/

/-- The part with a bay come to a state without a reservation, its arbiter told and a pass requested. -/
def State.placed (b : BayNo) (new : BayState) (pack : Option Pack) (s : State) : State :=
  { s with
    bays := s.bays.set b (movedTo new pack (s.bay b)) b.isLt, boost := arbiterLeft b new s.boost
    plan := { s.plan with requested := true } }

@[simp] theorem State.placed_bay_self (b : BayNo) (new : BayState) (pack : Option Pack) (s : State) :
    (s.placed b new pack).bay b = movedTo new pack (s.bay b) := State.setBay_bay_self _ _ _

theorem State.placed_bay_other {b d : BayNo} (h : d ≠ b) (new : BayState) (pack : Option Pack) (s : State) :
    (s.placed b new pack).bay d = s.bay d :=
  (State.setBay_bay s b d (movedTo new pack (s.bay b))).trans (if_neg (Ne.symm h))

/-- The pack record a state keeps of the one a bay held (R2). -/
def BayState.keptPack (new : BayState) (pack : Option Pack) : Option Pack := if new.dropsPack then none else pack

/-- What a state without a reservation keeps of a bay that was not at the door or goes OFF (R1, R2, R21, R22). STOCK is reached
from CHECKING alone. -/
theorem Bay.entering_away (cfg : Setup) {new : BayState} {x : Bay} (hx : x.state.atDoor = false ∨ new.isOff = true)
    (hn : new.reserved = false) (hstock : new = .stock → x.state = .checking ∧ x.setpoint = 0) :
    x.entering cfg new = { movedTo new (new.keptPack x.pack) x with boost := x.boost } := by
  have hset : (x.entering cfg new).setpoint = 0 := by
    by_cases hs : new = .stock
    · obtain ⟨-, hzero⟩ := hstock hs
      simp [Bay.entering, Bay.writeSetpoint, hzero]
    · exact Bay.entering_setpoint (by cases new <;> simp_all [BayState.eligible, BayState.reserved])
  have hdoor : new.atDoor = false := by cases new <;> simp_all [BayState.atDoor, BayState.reserved]
  have hlock : lockEntering x.state new x.door x.locked x.lockPending =
      (x.locked || new.outOfUse, x.lockPending && !new.outOfUse) := by
    unfold lockEntering
    obtain hx | hoff := hx
    · cases new <;> simp_all [BayState.isOff, BayState.outOfUse]
    · cases new <;> simp_all [BayState.isOff, BayState.outOfUse]
  have htimer : timerEntering x.state new x.dataTimer = if new = .checking then some 10000 else none := by
    by_cases hs : new = .stock
    · obtain ⟨hfrom, -⟩ := hstock hs
      simp [timerEntering, hs, hfrom, BayState.accepted]
    · cases new <;> simp_all [timerEntering, BayState.accepted, dataMillis, BayState.reserved]
  have hfields : x.entering cfg new =
      { movedTo new (new.keptPack x.pack) x with boost := x.boost, setpoint := (x.entering cfg new).setpoint } := by
    simp only [Bay.entering, Bay.writeSetpoint, hlock, htimer, hdoor, hn]
    simp [movedTo, BayState.keptPack]
  rw [hfields, hset]
  rfl

/-- A bay enters a state without a reservation: its record, the arbiter and the request. -/
theorem State.enterBay_away {s : State} {b : BayNo} {new : BayState}
    (hx : (s.bay b).state.atDoor = false ∨ new.isOff = true) (hn : new.reserved = false)
    (hboost : (s.bay b).boost = decide (s.boost.converter.holder = some b))
    (hstock : new = .stock → (s.bay b).state = .checking ∧ (s.bay b).setpoint = 0 ∧ s.boost.converter.holder ≠ some b) :
    s.enterBay b new = s.placed b new (new.keptPack (s.bay b).pack) := by
  have hends : endsGrant b new s.boost = decide (s.boost.converter.holder = some b) := by
    unfold endsGrant
    by_cases hs : new = .stock
    · obtain ⟨-, -, hholder⟩ := hstock hs
      simp [hholder]
    · have : new.eligible = false := by cases new <;> simp_all [BayState.eligible, BayState.reserved]
      simp [this]
  rw [State.enterBay_eq, Bay.entering_away s.cfg hx hn fun hs => ⟨(hstock hs).1, (hstock hs).2.1⟩, hends, hboost]
  simp [State.placed, arbiterLeft, movedTo, switchMillis]

/-- A second move takes the place of a first one to a state in use. -/
theorem State.placed_placed {s : State} {b : BayNo} {mid new : BayState} {p q : Option Pack} (hmid : mid.outOfUse = false) :
    (s.placed b mid p).placed b new q = s.placed b new q := by
  have hholder : (arbiterLeft b mid s.boost).converter.holder ≠ some b := by
    unfold arbiterLeft
    dsimp only
    split
    · simp [Converter.holder]
    · assumption
  have hbay : movedTo new q (movedTo mid p (s.bay b)) = movedTo new q (s.bay b) := by simp [movedTo, hmid]
  have hboost : arbiterLeft b new (arbiterLeft b mid s.boost) = arbiterLeft b new s.boost := by
    rw [arbiterLeft, if_neg hholder]
    simp [arbiterLeft]
  rw [State.placed, State.placed_bay_self, hbay]
  simp [State.placed, hboost]

/-- The bay that has been placed does not hold the converter. -/
theorem State.placed_holder (b : BayNo) (new : BayState) (pack : Option Pack) (s : State) :
    (s.placed b new pack).boost.converter.holder ≠ some b := by
  show (if s.boost.converter.holder = some b then Converter.switching 2000 else s.boost.converter).holder ≠ some b
  split
  · simp [Converter.holder]
  · assumption

theorem State.setBay_placed (b : BayNo) (new : BayState) (p q : Option Pack) (s : State) :
    (s.placed b new p).setBay b { movedTo new p (s.bay b) with pack := q } = s.placed b new q := by
  simp [State.placed, State.setBay, movedTo]

@[simp] theorem State.placed_cfg (b : BayNo) (new : BayState) (pack : Option Pack) (s : State) :
    (s.placed b new pack).cfg = s.cfg := rfl

/-- A bay that stands in CHECKING or EMPTY without a boost, and comes to its next state without a reservation. -/
theorem State.enterBay_placed {s : State} {b : BayNo} {mid new : BayState} {p : Option Pack}
    (hmid : mid = .checking ∨ mid = .empty) (hn : new.reserved = false) (hstock : new = .stock → mid = .checking) :
    (s.placed b mid p).enterBay b new = s.placed b new (new.keptPack p) := by
  have hholder := s.placed_holder b mid p
  have haway : mid.atDoor = false ∧ mid.outOfUse = false := by obtain rfl | rfl := hmid <;> exact ⟨rfl, rfl⟩
  have hbay := s.placed_bay_self b mid p
  rw [State.enterBay_away (.inl (by rw [hbay]; exact haway.1)) hn (by rw [hbay]; simp [movedTo, hholder])
    fun hs => ⟨by rw [hbay]; exact hstock hs, by rw [hbay]; rfl, hholder⟩, hbay, State.placed_placed haway.2]
  rfl

/-! ### The record of the book -/

/-- The part with the reservation of this id, if one is given, unbound to PENDING. -/
def State.unbound (id : Option Nat) (s : State) : State :=
  { s with book := { s.book with records := unboundIn id s.book.records } }

theorem unboundIn_none (l : List Reservation) : unboundIn none l = l := by
  simp [unboundIn]

theorem State.unbound_none (s : State) : s.unbound none = s := by
  rw [State.unbound, unboundIn_none]

/-- Whether the record a bay names can be unbound without expiring at once: BOUND or READY there, its instant not reached
while it was at the door (R46, R52). -/
def Unbindable (b : BayNo) (s : State) : Prop :=
  ∀ id, (s.bay b).reservation = some id → ∃ r ∈ s.book.records, r.id = id ∧ (r.state = .bound b ∨ r.state = .ready b) ∧
    (r.atDoor = true → s.clock.seconds < r.expiry s.cfg)

/-- An expiry check of a record whose instant is not reached (R52). -/
theorem State.expiryCheck_early {s : State} {id : Nat}
    (h : ∀ z ∈ s.book.records, z.id = id → s.clock.seconds < z.expiry s.cfg) : s.expiryCheck id = s := by
  unfold State.expiryCheck
  split
  · rfl
  · next z hz =>
    obtain ⟨hmem, hid⟩ := Book.byId_some hz
    have := h z hmem hid
    exact if_neg fun hdue => absurd (Reservation.expiryDue_iff.1 hdue).1 (Nat.not_le.2 this)

theorem State.updateRecord_unbound (id : Nat) (s : State) :
    s.updateRecord id (fun r => { r with state := .pending, late := false, atDoor := false }) = s.unbound (some id) := by
  have hmap : ∀ z : Reservation, (if (z.id == id) = true then { z with state := .pending, late := false, atDoor := false } else z) =
      if some id = some z.id then { z with state := .pending, late := false, atDoor := false } else z := fun z => by
    by_cases h : z.id = id
    · simp [h]
    · simp [h, Ne.symm h]
  unfold State.updateRecord State.unbound unboundIn
  simp only [hmap]

/-- An unbind of such a record (R46). -/
theorem State.unbind_eq {s : State} {b : BayNo} {r : Reservation} (hn : (s.book.records.map (·.id)).Nodup)
    (hr : r ∈ s.book.records) (hst : r.state = .bound b ∨ r.state = .ready b)
    (hexp : r.atDoor = true → s.clock.seconds < r.expiry s.cfg) : s.unbind r.id b = (s.unbound (some r.id)).request := by
  have hfound := Book.byId_of_mem hn hr
  unfold State.unbind
  simp only [hfound, if_pos hst, State.updateRecord_unbound]
  split
  · next hd =>
    refine State.expiryCheck_early fun z hz hid => ?_
    obtain ⟨y, hy, rfl⟩ := List.mem_map.1 hz
    by_cases hsame : r.id = y.id
    · obtain rfl : r = y := Option.some.inj (hfound.symm.trans (hsame ▸ Book.byId_of_mem hn hy))
      rw [if_pos rfl]
      exact hexp hd
    · rw [if_neg fun h => hsame (Option.some.inj h)] at hid
      exact absurd hid.symm hsame
  · rfl

theorem State.told_unbound (ns : List Notice) (id : Option Nat) (s : State) :
    (s.told ns).unbound id = (s.unbound id).told ns := by
  refine Eq.trans ?_ (State.told_aside ns s s.bays { s.book with records := unboundIn id s.book.records } s.asks s.plan s.boost
    s.feed s.ts s.out).symm
  apply State.eq_of_fields <;> simp [State.unbound]

/-- The part with a bay gone for a cause of its own: the record it named is PENDING (R17). -/
def State.departed (b : BayNo) (new : BayState) (pack : Option Pack) (s : State) : State :=
  (s.placed b new pack).unbound (s.bay b).reservation

theorem State.departed_free {s : State} {b : BayNo} (new : BayState) (pack : Option Pack) (h : (s.bay b).reservation = none) :
    s.departed b new pack = s.placed b new pack := by
  rw [State.departed, h, State.unbound_none]

/-- The unbinding that ends a departure. -/
theorem State.told_unbind_placed {s : State} {b : BayNo} {id : Nat} (new : BayState) (pack : Option Pack) (ns : List Notice)
    (hn : (s.book.records.map (·.id)).Nodup) (hs : Unbindable b s) (hres : (s.bay b).reservation = some id) :
    ((s.placed b new pack).told ns).unbind id b = (s.departed b new pack).told ns := by
  obtain ⟨r, hr, rfl, hst, hexp⟩ := hs id hres
  have hbook : ((s.placed b new pack).told ns).book = s.book := by rw [State.told_book]; rfl
  rw [State.unbind_eq (r := r) (by rw [hbook]; exact hn) (by rw [hbook]; exact hr) hst
    (by rw [State.told_clock, State.told_cfg]; exact hexp), State.told_unbound, State.told_request, State.departed, hres]
  rfl

/-- A bay leaves its state for a cause of its own (R17). -/
theorem State.told_leaveBay {s : State} {b : BayNo} {new : BayState} (ns : List Notice)
    (hx : (s.bay b).state.atDoor = false ∨ new.isOff = true) (hnew : new.reserved = false ∧ new ≠ .stock)
    (hboost : (s.bay b).boost = decide (s.boost.converter.holder = some b))
    (hn : (s.book.records.map (·.id)).Nodup) (hs : Unbindable b s) :
    (s.told ns).leaveBay b new = (s.departed b new (new.keptPack (s.bay b).pack)).told ns := by
  unfold State.leaveBay
  dsimp only
  rw [State.told_bay, State.told_enterBay, State.enterBay_away hx hnew.1 hboost fun h => absurd h hnew.2]
  cases hres : (s.bay b).reservation with
  | none => rw [State.departed_free _ _ hres]
  | some id => exact State.told_unbind_placed _ _ _ hn hs hres

/-- A bay enters FAULT: BAY_FAULT, and its reservation unbound (R12). -/
theorem State.told_faultBay {s : State} {b : BayNo} {k : FaultKind} (ns : List Notice) (hx : (s.bay b).state.atDoor = false)
    (hboost : (s.bay b).boost = decide (s.boost.converter.holder = some b))
    (hn : (s.book.records.map (·.id)).Nodup) (hs : Unbindable b s) :
    (s.told ns).faultBay b k =
      let pack := BayState.keptPack (.fault k) (s.bay b).pack
      (s.departed b (.fault k) pack).told (ns ++ faultNotices b (.fault k) pack) := by
  unfold State.faultBay
  dsimp only
  rw [State.told_bay, State.told_enterBay, State.enterBay_away (.inl hx) rfl hboost (by simp), State.told_bay,
    State.placed_bay_self, State.told_raise]
  cases hres : (s.bay b).reservation with
  | none => rw [State.departed_free _ _ hres]; rfl
  | some id => exact State.told_unbind_placed _ _ _ hn hs hres

/-! ### The CHECKING rule (R9) -/

/-- A bay that is in CHECKING without a reservation goes on to FAULT. -/
theorem State.told_faultBay_placed {s : State} {b : BayNo} {k : FaultKind} {mid : BayState} {p : Option Pack}
    (ns : List Notice) (hmid : mid = .checking ∨ mid = .empty) :
    ((s.placed b mid p).told ns).faultBay b k =
      let pack := BayState.keptPack (.fault k) p
      (s.placed b (.fault k) pack).told (ns ++ faultNotices b (.fault k) pack) := by
  unfold State.faultBay
  simp only [State.told_bay, State.told_enterBay, State.enterBay_placed (new := .fault k) hmid rfl (by simp),
    State.placed_bay_self, State.told_raise]
  rfl

/-- The CHECKING rule takes a bay to the state of the first case of R9 that applies. -/
theorem State.told_reportChecking (b : BayNo) (q : Report) (ns : List Notice) (s : State) :
    ((s.placed b .checking none).told ns).reportChecking b q =
      let new := checkedState (s.bay b).mask q
      let pack := checkedPack s.cfg new q
      (s.placed b new pack).told (ns ++ faultNotices b new pack) := by
  have hmask : (((s.placed b .checking none).told ns).bay b).mask = (s.bay b).mask := by
    rw [State.told_bay, State.placed_bay_self]
    rfl
  have hpack : ((s.placed b .checking none).told ns).setBay b
      { ((s.placed b .checking none).told ns).bay b with
        pack := some (packOfReport ((s.placed b .checking none).told ns).cfg q) } =
      (s.placed b .checking (some (packOfReport s.cfg q))).told ns := by
    rw [State.told_setBay, State.told_bay, State.placed_bay_self, State.told_cfg, State.setBay_placed]
    rfl
  unfold State.reportChecking checkedState
  dsimp only at hpack ⊢
  rw [hpack, hmask]
  by_cases hstage : q.stageFault = true
  · rw [if_pos hstage, if_pos hstage, State.told_faultBay_placed ns (.inl rfl)]
    rfl
  rw [if_neg hstage, if_neg hstage]
  by_cases habsent : q.present = false
  · rw [if_pos (by simp [habsent]), if_pos habsent, State.told_enterBay, State.enterBay_placed (.inl rfl) rfl (by simp)]
    simp [checkedPack, faultNotices, BayState.keptPack]
  rw [if_neg (by simpa using habsent), if_neg habsent]
  by_cases hdata : q.serial = 0
  · rw [if_pos hdata, if_pos hdata]
    simp [checkedPack, faultNotices]
  rw [if_neg hdata, if_neg hdata]
  by_cases hmasked : (s.bay b).mask.getLsbD q.cls = false
  · rw [if_pos (by rw [hmasked]; rfl), if_pos hmasked, State.told_faultBay_placed ns (.inl rfl)]
    rfl
  rw [if_neg (by rwa [Bool.not_eq_true']), if_neg hmasked]
  unfold packFaultKind hotTemperature
  by_cases hfault : q.packFault = true
  · simp only [hfault, if_true]
    rw [State.told_faultBay_placed ns (.inl rfl)]
    rfl
  by_cases hhot : 600 ≤ q.temperature
  · simp only [hfault, hhot, if_true, if_false, Bool.false_eq_true, ge_iff_le]
    rw [State.told_faultBay_placed ns (.inl rfl)]
    rfl
  · simp only [hfault, hhot, if_false, Bool.false_eq_true, ge_iff_le]
    rw [State.told_enterBay, State.enterBay_placed (.inl rfl) rfl fun _ => rfl]
    simp [checkedPack, faultNotices, BayState.keptPack, BayState.dropsPack]
    rfl

/-- A bay that is not at the door enters CHECKING, and the same report takes it on. -/
theorem State.told_checkPack {s : State} {b : BayNo} (q : Report) (ns : List Notice) (hx : (s.bay b).state.atDoor = false)
    (hboost : (s.bay b).boost = decide (s.boost.converter.holder = some b)) :
    (s.told ns).checkPack b q =
      let new := checkedState (s.bay b).mask q
      let pack := checkedPack s.cfg new q
      (s.placed b new pack).told (ns ++ faultNotices b new pack) := by
  rw [State.checkPack, State.told_enterBay, State.enterBay_away (.inl hx) rfl hboost (by simp)]
  exact State.told_reportChecking b q ns s

end Sys2Proof.Machine
end


section
/-! SUPPORT. Reports to a bay in STOCK, HELD or READY that take it away from its pack (R10 cases 1 to 5, R11, R12). -/

namespace Sys2Proof.Machine

open Sys2Proof.Machine.Safety

/-! ### The figures of a pack (R2, R3) -/

/-- Whether a report's figures change the retired flag of a bay's pack or the bay's chargeability (R3, R83). -/
def figuresAsk (cfg : Setup) (q : Report) (p : Pack) (x : Bay) : Bool :=
  decide ((copied cfg q p).retired ≠ p.retired ∨
    Bay.chargeable cfg { x with pack := some (copied cfg q p) } ≠ x.chargeable cfg)

/-- The record of a bay with a report's figures in its pack record, its setpoint 0 if it is not chargeable then (R2, R21). -/
def Bay.figured (cfg : Setup) (q : Report) (p : Pack) (x : Bay) : Bay :=
  Bay.writeSetpoint cfg x.setpoint { x with pack := some (copied cfg q p) }

/-- The part with a report's figures in the pack record of a bay. -/
def State.figured (b : BayNo) (q : Report) (p : Pack) (s : State) : State :=
  { s with
    bays := s.bays.set b (Bay.figured s.cfg q p (s.bay b)) b.isLt
    plan := { s.plan with requested := s.plan.requested || figuresAsk s.cfg q p (s.bay b) } }

@[simp] theorem State.figured_bay_self (b : BayNo) (q : Report) (p : Pack) (s : State) :
    (s.figured b q p).bay b = Bay.figured s.cfg q p (s.bay b) := State.setBay_bay_self _ _ _

/-- The copy of a report's figures, with PACK_RETIRED where R3 raises it. -/
theorem State.told_copyFigures {s : State} {b : BayNo} {p : Pack} (q : Report) (ns : List Notice)
    (hp : (s.bay b).pack = some p) :
    (s.told ns).copyFigures b q = (s.figured b q p).told (ns ++ retiredNotices s.cfg b q p) := by
  have hchange : (s.told ns).changeBay b (fun x => { x with pack := some (p.copyFigures s.cfg q) }) =
      (s.setBay b (Bay.figured s.cfg q p (s.bay b))).told ns := by
    rw [State.changeBay, State.told_bay, State.told_cfg, State.told_setBay]
    rfl
  have hretired : ((p.copyFigures s.cfg q).retired && !p.retired) = true ↔
      p.retired = false ∧ q.health < s.cfg.retireThreshold := by
    simp [Pack.copyFigures, and_comm]
  have hraise : ∀ u : State, (if ((p.copyFigures s.cfg q).retired && !p.retired) = true then
        (u.told ns).raise (.packRetired b (p.copyFigures s.cfg q).serial (p.copyFigures s.cfg q).health)
      else u.told ns) = u.told (ns ++ retiredNotices s.cfg b q p) := fun u => by
    unfold retiredNotices
    by_cases h : ((p.copyFigures s.cfg q).retired && !p.retired) = true
    · rw [if_pos h, if_pos (hretired.1 h), State.told_raise]
      rfl
    · rw [if_neg h, if_neg (hretired.not.1 h), List.append_nil]
  have hask : ((p.copyFigures s.cfg q).retired ≠ p.retired ∨
      (Bay.figured s.cfg q p (s.bay b)).chargeable s.cfg ≠ (s.bay b).chargeable s.cfg) ↔
      figuresAsk s.cfg q p (s.bay b) = true := decide_eq_true_iff.symm
  unfold State.copyFigures
  rw [State.told_bay, hp]
  dsimp only
  rw [State.told_cfg, hchange, hraise, State.told_bay, State.told_cfg, State.setBay_bay_self, State.setBay_cfg]
  by_cases h : figuresAsk s.cfg q p (s.bay b) = true
  · rw [if_pos (hask.2 h), State.told_request, State.figured, h, Bool.or_true]
    rfl
  · rw [if_neg (hask.not.2 h), State.figured, Bool.eq_false_iff.2 h, Bool.or_false]
    rfl

/-- A bay that leaves its state takes the figures just copied with it in its pack record alone. -/
theorem State.placed_figured (b : BayNo) (q : Report) (p : Pack) (new : BayState) (pack : Option Pack) (s : State) :
    (s.figured b q p).placed b new pack = s.placed b new pack := by
  rw [State.placed, State.figured_bay_self]
  simp [State.placed, State.figured, Bay.figured, movedTo, Bay.writeSetpoint]

theorem State.departed_figured (b : BayNo) (q : Report) (p : Pack) (new : BayState) (pack : Option Pack) (s : State) :
    (s.figured b q p).departed b new pack = s.departed b new pack := by
  rw [State.departed, State.departed, State.placed_figured, State.figured_bay_self]
  rfl

/-! ### The serial of a report (1.2) -/

theorem Bay.sameSerial_iff {q : Report} {x : Bay} {p : Pack} (hp : x.pack = some p) :
    x.sameSerial q = true ↔ q.present = true ∧ q.serial ≠ 0 ∧ q.serial = p.serial := by
  simp [Bay.sameSerial, carriesPack, hp, and_assoc, eq_comm (a := p.serial)]

theorem Bay.otherSerial_iff {q : Report} {x : Bay} {p : Pack} (hp : x.pack = some p) :
    x.otherSerial q = true ↔ q.present = true ∧ q.serial ≠ 0 ∧ q.serial ≠ p.serial := by
  simp [Bay.otherSerial, carriesPack, hp, and_assoc, eq_comm (a := p.serial)]

/-! ### A bay that loses its pack (R10 to R12) -/

/-- What the rule of a bay with a pack needs: the bay is not at the door, its boost field is the arbiter's, and the record it
names can be unbound. -/
structure Leavable (b : BayNo) (s : State) : Prop where
  away : (s.bay b).state.atDoor = false
  boost : (s.bay b).boost = decide (s.boost.converter.holder = some b)
  ids : (s.book.records.map (·.id)).Nodup
  unbindable : Unbindable b s

theorem Leavable.figured {s : State} {b : BayNo} (h : Leavable b s) (q : Report) (p : Pack) : Leavable b (s.figured b q p) := by
  obtain ⟨haway, hboost, hids, hunbind⟩ := h
  refine ⟨?_, ?_, hids, fun id hid => hunbind id ?_⟩
  · rw [State.figured_bay_self]
    exact haway
  · rw [State.figured_bay_self]
    exact hboost
  · rw [State.figured_bay_self] at hid
    exact hid

theorem Leavable.faultBay {s : State} {b : BayNo} (h : Leavable b s) (k : FaultKind) (ns : List Notice) :
    (s.told ns).faultBay b k =
      (s.departed b (.fault k) (BayState.keptPack (.fault k) (s.bay b).pack)).told
        (ns ++ faultNotices b (.fault k) (BayState.keptPack (.fault k) (s.bay b).pack)) :=
  State.told_faultBay ns h.away h.boost h.ids h.unbindable

/-- A pack gone without a handover (R11). -/
theorem Leavable.packMissing {s : State} {b : BayNo} {p : Pack} (h : Leavable b s) (hp : (s.bay b).pack = some p)
    (ns : List Notice) :
    (s.told ns).packMissing b = (s.departed b .empty none).told (ns ++ missingNotices b (s.bay b) p) := by
  have hserial : (s.bay b).serial = p.serial := by simp [Bay.serial, hp]
  unfold State.packMissing missingNotices
  dsimp only
  rw [State.told_bay, State.told_leaveBay ns (.inl h.away) ⟨rfl, by simp⟩ h.boost h.ids h.unbindable, State.told_raise, hserial]
  by_cases hforced : (s.bay b).door = .closed ∧ (s.bay b).locked = true
  · rw [if_pos (by simpa using hforced), if_pos hforced, State.told_raise, List.append_assoc]
    rfl
  · rw [if_neg (by simpa using hforced), if_neg hforced]
    rfl

/-- Another pack in the place of the one the bay held: the bay is emptied, and the report taken on by the CHECKING rule. -/
theorem State.told_checkPack_departed {s : State} {b : BayNo} (q : Report) (ns : List Notice) :
    ((s.departed b .empty none).told ns).checkPack b q =
      let new := checkedState (s.bay b).mask q
      let pack := checkedPack s.cfg new q
      (s.departed b new pack).told (ns ++ faultNotices b new pack) := by
  have hbay : (s.departed b .empty none).bay b = movedTo .empty none (s.bay b) := s.placed_bay_self b .empty none
  have hplaced : ∀ new pack, (s.departed b .empty none).placed b new pack = s.departed b new pack := fun new pack =>
    congrArg (State.unbound (s.bay b).reservation) (State.placed_placed (s := s) (mid := .empty) (p := none) rfl)
  rw [State.told_checkPack q ns (by rw [hbay]; rfl)
    (by rw [hbay]; exact (decide_eq_false (s.placed_holder b .empty none)).symm), hbay]
  dsimp only
  rw [hplaced]
  rfl

/-- The notices of a report that takes a bay away from its pack (R3, R11, R12). -/
def awayNotices (cfg : Setup) (b : BayNo) (q : Report) (p : Pack) (x : Bay) (new : BayState) (pack : Option Pack) :
    List Notice :=
  (if q.present = true ∧ q.serial ≠ 0 ∧ q.serial = p.serial then retiredNotices cfg b q p else []) ++
    (if q.stageFault = false ∧ ¬ (q.present = true ∧ q.serial ≠ 0 ∧ q.serial = p.serial) then missingNotices b x p else []) ++
    faultNotices b new pack

/-- The pack record of a bay that a report has taken away from its pack (R2, R9, R12). -/
def awayPack (cfg : Setup) (q : Report) (p : Pack) (new : BayState) : Option Pack :=
  if q.stageFault = true then some (if q.present = true ∧ q.serial ≠ 0 ∧ q.serial = p.serial then copied cfg q p else p)
  else if q.present = true ∧ q.serial ≠ 0 ∧ q.serial = p.serial then
    some (if q.present = true ∧ q.serial ≠ 0 ∧ q.serial = p.serial then copied cfg q p else p)
  else checkedPack cfg new q

/-- R10, cases 1 to 5. -/
theorem Leavable.reportAccepted {s : State} {b : BayNo} {p : Pack} {q : Report} {new : BayState} (h : Leavable b s)
    (hp : (s.bay b).pack = some p) (htake : takenAway (s.bay b).mask q p = some new) (ns : List Notice) :
    (s.told ns).reportAccepted b q =
      (s.departed b new (awayPack s.cfg q p new)).told
        (ns ++ awayNotices s.cfg b q p (s.bay b) new (awayPack s.cfg q p new)) := by
  have hsame := Bay.sameSerial_iff (q := q) hp
  have hother := Bay.otherSerial_iff (q := q) hp
  unfold State.reportAccepted
  dsimp only
  rw [State.told_bay]
  by_cases hs : q.present = true ∧ q.serial ≠ 0 ∧ q.serial = p.serial
  · have hfaulted : ∀ k, k ≠ .noPackData → ((s.figured b q p).told (ns ++ retiredNotices s.cfg b q p)).faultBay b k =
        (s.departed b (.fault k) (some (copied s.cfg q p))).told
          (ns ++ (retiredNotices s.cfg b q p ++ faultNotices b (.fault k) (some (copied s.cfg q p)))) := fun k hk => by
      have hkept : BayState.keptPack (.fault k) (some (copied s.cfg q p)) = some (copied s.cfg q p) := by
        cases k <;> simp_all [BayState.keptPack, BayState.dropsPack]
      have hpack : ((s.figured b q p).bay b).pack = some (copied s.cfg q p) := by
        rw [State.figured_bay_self]
        rfl
      rw [(h.figured q p).faultBay, State.departed_figured, hpack, hkept, List.append_assoc]
    have hwants : ∀ k, new = .fault k → (s.departed b new (awayPack s.cfg q p new)).told
        (ns ++ awayNotices s.cfg b q p (s.bay b) new (awayPack s.cfg q p new)) =
        (s.departed b (.fault k) (some (copied s.cfg q p))).told
          (ns ++ (retiredNotices s.cfg b q p ++ faultNotices b (.fault k) (some (copied s.cfg q p)))) := fun k hk => by
      have hpack : awayPack s.cfg q p new = some (copied s.cfg q p) := by
        rw [awayPack, if_pos hs, if_pos hs, ite_self]
      rw [hpack, awayNotices, if_pos hs, if_neg (fun hgone => hgone.2 hs), hk, List.append_nil]
    rw [if_pos (hsame.2 hs), State.told_copyFigures q ns hp]
    obtain ⟨hpresent, hdata, hserial⟩ := hs
    unfold takenAway at htake
    by_cases hstage : q.stageFault = true
    · rw [if_pos hstage] at htake ⊢
      rw [hfaulted _ (by simp), hwants _ (Option.some.inj htake).symm]
    rw [if_neg hstage] at htake ⊢
    rw [if_neg (by simp [hpresent]), if_neg hdata, if_neg (by simpa using hserial)] at htake
    rw [if_neg (by simp [hpresent]), if_neg (hother.not.2 fun ho => ho.2.2 hserial), if_neg hdata]
    unfold packFaultKind hotTemperature
    by_cases hfault : q.packFault = true
    · rw [if_pos hfault] at htake ⊢
      exact (hfaulted _ (by simp)).trans (hwants _ (Option.some.inj htake).symm).symm
    rw [if_neg hfault] at htake ⊢
    by_cases hhot : 600 ≤ q.temperature
    · rw [if_pos hhot] at htake ⊢
      exact (hfaulted _ (by simp)).trans (hwants _ (Option.some.inj htake).symm).symm
    · rw [if_neg hhot] at htake
      exact absurd htake (by simp)
  · rw [if_neg (hsame.not.2 hs)]
    unfold takenAway at htake
    by_cases hstage : q.stageFault = true
    · rw [if_pos hstage] at htake ⊢
      have hpack : awayPack s.cfg q p new = some p := by simp [awayPack, hstage, hs]
      obtain rfl := Option.some.inj htake
      rw [h.faultBay, hp, hpack, awayNotices, if_neg hs, if_neg (by simp [hstage])]
      rfl
    rw [if_neg hstage] at htake ⊢
    have hpack : awayPack s.cfg q p new = checkedPack s.cfg new q := by simp [awayPack, hstage, hs]
    have hnotices : awayNotices s.cfg b q p (s.bay b) new (awayPack s.cfg q p new) =
        missingNotices b (s.bay b) p ++ faultNotices b new (checkedPack s.cfg new q) := by
      rw [hpack, awayNotices, if_neg hs, if_pos ⟨Bool.eq_false_iff.2 hstage, hs⟩, List.nil_append]
    rw [hpack] at hnotices ⊢
    rw [hnotices, ← List.append_assoc]
    by_cases habsent : q.present = false
    · rw [if_pos habsent] at htake
      obtain rfl := Option.some.inj htake
      rw [if_pos (by simp [habsent]), h.packMissing hp]
      simp [checkedPack, faultNotices]
    · rw [if_neg habsent] at htake
      rw [if_neg (by simpa using habsent)]
      by_cases hdata : q.serial = 0
      · rw [if_pos hdata] at htake
        exact absurd htake (by simp)
      · rw [if_neg hdata] at htake
        have hne : q.serial ≠ p.serial := fun he => hs ⟨(Bool.not_eq_false _).mp habsent, hdata, he⟩
        rw [if_pos hne] at htake
        obtain rfl := Option.some.inj htake
        rw [if_pos (hother.2 ⟨(Bool.not_eq_false _).mp habsent, hdata, hne⟩), h.packMissing hp, State.told_checkPack_departed]

/-! ### The whole event -/

/-- In a sound part a bay that is not at the door can leave its state for a cause of its own. -/
theorem leavable_of_agree {s : State} {b : BayNo} (haway : (s.bay b).state.atDoor = false) (hboost : BoostSound s)
    (hagree : BindingsAgree s) (hn : (s.book.records.map (·.id)).Nodup) : Leavable b s := by
  refine ⟨haway, hboost.1 b, hn, fun id hid => ?_⟩
  obtain ⟨hrecords, hbays⟩ := hagree
  obtain ⟨r, hr, rfl, hbay⟩ := hbays b id hid
  have hrec := hrecords r hr
  unfold RecordAgrees at hrec
  unfold Reservation.bay at hbay
  refine ⟨r, hr, rfl, ?_⟩
  cases hst : r.state with
  | pending => simp [hst] at hbay
  | bound d =>
    obtain rfl : d = b := by simpa [hst] using hbay
    refine ⟨.inl rfl, fun hd => ?_⟩
    simp only [hst, hd, if_true] at hrec
    rw [hrec.2] at haway
    exact absurd haway (by decide)
  | ready d =>
    obtain rfl : d = b := by simpa [hst] using hbay
    refine ⟨.inr rfl, fun hd => ?_⟩
    simp only [hst, hd, if_true] at hrec
    rw [hrec.2] at haway
    exact absurd haway (by decide)
  | handover d p =>
    obtain rfl : d = b := by simpa [hst] using hbay
    simp only [hst] at hrec
    rw [hrec.2.1] at haway
    exact absurd haway (by decide)

theorem Leavable.received {s : State} {b : BayNo} (h : Leavable b s) (q : Report) : Leavable b (s.quiet.received b q) := by
  obtain ⟨haway, hboost, hids, hunbind⟩ := h
  have hbay : (s.quiet.received b q).bay b = reported q (s.bay b) := State.received_bay_self b q s.quiet
  refine ⟨?_, ?_, hids, fun id hid => hunbind id ?_⟩
  · rw [hbay]
    exact haway
  · rw [hbay]
    exact hboost
  · rw [hbay] at hid
    exact hid

/-- The bays after a departure that began with a report's receipt. -/
theorem State.departed_received_bays (b : BayNo) (q : Report) (new : BayState) (pack : Option Pack) (s : State) :
    ((s.quiet.received b q).departed b new pack).bays =
      s.bays.set b (movedTo new pack (reported q (s.bay b))) b.isLt := by
  show ((s.quiet.received b q).placed b new pack).bays = _
  rw [State.placed, State.received_bay_self]
  simp [State.received]

theorem State.departed_received_bay_other {b d : BayNo} (h : d ≠ b) (q : Report) (new : BayState) (pack : Option Pack)
    (s : State) : ((s.quiet.received b q).departed b new pack).bay d = s.bay d :=
  (State.placed_bay_other h new pack _).trans (State.received_bay_other h q s.quiet)

/-- Settles O26: `Leavable.reportAccepted`, the blocks after it being those of a departure. -/
theorem reportTakesPackAway : Obligations.ReportTakesPackAway := by
  intro b r p new s hr hboost hagree hn _ hok hf hst hp q x htake same kept pack gone
  have haway : (s.bay b).state.atDoor = false := by
    simp only [List.mem_cons, List.not_mem_nil, or_false] at hst
    obtain hst | hst | hst := hst <;> rw [hst] <;> rfl
  have hstate : ((s.quiet.received b q).bay b) = x := State.received_bay_self b q s.quiet
  have hrule : ((s.quiet.received b q).told (forcedNotices b q (s.bay b))).reportByState b (s.bay b).door q =
      ((s.quiet.received b q).told (forcedNotices b q (s.bay b))).reportAccepted b q := by
    have hkept : x.state = (s.bay b).state := rfl
    simp only [List.mem_cons, List.not_mem_nil, or_false] at hst
    unfold State.reportByState
    rw [State.told_bay, hstate, hkept]
    obtain hst | hst | hst := hst <;> rw [hst]
  have hleave := (leavable_of_agree haway hboost hagree hn).received q
  have hbody := hleave.reportAccepted (q := q) (new := new) (by rw [hstate]; exact hp) (by rw [hstate]; exact htake)
    (forcedNotices b q (s.bay b))
  obtain ⟨t, ht, heq, hraised, hreplied, hasked, -⟩ := exec_bayReport_ends hr hok hf (hrule.trans hbody) hr.run rfl
    fun d hd => State.departed_received_bay_other hd q _ _ s
  have hbays := (congrArg State.bays heq).trans (State.departed_received_bays b q new (awayPack s.cfg q p new) s)
  refine ⟨t, ht, ?_, hbays, ?_, ?_, hasked rfl, hreplied, ?_⟩
  · rw [heq]
    rfl
  · refine (congrArg State.book heq).trans ?_
    show (State.departed b new _ _).book = _
    rw [State.departed, hstate]
    rfl
  · rw [heq]
    rfl
  · rw [hstate, awayNotices, ← List.append_assoc, ← List.append_assoc] at hraised
    exact hraised

end Sys2Proof.Machine
end


section
/-! SUPPORT. Reports that leave a STOCK, HELD or READY bay its pack (R10 cases 6 and 7, R47, R48). -/

namespace Sys2Proof.Machine

open Sys2Proof.Machine.Safety

/-! ### The accepted pack stays -/

/-- A report that takes the bay from its pack by no case of R10 shows the pack, with its serial and without a fault or with no
pack data. -/
theorem takenAway_eq_none {mask : BitVec 4} {q : Report} {p : Pack} (h : takenAway mask q p = none) :
    q.stageFault = false ∧ q.present = true ∧
      (q.serial = 0 ∨ q.serial ≠ 0 ∧ q.serial = p.serial ∧ q.packFault = false ∧ ¬ 600 ≤ q.temperature) := by
  unfold takenAway at h
  split_ifs at h <;> simp_all

/-- The part with the figures of the accepted pack copied and its data timer stopped (R10, case 6). -/
def State.renewed (b : BayNo) (q : Report) (p : Pack) (s : State) : State :=
  { s with
    bays := s.bays.set b { Bay.figured s.cfg q p (s.bay b) with dataTimer := none } b.isLt
    plan := { s.plan with requested := s.plan.requested || figuresAsk s.cfg q p (s.bay b) } }

@[simp] theorem State.renewed_bay_self (b : BayNo) (q : Report) (p : Pack) (s : State) :
    (s.renewed b q p).bay b = { Bay.figured s.cfg q p (s.bay b) with dataTimer := none } := State.setBay_bay_self _ _ _

/-- The blocks after the receipt of a report and the copy of its figures. -/
theorem State.renewed_received (b : BayNo) (q : Report) (p : Pack) (s : State) :
    (s.quiet.received b q).renewed b q p =
      { s.quiet with
        bays := s.bays.set b { Bay.figured s.cfg q p (reported q (s.bay b)) with dataTimer := none } b.isLt
        plan := { s.plan with requested := s.plan.requested || figuresAsk s.cfg q p (reported q (s.bay b)) } } := by
  rw [State.renewed, State.received_bay_self]
  simp only [State.received, Vector.set_set]
  rfl

/-- An event asks for a pass just where its blocks say so. -/
theorem asked_or_kept {s t v : State} {a : Bool} (hasked : v.plan = { s.plan with requested := true } → PassAsked s t)
    (hkept : v.plan = s.plan → t.plan = s.plan)
    (hplan : v.plan = { s.plan with requested := s.plan.requested || a }) :
    if a = true then PassAsked s t else t.plan = s.plan := by
  cases a with
  | true => exact hasked (hplan.trans (by rw [Bool.or_true]))
  | false => exact hkept (hplan.trans (by rw [Bool.or_false]))

/-- R10, case 7: no pack data. -/
theorem State.reportAccepted_noData {s : State} {b : BayNo} {p : Pack} {q : Report} (hp : (s.bay b).pack = some p)
    (htake : takenAway (s.bay b).mask q p = none) (hdata : q.serial = 0) (ns : List Notice) :
    (s.told ns).reportAccepted b q =
      (s.setBay b { s.bay b with dataTimer := some ((s.bay b).dataTimer.getD 10000) }).told ns := by
  obtain ⟨hstage, hpresent, -⟩ := takenAway_eq_none htake
  have hsame : ¬ (s.bay b).sameSerial q = true := (Bay.sameSerial_iff hp).not.2 fun h => h.2.1 hdata
  have hother : ¬ (s.bay b).otherSerial q = true := (Bay.otherSerial_iff hp).not.2 fun h => h.2.1 hdata
  unfold State.reportAccepted
  simp only [State.told_bay, hsame, hother, hstage, hpresent, hdata, Bool.not_true, Bool.false_eq_true, if_false, if_true,
    State.startDataTimer, State.told_setBay, dataMillis]

/-- R10, case 6: the accepted pack reports its figures. -/
theorem State.reportAccepted_figures {s : State} {b : BayNo} {p : Pack} {q : Report} (hp : (s.bay b).pack = some p)
    (htake : takenAway (s.bay b).mask q p = none) (hdata : q.serial ≠ 0) (ns : List Notice) :
    (s.told ns).reportAccepted b q =
      ((s.renewed b q p).told (ns ++ retiredNotices s.cfg b q p)).passSoc b q.soc := by
  obtain ⟨hstage, hpresent, hshown⟩ := takenAway_eq_none htake
  obtain ⟨-, hserial, hfault, hhot⟩ := hshown.resolve_left hdata
  have hsame : (s.bay b).sameSerial q = true := (Bay.sameSerial_iff hp).2 ⟨hpresent, hdata, hserial⟩
  have hother : ¬ (s.bay b).otherSerial q = true := (Bay.otherSerial_iff hp).not.2 fun h => h.2.2 hserial
  have hkind : packFaultKind q = none := by simp [packFaultKind, hotTemperature, hfault, hhot]
  have hstop : ∀ ms, ((s.figured b q p).told ms).stopDataTimer b = (s.renewed b q p).told ms := fun ms => by
    rw [State.stopDataTimer, State.told_setBay, State.told_bay, State.figured_bay_self]
    simp [State.figured, State.renewed, State.setBay]
  unfold State.reportAccepted
  simp only [State.told_bay, hsame, hother, hstage, hpresent, hdata, hkind, Bool.not_true, Bool.false_eq_true, if_false, if_true,
    State.told_copyFigures q ns hp, hstop]

/-! ### STOCK -/

theorem State.passSoc_stock {s : State} {b : BayNo} (soc : Nat) (h : (s.bay b).state = .stock) : s.passSoc b soc = s := by
  obtain heq | ⟨id, r, -, -, ⟨hst, -⟩ | ⟨hst, -⟩⟩ := s.passSoc_cases b soc
  · exact heq
  · rw [h] at hst
    exact absurd hst (by simp)
  · rw [h] at hst
    exact absurd hst (by simp)

/-- The rule of the state of a bay with an accepted pack, at the receipt of a report. -/
theorem State.reportByState_accepted {s : State} {b : BayNo} {q : Report} {ns : List Notice}
    (h : (s.bay b).state ∈ [.stock, .held, .ready]) :
    ((s.quiet.received b q).told ns).reportByState b (s.bay b).door q =
      ((s.quiet.received b q).told ns).reportAccepted b q := by
  have hstate : ((s.quiet.received b q).bay b).state = (s.bay b).state := by
    rw [State.received_bay_self]
    rfl
  simp only [List.mem_cons, List.not_mem_nil, or_false] at h
  unfold State.reportByState
  rw [State.told_bay, hstate]
  obtain h | h | h := h <;> rw [h]

/-- Settles O27. -/
theorem reportKeepsStockPack : Obligations.ReportKeepsStockPack := by
  intro b r p s hr hok hf hst hp q x htake y
  have hbay : (s.quiet.received b q).bay b = x := State.received_bay_self b q s.quiet
  have hrule := State.reportByState_accepted (b := b) (q := q) (ns := forcedNotices b q (s.bay b)) (s := s) (by simp [hst])
  have hother : ∀ {d}, d ≠ b → ∀ z : Bay, ((s.quiet.received b q).setBay b z).bay d = s.bay d := fun hd z => by
    rw [State.setBay_bay, if_neg (Ne.symm hd), State.received_bay_other hd]
    rfl
  by_cases hdata : q.serial = 0
  · have hy : y = { x with dataTimer := some (x.dataTimer.getD 10000) } := if_pos hdata
    have hbody := State.reportAccepted_noData (by rw [hbay]; exact hp) (by rw [hbay]; exact htake) hdata
      (forcedNotices b q (s.bay b))
    obtain ⟨t, ht, heq, hraised, hreplied, -, hkept⟩ := exec_bayReport_ends hr hok hf (hrule.trans hbody) hr.run rfl
      fun d hd => hother hd _
    refine ⟨t, ht, ?_, hreplied, ?_, ?_⟩
    · rw [heq, hbay, hy]
      simp [State.setBay, State.received]
    · rw [if_neg fun h => h.1 hdata]
      exact hkept rfl
    · rw [if_pos hdata, List.append_nil]
      exact hraised
  · have hfigured : Bay.figured s.cfg q p x =
        { x with
          pack := some (copied s.cfg q p)
          setpoint := if q.health < s.cfg.retireThreshold ∨ s.cfg.stockTarget ≤ q.soc then 0 else x.setpoint } := by
      have hstock : x.state = .stock := hst
      unfold Bay.figured Bay.writeSetpoint Bay.chargeable
      simp only [hstock, Option.map_some, Option.getD_some, Pack.chargeable, copied]
      by_cases h1 : q.health < s.cfg.retireThreshold <;> by_cases h2 : s.cfg.stockTarget ≤ q.soc <;> simp [h1, h2]
    have hy : y = { Bay.figured s.cfg q p x with dataTimer := none } := (if_neg hdata).trans (by rw [hfigured])
    have hask : figuresAsk s.cfg q p x = true ↔
        q.serial ≠ 0 ∧ ((copied s.cfg q p).retired ≠ p.retired ∨ y.chargeable s.cfg ≠ (s.bay b).chargeable s.cfg) := by
      rw [figuresAsk, decide_eq_true_iff, hy]
      exact ⟨fun h => ⟨hdata, h⟩, fun h => h.2⟩
    have hbody := (State.reportAccepted_figures (q := q) (by rw [hbay]; exact hp) (by rw [hbay]; exact htake) hdata
      (forcedNotices b q (s.bay b))).trans (State.passSoc_stock q.soc (by
        rw [State.told_bay, State.renewed_bay_self, hbay]
        exact hst))
    rw [State.renewed_received] at hbody
    obtain ⟨t, ht, heq, hraised, hreplied, hasked, hkept⟩ := exec_bayReport_ends hr hok hf (hrule.trans hbody) hr.run rfl
      fun d hd => (State.setBay_bay s b d _).trans (if_neg (Ne.symm hd))
    refine ⟨t, ht, ?_, hreplied, ?_, ?_⟩
    · rw [heq, hy]
      rfl
    · have hplan : if figuresAsk s.cfg q p x = true then PassAsked s t else t.plan = s.plan :=
        asked_or_kept hasked hkept rfl
      rwa [if_congr hask rfl rfl] at hplan
    · rw [if_neg hdata]
      exact hraised

/-! ### HELD and READY: the crossing of the target (R47, R48) -/

section
variable {s : State} {b : BayNo} {rec : Reservation} {soc : Nat} (ns : List Notice)

theorem State.told_passSoc_up (hres : (s.bay b).reservation = some rec.id) (hfound : s.book.byId rec.id = some rec)
    (hst : (s.bay b).state = .held) (hrec : rec.state = .bound b) (hsoc : rec.target ≤ soc) :
    (s.told ns).passSoc b soc =
      ((s.enterBay b .ready).updateRecord rec.id fun r => { r with state := .ready b, late := false }).told ns := by
  unfold State.passSoc
  simp only [State.told_bay, State.told_book, hres, Option.bind_some, hfound, hst, hrec, ge_iff_le, hsoc, and_self, if_true,
    State.told_enterBay, State.told_updateRecord]

theorem State.told_passSoc_down (hres : (s.bay b).reservation = some rec.id) (hfound : s.book.byId rec.id = some rec)
    (hst : (s.bay b).state = .ready) (hrec : rec.state = .ready b) (hsoc : soc + 30 < rec.target) :
    (s.told ns).passSoc b soc =
      ((s.enterBay b .held).updateRecord rec.id fun r => { r with state := .bound b, late := false }).told ns := by
  unfold State.passSoc
  simp only [State.told_bay, State.told_book, hres, Option.bind_some, hfound, hst, hrec, hsoc, and_self, if_true,
    State.told_enterBay, State.told_updateRecord]

/-- A soc that crosses nothing. -/
theorem State.passSoc_stays (hres : (s.bay b).reservation = some rec.id) (hfound : s.book.byId rec.id = some rec)
    (hup : ¬ ((s.bay b).state = .held ∧ rec.target ≤ soc)) (hdown : ¬ ((s.bay b).state = .ready ∧ soc + 30 < rec.target)) :
    s.passSoc b soc = s := by
  obtain heq | ⟨id, r, hid, hr, hcross⟩ := s.passSoc_cases b soc
  · exact heq
  · obtain rfl : rec.id = id := Option.some.inj (hres.symm.trans hid)
    obtain rfl : rec = r := Option.some.inj (hfound.symm.trans hr)
    obtain ⟨hst, -, hsoc, -⟩ | ⟨hst, -, hsoc, -⟩ := hcross
    · exact absurd ⟨hst, hsoc⟩ hup
    · exact absurd ⟨hst, hsoc⟩ hdown

end

/-- A bay that goes between HELD and READY keeps all but its state, and its setpoint unless it comes to READY (R1, R21). -/
theorem Bay.entering_crossing {cfg : Setup} {new : BayState} {x : Bay} (hx : x.state = .held ∨ x.state = .ready)
    (hnew : new = .held ∨ new = .ready) (hfault : x.pendingFault = none) (hhand : x.handover = none) :
    x.entering cfg new = { x with state := new, setpoint := if new = .held then x.setpoint else 0 } := by
  have hlock : lockEntering x.state new x.door x.locked x.lockPending = (x.locked, x.lockPending) := by
    obtain hx | hx := hx <;> obtain rfl | rfl := hnew <;> rw [hx] <;> rfl
  have htimer : timerEntering x.state new x.dataTimer = x.dataTimer := by
    obtain hx | hx := hx <;> obtain rfl | rfl := hnew <;> rw [hx] <;> rfl
  unfold Bay.entering Bay.writeSetpoint Bay.chargeable
  simp only [hlock, htimer, hfault, hhand, ite_self]
  obtain rfl | rfl := hnew <;> rfl

section
variable {s : State} {b : BayNo} (hfault : (s.bay b).pendingFault = none) (hhand : (s.bay b).handover = none)
include hfault hhand

theorem State.enterBay_ready (hst : (s.bay b).state = .held)
    (hboost : (s.bay b).boost = decide (s.boost.converter.holder = some b)) :
    s.enterBay b .ready =
      { s with
        bays := s.bays.set b { s.bay b with state := .ready, setpoint := 0, boost := false } b.isLt
        boost := arbiterLeft b .ready s.boost, plan := { s.plan with requested := true } } := by
  have hends : endsGrant b .ready s.boost = decide (s.boost.converter.holder = some b) := by
    simp [endsGrant, BayState.eligible]
  rw [State.enterBay_eq, Bay.entering_crossing (.inl hst) (.inr rfl) hfault hhand, hends, hboost]
  simp [arbiterLeft, switchMillis]

theorem State.enterBay_held (hst : (s.bay b).state = .ready) :
    s.enterBay b .held =
      { s with
        bays := s.bays.set b { s.bay b with state := .held } b.isLt
        boost := { s.boost with eligible := s.boost.eligible.set b true b.isLt }
        plan := { s.plan with requested := true } } := by
  have hends : endsGrant b .held s.boost = false := by simp [endsGrant, BayState.eligible]
  rw [State.enterBay_eq, Bay.entering_crossing (.inr hst) (.inl rfl) hfault hhand, hends]
  simp [BayState.eligible]

end

/-- The part, nothing put out, with a bay's record rewritten from a report, a pass requested where `ask` says so. -/
def State.refreshed (b : BayNo) (y : Bay) (ask : Bool) (s : State) : State :=
  { s.quiet with bays := s.bays.set b y b.isLt, plan := { s.plan with requested := s.plan.requested || ask } }

theorem State.refreshed_bay_self (b : BayNo) (y : Bay) (ask : Bool) (s : State) : (s.refreshed b y ask).bay b = y :=
  State.setBay_bay_self s b y

theorem State.refreshed_bay_other {b d : BayNo} (h : d ≠ b) (y : Bay) (ask : Bool) (s : State) :
    (s.refreshed b y ask).bay d = s.bay d := (State.setBay_bay s b d y).trans (if_neg (Ne.symm h))

/-- The book after the crossing of a record's target: its new state and late no (R47, R48). -/
theorem State.updateRecord_crossed (id : Nat) (st : RecordState) (s : State) :
    s.updateRecord id (fun r => { r with state := st, late := false }) =
      { s with book := { s.book with
        records := s.book.records.map fun z => if z.id = id then { z with state := st, late := false } else z } } := by
  simp only [State.updateRecord, beq_iff_eq]

/-- Settles O28: without pack data the report is one of `reportAccepted_noData`, and otherwise the soc passed on crosses the
record's target or not. -/
theorem reportCrossesTarget : Obligations.ReportCrossesTarget := by
  intro b r p rec s hr hboost hfields hset hn hok hf hp hrec hres hst q x htake y up down recordAfter
  obtain ⟨hpending, -, -, -, hhandover, -⟩ := hfields
  have haccepted : (s.bay b).state = .held ∨ (s.bay b).state = .ready := hst.imp (·.1) (·.1)
  have hfree : x.pendingFault = none ∧ x.handover = none := by
    have haway : (s.bay b).state.atDoor = false := by obtain h | h := haccepted <;> rw [h] <;> rfl
    refine ⟨Option.eq_none_iff_forall_ne_some.2 fun k hk => ?_, Option.isNone_iff_eq_none.1 ?_⟩
    · exact absurd (hpending k hk).1 (by rw [haway]; simp)
    · rw [haway] at hhandover
      show (s.bay b).handover.isNone = true
      rw [← Option.not_isSome, hhandover]
      rfl
  have hbay : (s.quiet.received b q).bay b = x := State.received_bay_self b q s.quiet
  have hfound := Book.byId_of_mem hn hrec
  have hrule := State.reportByState_accepted (b := b) (q := q) (ns := forcedNotices b q (s.bay b)) (s := s)
    (by obtain h | h := haccepted <;> simp [h])
  by_cases hdata : q.serial = 0
  · have hy : y = { x with dataTimer := some (x.dataTimer.getD 10000) } := if_pos hdata
    have hbody := State.reportAccepted_noData (by rw [hbay]; exact hp) (by rw [hbay]; exact htake) hdata
      (forcedNotices b q (s.bay b))
    obtain ⟨t, ht, heq, hraised, hreplied, -, hkept⟩ := exec_bayReport_ends hr hok hf (hrule.trans hbody) hr.run rfl
      fun d hd => (State.setBay_bay _ b d _).trans ((if_neg (Ne.symm hd)).trans (State.received_bay_other hd q s.quiet))
    refine ⟨t, ht, ?_, hreplied, ?_, fun h => absurd hdata h.1, fun h => absurd hdata h.1, fun _ _ => ⟨?_, ?_, ?_, ?_⟩⟩
    · rw [heq]
      rfl
    · rw [if_pos hdata, List.append_nil]
      exact hraised
    · rw [heq, hy, hbay]
      simp [State.setBay, State.received]
    · rw [heq]
      rfl
    · rw [heq]
      rfl
    · rw [if_neg fun h => h.1 hdata]
      exact hkept rfl
  · have hy : y = { x with pack := some (copied s.cfg q p), dataTimer := none } := if_neg hdata
    have hxst : x.state = .held ∨ x.state = .ready := haccepted
    have hfigured : ({ Bay.figured s.cfg q p x with dataTimer := none } : Bay) = y := by
      rw [hy]
      unfold Bay.figured Bay.writeSetpoint Bay.chargeable
      obtain h | h := hxst
      · simp [h]
      · have hzero : x.setpoint = 0 := hset.2.2 (by unfold Bay.chargeable; rw [show (s.bay b).state = .ready from h])
        simp [h, hzero]
    have hask : figuresAsk s.cfg q p x = true ↔ q.serial ≠ 0 ∧ (copied s.cfg q p).retired ≠ p.retired := by
      rw [figuresAsk, decide_eq_true_iff]
      unfold Bay.chargeable
      obtain h | h := hxst <;> simp [h, hdata]
    have hbody := State.reportAccepted_figures (q := q) (by rw [hbay]; exact hp) (by rw [hbay]; exact htake) hdata
      (forcedNotices b q (s.bay b))
    have hv : (s.quiet.received b q).renewed b q p = s.refreshed b y (figuresAsk s.cfg q p x) :=
      (State.renewed_received b q p s).trans (by rw [← hfigured]; rfl)
    have hvbay := s.refreshed_bay_self b y (figuresAsk s.cfg q p x)
    have hother : ∀ (z : Bay) {d}, d ≠ b → ((s.bays.set b y b.isLt).set b z b.isLt)[d] = s.bay d := fun z d hd =>
      (State.setBay_bay { s with bays := s.bays.set b y b.isLt } b d z).trans
        ((if_neg (Ne.symm hd)).trans ((State.setBay_bay s b d y).trans (if_neg (Ne.symm hd))))
    obtain ⟨hyst, hyres, hyfault, hyhand, hyboost⟩ : y.state = (s.bay b).state ∧ y.reservation = some rec.id ∧
        y.pendingFault = none ∧ y.handover = none ∧ y.boost = decide (s.boost.converter.holder = some b) := by
      rw [hy]
      exact ⟨rfl, hres, hfree.1, hfree.2, hboost.1 b⟩
    rw [hv] at hbody
    by_cases hup : (s.bay b).state = .held ∧ rec.target ≤ q.soc
    · obtain ⟨hheld, hsoc⟩ := hup
      have hbound : rec.state = .bound b := by simpa [hheld] using hst
      have hpass := State.told_passSoc_up (forcedNotices b q (s.bay b) ++ retiredNotices s.cfg b q p)
        (s := s.refreshed b y (figuresAsk s.cfg q p x)) (by rw [hvbay]; exact hyres) hfound (by rw [hvbay, hyst, hheld]) hbound hsoc
      rw [State.enterBay_ready (by rw [hvbay]; exact hyfault) (by rw [hvbay]; exact hyhand) (by rw [hvbay, hyst, hheld])
        (by rw [hvbay]; exact hyboost), hvbay, State.updateRecord_crossed] at hpass
      obtain ⟨t, ht, heq, hraised, hreplied, hasked, -⟩ := exec_bayReport_ends hr hok hf (hrule.trans (hbody.trans hpass)) hr.run
        rfl fun d hd => hother _ hd
      refine ⟨t, ht, ?_, hreplied, ?_, fun _ => ⟨?_, ?_, ?_, hasked rfl⟩, fun h => ?_, fun h => ?_⟩
      · rw [heq]
        rfl
      · rw [if_neg hdata]
        exact hraised
      · rw [heq]
        simp [State.refreshed]
      · rw [heq]
        rfl
      · rw [heq]
        rfl
      · exact absurd (hheld.symm.trans h.2.1) (by simp)
      · exact absurd ⟨hdata, hheld, hsoc⟩ h
    by_cases hdown : (s.bay b).state = .ready ∧ q.soc + 30 < rec.target
    · obtain ⟨hready, hsoc⟩ := hdown
      have hrecst : rec.state = .ready b := by simpa [hready] using hst
      have hpass := State.told_passSoc_down (forcedNotices b q (s.bay b) ++ retiredNotices s.cfg b q p)
        (s := s.refreshed b y (figuresAsk s.cfg q p x)) (by rw [hvbay]; exact hyres) hfound (by rw [hvbay, hyst, hready]) hrecst
        hsoc
      rw [State.enterBay_held (by rw [hvbay]; exact hyfault) (by rw [hvbay]; exact hyhand) (by rw [hvbay, hyst, hready]), hvbay,
        State.updateRecord_crossed] at hpass
      obtain ⟨t, ht, heq, hraised, hreplied, hasked, -⟩ := exec_bayReport_ends hr hok hf (hrule.trans (hbody.trans hpass)) hr.run
        rfl fun d hd => hother _ hd
      refine ⟨t, ht, ?_, hreplied, ?_, fun h => ?_, fun _ => ⟨?_, ?_, ?_, hasked rfl⟩, fun _ h => ?_⟩
      · rw [heq]
        rfl
      · rw [if_neg hdata]
        exact hraised
      · exact absurd (hready.symm.trans h.2.1) (by simp)
      · rw [heq]
        simp [State.refreshed]
      · rw [heq]
        rfl
      · rw [heq]
        rfl
      · exact absurd ⟨hdata, hready, hsoc⟩ h
    · have hpass := State.passSoc_stays (soc := q.soc) (b := b) (rec := rec)
        (s := (s.refreshed b y (figuresAsk s.cfg q p x)).told (forcedNotices b q (s.bay b) ++ retiredNotices s.cfg b q p))
        (by rw [State.told_bay, hvbay]; exact hyres) (by rw [State.told_book]; exact hfound)
        (by rw [State.told_bay, hvbay, hyst]; exact hup) (by rw [State.told_bay, hvbay, hyst]; exact hdown)
      obtain ⟨t, ht, heq, hraised, hreplied, hasked, hkept⟩ := exec_bayReport_ends hr hok hf (hrule.trans (hbody.trans hpass))
        hr.run rfl fun d hd => State.refreshed_bay_other hd y _ s
      refine ⟨t, ht, ?_, hreplied, ?_, fun h => absurd h.2 hup, fun h => absurd h.2 hdown, fun _ _ => ⟨?_, ?_, ?_, ?_⟩⟩
      · rw [heq]
        rfl
      · rw [if_neg hdata]
        exact hraised
      · rw [heq]
        rfl
      · rw [heq]
        rfl
      · rw [heq]
        rfl
      · have hplan : if figuresAsk s.cfg q p x = true then PassAsked s t else t.plan = s.plan :=
          asked_or_kept hasked hkept rfl
        rwa [if_congr hask rfl rfl] at hplan

end Sys2Proof.Machine
end


section
/-! SUPPORT. Reports to a bay in FAULT (R13). -/

namespace Sys2Proof.Machine

open Sys2Proof.Machine.Safety

theorem arbiterLeft_other {b : BayNo} {a : Arbiter} (new : BayState) (h : a.converter.holder ≠ some b) :
    arbiterLeft b new a = { a with eligible := a.eligible.set b new.eligible b.isLt } := by
  rw [arbiterLeft, if_neg h]

/-- The figures of a pack in a bay with setpoint 0 (R3, R21). -/
theorem Bay.figured_uncharged {cfg : Setup} {q : Report} {p : Pack} {x : Bay}
    (hzero : x.setpoint = 0) : Bay.figured cfg q p x = { x with pack := some (copied cfg q p) } := by
  unfold Bay.figured Bay.writeSetpoint
  rw [hzero, ite_self]

/-- A bay that is neither HELD nor STOCK is never chargeable, so the figures ask for a pass by the retired flag alone. -/
theorem figuresAsk_of_not_eligible {cfg : Setup} {q : Report} {p : Pack} {x : Bay} (hx : x.state.eligible = false) :
    figuresAsk cfg q p x = true ↔ (copied cfg q p).retired ≠ p.retired := by
  rw [figuresAsk, decide_eq_true_iff, Bay.chargeable_of_not_eligible (b := x) hx,
    Bay.chargeable_of_not_eligible (b := { x with pack := some (copied cfg q p) }) hx]
  simp

/-- What the FAULT rules need of the part: the bay is not at the door, does not hold the converter and names no record. -/
structure Idle (b : BayNo) (s : State) : Prop where
  away : (s.bay b).state.atDoor = false
  holder : s.boost.converter.holder ≠ some b
  boost : (s.bay b).boost = false
  free : (s.bay b).reservation = none

section
variable {s : State} {b : BayNo} (h : Idle b s)
include h

theorem Idle.boosted : (s.bay b).boost = decide (s.boost.converter.holder = some b) := by
  rw [h.boost]
  exact (decide_eq_false h.holder).symm

theorem Idle.enterEmpty (ns : List Notice) : (s.told ns).enterBay b .empty = (s.placed b .empty none).told ns := by
  rw [State.told_enterBay, State.enterBay_away (.inl h.away) rfl h.boosted (by simp)]
  rfl

theorem Idle.setPack (p : Option Pack) : Idle b (s.setBay b { s.bay b with pack := p }) := by
  refine ⟨?_, h.holder, ?_, ?_⟩
  · rw [State.setBay_bay_self]
    exact h.away
  · rw [State.setBay_bay_self]
    exact h.boost
  · rw [State.setBay_bay_self]
    exact h.free

theorem Idle.faultBay (k : FaultKind) (ns : List Notice) :
    (s.told ns).faultBay b k =
      (s.placed b (.fault k) (BayState.keptPack (.fault k) (s.bay b).pack)).told
        (ns ++ faultNotices b (.fault k) (BayState.keptPack (.fault k) (s.bay b).pack)) := by
  unfold State.faultBay
  simp only [State.told_bay, h.free, State.told_enterBay,
    State.enterBay_away (new := .fault k) (.inl h.away) rfl h.boosted (by simp), State.placed_bay_self, State.told_raise]
  rfl

/-- The report ends a fault, and the CHECKING rule takes it on. -/
theorem Idle.checkPack (q : Report) (ns : List Notice) :
    (s.told ns).checkPack b q =
      (s.placed b (checkedState (s.bay b).mask q) (checkedPack s.cfg (checkedState (s.bay b).mask q) q)).told
        (ns ++ faultNotices b (checkedState (s.bay b).mask q) (checkedPack s.cfg (checkedState (s.bay b).mask q) q)) :=
  State.told_checkPack q ns h.away h.boosted

end

theorem State.placed_setPack (b : BayNo) (new : BayState) (p q : Option Pack) (s : State) :
    (s.setBay b { s.bay b with pack := p }).placed b new q = s.placed b new q := by
  rw [State.placed, State.setBay_bay_self]
  simp [State.placed, State.setBay, movedTo]

/-- An absent pack ends a fault in EMPTY, as the CHECKING rule has it too. -/
theorem checkedState_absent {mask : BitVec 4} {q : Report} (hstage : q.stageFault = false) (habsent : q.present = false) :
    checkedState mask q = .empty := by
  simp [checkedState, hstage, habsent]

section
variable {s : State} {b : BayNo} {q : Report} (h : Idle b s) (ns : List Notice)
include h

/-- R13, a report that ends a stage fault. -/
theorem Idle.reportStageFault_ends (hstage : q.stageFault = false) :
    (s.told ns).reportStageFault b q =
      (s.placed b (checkedState (s.bay b).mask q) (checkedPack s.cfg (checkedState (s.bay b).mask q) q)).told
        (ns ++ faultNotices b (checkedState (s.bay b).mask q) (checkedPack s.cfg (checkedState (s.bay b).mask q) q)) := by
  unfold State.reportStageFault
  rw [if_neg (by simp [hstage])]
  by_cases hpresent : q.present = true
  · rw [if_pos hpresent, h.checkPack]
  · rw [if_neg hpresent, h.enterEmpty, checkedState_absent hstage (Bool.eq_false_iff.2 hpresent)]
    simp [checkedPack, faultNotices]

omit h in
/-- R13, a report that leaves a stage fault in place. -/
theorem State.reportStageFault_stays (hstage : q.stageFault = true) :
    (s.told ns).reportStageFault b q =
      (s.setBay b (if q.present = true then s.bay b else { s.bay b with pack := none })).told ns := by
  unfold State.reportStageFault
  rw [if_pos hstage]
  by_cases hpresent : q.present = true
  · rw [if_pos hpresent, if_pos hpresent, State.setBay_same]
  · rw [if_neg hpresent, if_neg hpresent, State.told_bay, State.told_setBay]

/-- R13, a report that ends a fault of another kind. -/
theorem Idle.reportPackFault_ends {kind : FaultKind} {new : BayState} (hk : kind ≠ .stageFault)
    (hends : faultEnds kind (s.bay b).pack (s.bay b).mask q = some new) :
    (s.told ns).reportPackFault b q =
      (s.placed b new (checkedPack s.cfg new q)).told (ns ++ faultNotices b new (checkedPack s.cfg new q)) := by
  unfold faultEnds at hends
  rw [if_neg hk] at hends
  unfold State.reportPackFault
  by_cases hpresent : q.present = true
  · rw [if_neg (by simp [hpresent])] at hends ⊢
    by_cases hother : q.serial ≠ 0 ∧ ∃ p, (s.bay b).pack = some p ∧ q.serial ≠ p.serial
    · rw [if_pos hother] at hends
      obtain ⟨hdata, p, hp, hne⟩ := hother
      obtain rfl := Option.some.inj hends
      rw [State.told_bay, if_pos ((Bay.otherSerial_iff hp).2 ⟨hpresent, hdata, hne⟩), h.checkPack]
    · rw [if_neg hother] at hends
      exact absurd hends (by simp)
  · have habsent : q.present = false := Bool.eq_false_iff.2 hpresent
    rw [if_pos habsent] at hends
    rw [if_pos (by simp [habsent])]
    by_cases hstage : q.stageFault = true
    · rw [if_pos hstage] at hends ⊢
      obtain rfl := Option.some.inj hends
      rw [State.told_bay, State.told_setBay, (h.setPack none).faultBay, State.setBay_bay_self, State.placed_setPack]
      rfl
    · rw [if_neg hstage] at hends ⊢
      obtain rfl := Option.some.inj hends
      rw [h.enterEmpty]
      simp [checkedPack, faultNotices]

omit h in
/-- R13, a report that leaves a fault of another kind in place shows the pack. -/
theorem faultEnds_none {kind : FaultKind} {x : Bay} (hk : kind ≠ .stageFault) (hends : faultEnds kind x.pack x.mask q = none) :
    q.present = true ∧ ∀ p, x.pack = some p → q.serial = 0 ∨ q.serial = p.serial := by
  unfold faultEnds at hends
  rw [if_neg hk] at hends
  by_cases hpresent : q.present = true
  · refine ⟨hpresent, fun p hp => ?_⟩
    rw [if_neg (by simp [hpresent])] at hends
    by_contra hne
    rw [if_pos ⟨fun h0 => hne (.inl h0), p, hp, fun h1 => hne (.inr h1)⟩] at hends
    exact absurd hends (by simp)
  · rw [if_pos (Bool.eq_false_iff.2 hpresent)] at hends
    split at hends <;> exact absurd hends (by simp)

omit h in
theorem State.reportPackFault_copies {kind : FaultKind} {p : Pack} (hk : kind ≠ .stageFault)
    (hends : faultEnds kind (s.bay b).pack (s.bay b).mask q = none) (hp : (s.bay b).pack = some p) (hsame : sameAs q p) :
    (s.told ns).reportPackFault b q = (s.figured b q p).told (ns ++ retiredNotices s.cfg b q p) := by
  obtain ⟨hpresent, -⟩ := faultEnds_none hk hends
  unfold State.reportPackFault
  rw [if_neg (by simp [hpresent]), State.told_bay, if_neg ((Bay.otherSerial_iff hp).not.2 fun ho => ho.2.2 hsame.2.2),
    if_pos ((Bay.sameSerial_iff hp).2 hsame), State.told_copyFigures q ns hp]

omit h in
theorem State.reportPackFault_stays {kind : FaultKind} (hk : kind ≠ .stageFault)
    (hends : faultEnds kind (s.bay b).pack (s.bay b).mask q = none)
    (hnone : ∀ p, (s.bay b).pack = some p → ¬ sameAs q p) : (s.told ns).reportPackFault b q = s.told ns := by
  obtain ⟨hpresent, hserial⟩ := faultEnds_none hk hends
  have hsame : ¬ (s.bay b).sameSerial q = true := by
    cases hp : (s.bay b).pack with
    | none => simp [Bay.sameSerial, hp]
    | some p => exact (Bay.sameSerial_iff hp).not.2 (hnone p hp)
  have hother : ¬ (s.bay b).otherSerial q = true := by
    cases hp : (s.bay b).pack with
    | none => simp [Bay.otherSerial, hp]
    | some p => exact (Bay.otherSerial_iff hp).not.2 fun ho => (hserial p hp).elim ho.2.1 ho.2.2
  unfold State.reportPackFault
  rw [if_neg (by simp [hpresent]), State.told_bay, if_neg hother, if_neg hsame]

end

/-! ### The whole event -/

/-- A bay in FAULT or OFF of a sound part. -/
theorem idle_of_fields {s : State} {b : BayNo} (hboost : BoostSound s) (hfields : BayFields (s.bay b))
    (haway : (s.bay b).state.atDoor = false ∧ (s.bay b).state.eligible = false ∧ (s.bay b).state.reserved = false) :
    Idle b s := by
  obtain ⟨hdoor, helig, hres⟩ := haway
  obtain ⟨hholder, hno, -⟩ := boost_of_not_eligible (b := b) hboost helig
  obtain ⟨-, -, -, hreserved, -, -⟩ := hfields
  refine ⟨hdoor, hholder, hno, ?_⟩
  rw [hres] at hreserved
  simpa using hreserved

theorem Idle.received {s : State} {b : BayNo} (h : Idle b s) (q : Report) : Idle b (s.quiet.received b q) := by
  have hbay : (s.quiet.received b q).bay b = reported q (s.bay b) := State.received_bay_self b q s.quiet
  exact ⟨by rw [hbay]; exact h.away, h.holder, by rw [hbay]; exact h.boost, by rw [hbay]; exact h.free⟩

/-- The bays after a move that began with a report's receipt. -/
theorem State.placed_received_bays (b : BayNo) (q : Report) (new : BayState) (pack : Option Pack) (s : State) :
    ((s.quiet.received b q).placed b new pack).bays = s.bays.set b (movedTo new pack (reported q (s.bay b))) b.isLt :=
  State.departed_received_bays b q new pack s

theorem State.figured_received (b : BayNo) (q : Report) (p : Pack) (s : State) :
    (s.quiet.received b q).figured b q p =
      s.refreshed b (Bay.figured s.cfg q p (reported q (s.bay b))) (figuresAsk s.cfg q p (reported q (s.bay b))) := by
  rw [State.figured, State.received_bay_self]
  simp only [State.received, Vector.set_set]
  rfl

theorem State.setBay_received (b : BayNo) (q : Report) (y : Bay) (s : State) :
    (s.quiet.received b q).setBay b y = s.refreshed b y false := by
  simp [State.received, State.setBay, State.refreshed]

/-- A report of a bay in FAULT that ends the event with a move to another state. -/
theorem exec_bayReport_moves {b : BayNo} {r : Report} {s : State} {new : BayState} {pack : Option Pack} {ns : List Notice}
    (hr : Running s) (hok : r.checkOk = true) (hf : r.boostFault = false) (h : Idle b s)
    (hbody : ((s.quiet.received b (limitReport r)).told (forcedNotices b (limitReport r) (s.bay b))).reportByState b
      (s.bay b).door (limitReport r) = ((s.quiet.received b (limitReport r)).placed b new pack).told ns) :
    ∃ t, exec (.bayReport b r) s = .next t ∧
      t = { s with bays := t.bays, plan := t.plan, boost := t.boost, flags := t.flags, line := t.line, out := t.out } ∧
      Replied b t ∧ t.bays = s.bays.set b (movedTo new pack (reported (limitReport r) (s.bay b))) b.isLt ∧
      t.boost = { s.boost with eligible := s.boost.eligible.set b new.eligible b.isLt } ∧ PassAsked s t ∧ Raised ns s t := by
  obtain ⟨t, ht, heq, hraised, hreplied, hasked, -⟩ := exec_bayReport_ends hr hok hf hbody hr.run rfl
    fun d hd => (State.placed_bay_other hd new pack _).trans (State.received_bay_other hd _ s.quiet)
  refine ⟨t, ht, ?_, hreplied, ?_, ?_, hasked rfl, hraised⟩
  · rw [heq]
    rfl
  · rw [heq]
    exact State.placed_received_bays b _ new pack s
  · rw [heq, ← arbiterLeft_other new h.holder]
    rfl

/-- A report that rewrites a bay's record and does nothing else beside its notices and a request for a pass. -/
theorem exec_bayReport_refreshes {b : BayNo} {r : Report} {s : State} {y : Bay} {ask : Bool} {ns : List Notice}
    (hr : Running s) (hok : r.checkOk = true) (hf : r.boostFault = false)
    (hbody : ((s.quiet.received b (limitReport r)).told (forcedNotices b (limitReport r) (s.bay b))).reportByState b
      (s.bay b).door (limitReport r) = (s.refreshed b y ask).told ns) :
    ∃ t, exec (.bayReport b r) s = .next t ∧
      t = { s with bays := s.bays.set b y b.isLt, plan := t.plan, flags := t.flags, line := t.line, out := t.out } ∧
      Replied b t ∧ (if ask = true then PassAsked s t else t.plan = s.plan) ∧ Raised ns s t := by
  obtain ⟨t, ht, heq, hraised, hreplied, hasked, hkept⟩ := exec_bayReport_ends hr hok hf hbody hr.run rfl
    fun d hd => State.refreshed_bay_other hd y ask s
  refine ⟨t, ht, ?_, hreplied, asked_or_kept hasked hkept rfl, hraised⟩
  rw [heq]
  rfl

theorem State.reportByState_fault {s : State} {b : BayNo} {q : Report} {kind : FaultKind} {ns : List Notice}
    (h : (s.bay b).state = .fault kind) :
    ((s.quiet.received b q).told ns).reportByState b (s.bay b).door q =
      if kind = .stageFault then ((s.quiet.received b q).told ns).reportStageFault b q
      else ((s.quiet.received b q).told ns).reportPackFault b q := by
  have hstate : ((s.quiet.received b q).bay b).state = .fault kind := by
    rw [State.received_bay_self]
    exact h
  unfold State.reportByState
  rw [State.told_bay, hstate]
  cases kind <;> rfl

/-- A report that ends a fault (R13). -/
theorem Idle.reportFault_ends {s : State} {b : BayNo} {q : Report} {kind : FaultKind} {new : BayState} (h : Idle b s)
    (hst : (s.bay b).state = .fault kind)
    (hends : faultEnds kind (s.bay b).pack (s.bay b).mask q = some new) :
    ((s.quiet.received b q).told (forcedNotices b q (s.bay b))).reportByState b (s.bay b).door q =
      ((s.quiet.received b q).placed b new (checkedPack s.cfg new q)).told
        (forcedNotices b q (s.bay b) ++ faultNotices b new (checkedPack s.cfg new q)) := by
  have hbay : (s.quiet.received b q).bay b = reported q (s.bay b) := State.received_bay_self b q s.quiet
  rw [State.reportByState_fault hst]
  by_cases hk : kind = .stageFault
  · rw [if_pos hk]
    unfold faultEnds at hends
    rw [if_pos hk] at hends
    by_cases hstage : q.stageFault = true
    · rw [if_pos hstage] at hends
      exact absurd hends (by simp)
    · rw [if_neg hstage] at hends
      obtain rfl := Option.some.inj hends
      rw [(h.received q).reportStageFault_ends _ (Bool.eq_false_iff.2 hstage), hbay]
      rfl
  · rw [if_neg hk]
    exact (h.received q).reportPackFault_ends _ hk (by rw [hbay]; exact hends)

/-- Settles O29: a fault that ends, a stage fault that stays, and a fault of another kind that stays. -/
theorem reportInFault : Obligations.ReportInFault := by
  intro b r kind s hr hboost hfields hset hok hf hst q x
  have hidle := idle_of_fields hboost hfields (by rw [hst]; exact ⟨rfl, rfl, rfl⟩)
  have hbay : (s.quiet.received b q).bay b = x := State.received_bay_self b q s.quiet
  have hrule := State.reportByState_fault (q := q) (ns := forcedNotices b q (s.bay b)) hst
  cases hends : faultEnds kind x.pack x.mask q with
  | some new =>
    obtain ⟨t, ht, heq, hreplied, hbays, hboosted, hasked, hraised⟩ := exec_bayReport_moves hr hok hf hidle
      (hidle.reportFault_ends hst hends)
    refine ⟨t, ht, heq, hreplied, fun new' hnew => ?_, fun h => absurd h (by simp), fun h => absurd h (by simp)⟩
    obtain rfl := Option.some.inj hnew
    exact ⟨hbays, hboosted, hasked, hraised⟩
  | none =>
    by_cases hk : kind = .stageFault
    · have hstage : q.stageFault = true := by
        unfold faultEnds at hends
        rw [if_pos hk] at hends
        by_contra hno
        rw [if_neg hno] at hends
        exact absurd hends (by simp)
      have hbody := (hrule.trans (if_pos hk)).trans (State.reportStageFault_stays (b := b) _ hstage)
      rw [State.setBay_received, hbay] at hbody
      obtain ⟨t, ht, heq, hreplied, hplan, hraised⟩ := exec_bayReport_refreshes hr hok hf hbody
      refine ⟨t, ht, ?_, hreplied, fun new h => absurd h (by simp), fun _ _ => ⟨?_, ?_, hplan, hraised⟩, fun _ h => absurd hk h⟩
      · rw [heq]
      · rw [heq]
      · rw [heq]
    · by_cases hsame : ∃ p, x.pack = some p ∧ sameAs q p
      · obtain ⟨p, hp, hsame⟩ := hsame
        have hbody := (hrule.trans (if_neg hk)).trans
          (State.reportPackFault_copies (b := b) (p := p) _ hk (by rw [hbay]; exact hends) (by rw [hbay]; exact hp) hsame)
        rw [State.figured_received] at hbody
        obtain ⟨t, ht, heq, hreplied, hplan, hraised⟩ := exec_bayReport_refreshes hr hok hf hbody
        have helig : (s.bay b).state.eligible = false := by rw [hst]; rfl
        have hfigured : Bay.figured s.cfg q p x = { x with pack := some (copied s.cfg q p) } :=
          Bay.figured_uncharged (hset.2.2 (Bay.chargeable_of_not_eligible helig))
        have hask : figuresAsk s.cfg q p x = true ↔ (copied s.cfg q p).retired ≠ p.retired :=
          figuresAsk_of_not_eligible helig
        refine ⟨t, ht, ?_, hreplied, fun new h => absurd h (by simp), fun _ h => absurd h hk, fun _ _ => ⟨?_, ?_, ?_⟩⟩
        · rw [heq]
        · rw [heq]
        · intro p' hp' hsame'
          obtain rfl : p = p' := Option.some.inj (hp.symm.trans hp')
          refine ⟨?_, ?_, hraised⟩
          · rw [heq, ← hfigured]
          · rwa [if_congr hask rfl rfl] at hplan
        · exact fun hnone => absurd hsame (hnone p hp)
      · have hnone : ∀ p, x.pack = some p → ¬ sameAs q p := fun p hp hs => hsame ⟨p, hp, hs⟩
        have hkept : s.quiet.received b q = s.refreshed b x false := by
          rw [← State.setBay_received b q, ← hbay, State.setBay_same]
        have hbody := ((hrule.trans (if_neg hk)).trans
          (State.reportPackFault_stays (b := b) _ hk (by rw [hbay]; exact hends) (by rw [hbay]; exact hnone))).trans
          (congrArg (State.told _) hkept)
        obtain ⟨t, ht, heq, hreplied, hplan, hraised⟩ := exec_bayReport_refreshes hr hok hf hbody
        refine ⟨t, ht, ?_, hreplied, fun new h => absurd h (by simp), fun _ h => absurd h hk,
          fun _ _ => ⟨?_, ?_, fun _ => ⟨?_, ?_, hraised⟩⟩⟩
        · rw [heq]
        · rw [heq]
        · exact fun p hp hs => absurd hs (hnone p hp)
        · rw [heq]
        · exact hplan

end Sys2Proof.Machine
end


section
/-! SUPPORT. A report to a bay at the door (R14, R140): its figures, the pending fault, and the removal of the original pack. -/

namespace Sys2Proof.Machine

open Sys2Proof.Machine.Safety

/-! ### The pending fault (R14) -/

theorem Bay.sameSerial_iff_map {q : Report} {x : Bay} :
    x.sameSerial q = true ↔ q.present = true ∧ q.serial ≠ 0 ∧ x.pack.map (·.serial) = some q.serial := by
  cases hp : x.pack with
  | none => simp [Bay.sameSerial, hp]
  | some p => simp [Bay.sameSerial_iff hp, eq_comm (a := q.serial)]

/-- The kinds that may be pending are joined by their rank. -/
theorem joinPending_eq {x : Bay} (q : Report)
    (hkinds : ∀ k, x.pendingFault = some k → k = .stageFault ∨ k = .packFault ∨ k = .packHot) :
    joinPending x.pendingFault (x.pendingKind q) = pendingAfter x q := by
  have hown : x.sameSerial q = true ↔ _ := Bay.sameSerial_iff_map
  unfold Bay.pendingKind pendingAfter packFaultKind hotTemperature
  dsimp only
  simp only [← hown]
  by_cases hstage : q.stageFault = true
  · cases hold : x.pendingFault with
    | none => simp [hstage, joinPending]
    | some k => obtain rfl | rfl | rfl := hkinds k hold <;> simp [hstage, joinPending, FaultKind.rank]
  by_cases hsame : x.sameSerial q = true
  · by_cases hfault : q.packFault = true
    · cases hold : x.pendingFault with
      | none => simp [hstage, hsame, hfault, joinPending]
      | some k => obtain rfl | rfl | rfl := hkinds k hold <;> simp [hstage, hsame, hfault, joinPending, FaultKind.rank]
    · by_cases hhot : 600 ≤ q.temperature
      · cases hold : x.pendingFault with
        | none => simp [hstage, hsame, hfault, hhot, joinPending]
        | some k => obtain rfl | rfl | rfl := hkinds k hold <;> simp [hstage, hsame, hfault, hhot, joinPending, FaultKind.rank]
      · cases hold : x.pendingFault with
        | none => simp [hstage, hsame, hfault, hhot, joinPending]
        | some k => obtain rfl | rfl | rfl := hkinds k hold <;> simp [hstage, hsame, hfault, hhot, joinPending]
  · cases hold : x.pendingFault with
    | none => simp [hstage, hsame, joinPending]
    | some k => obtain rfl | rfl | rfl := hkinds k hold <;> simp [hstage, hsame, joinPending]

/-! ### The figures of the original pack (R14) -/

/-- The record of a bay at the door after the first part of its rule: the figures of the original pack copied and the pending
fault joined. -/
def Bay.doorNoted (cfg : Setup) (q : Report) (x : Bay) : Bay :=
  { x with pack := packAtDoor cfg q x, pendingFault := pendingAfter x q }

/-- Whether the figures copied at the door change the retired flag of the original pack (R3, R83). -/
def doorAsks (cfg : Setup) (q : Report) (x : Bay) : Bool :=
  decide ((packAtDoor cfg q x).map (·.retired) ≠ x.pack.map (·.retired))

/-- A bay at the door takes no charge, and a fault pending there is of a kind R14 notes. -/
structure DoorReady (x : Bay) : Prop where
  uncharged : x.state.eligible = false
  setpoint : x.setpoint = 0
  kinds : ∀ k, x.pendingFault = some k → k = .stageFault ∨ k = .packFault ∨ k = .packHot

/-- The part with that record. -/
def State.doorNoted (b : BayNo) (q : Report) (s : State) : State :=
  { s with
    bays := s.bays.set b (Bay.doorNoted s.cfg q (s.bay b)) b.isLt
    plan := { s.plan with requested := s.plan.requested || doorAsks s.cfg q (s.bay b) } }

theorem State.doorNoted_bay_self (b : BayNo) (q : Report) (s : State) :
    (s.doorNoted b q).bay b = Bay.doorNoted s.cfg q (s.bay b) := State.setBay_bay_self _ _ _

theorem State.told_reportAtDoor {s : State} {b : BayNo} (q : Report) (ns : List Notice) (h : DoorReady (s.bay b)) :
    (s.told ns).reportAtDoor b q = (s.doorNoted b q).told (ns ++ retiredAtDoor s.cfg b q (s.bay b)) := by
  obtain ⟨helig, hzero, hkinds⟩ := h
  have hjoin := joinPending_eq q hkinds
  unfold State.reportAtDoor
  dsimp only
  rw [State.told_bay]
  by_cases hsame : (s.bay b).sameSerial q = true
  · rw [if_pos hsame]
    obtain ⟨p, hp⟩ : ∃ p, (s.bay b).pack = some p := by
      cases hp : (s.bay b).pack with
      | none => simp [Bay.sameSerial, hp] at hsame
      | some p => exact ⟨p, rfl⟩
    have hown := (Bay.sameSerial_iff hp).1 hsame
    have hpack : packAtDoor s.cfg q (s.bay b) = some (copied s.cfg q p) := by
      rw [packAtDoor, hp, Option.map_some, if_pos hown]
    have hnotices : retiredAtDoor s.cfg b q (s.bay b) = retiredNotices s.cfg b q p := by
      rw [retiredAtDoor, hp]
      exact if_pos hown
    have hask : figuresAsk s.cfg q p (s.bay b) = doorAsks s.cfg q (s.bay b) := by
      rw [Bool.eq_iff_iff, figuresAsk_of_not_eligible helig, doorAsks, decide_eq_true_iff, hpack, hp]
      simp
    rw [State.told_copyFigures q ns hp, State.told_setBay, State.told_bay, State.figured_bay_self, Bay.figured_uncharged hzero,
      hnotices, State.figured, hask, State.doorNoted, Bay.doorNoted, hpack, ← hjoin]
    simp [State.setBay]
  · rw [if_neg hsame]
    have hown : ∀ p, (s.bay b).pack = some p → ¬ (q.present = true ∧ q.serial ≠ 0 ∧ q.serial = p.serial) := fun p hp ho =>
      hsame ((Bay.sameSerial_iff hp).2 ho)
    have hpack : packAtDoor s.cfg q (s.bay b) = (s.bay b).pack := by
      unfold packAtDoor
      cases hp : (s.bay b).pack with
      | none => rfl
      | some p => rw [Option.map_some, if_neg (hown p hp)]
    have hnotices : retiredAtDoor s.cfg b q (s.bay b) = [] := by
      unfold retiredAtDoor
      cases hp : (s.bay b).pack with
      | none => rfl
      | some p => exact if_neg (hown p hp)
    have hask : doorAsks s.cfg q (s.bay b) = false := by simp [doorAsks, hpack]
    rw [State.told_setBay, State.told_bay, hnotices, List.append_nil, State.doorNoted, Bay.doorNoted, hpack, hask, ← hjoin,
      Bool.or_false]
    rfl

/-! ### The removal of the original pack (R140) -/

/-- The handover context after a report in OPEN (R140). -/
def contextAfter (q : Report) (x : Bay) (h : Handover) : Handover :=
  if removesPack q x h then { h with packRemoved := true, outSerial := some ((x.pack.map (·.serial)).getD 0) } else h

theorem packAtDoor_serial (cfg : Setup) (q : Report) (x : Bay) :
    (packAtDoor cfg q x).map (·.serial) = x.pack.map (·.serial) := by
  unfold packAtDoor
  cases x.pack with
  | none => rfl
  | some p =>
    rw [Option.map_some, Option.map_some, Option.map_some]
    split <;> rfl

theorem Bay.otherSerial_iff_map {q : Report} {x : Bay} :
    x.otherSerial q = true ↔ q.present = true ∧ q.serial ≠ 0 ∧ ∃ n, x.pack.map (·.serial) = some n ∧ q.serial ≠ n := by
  cases hp : x.pack with
  | none => simp [Bay.otherSerial, hp]
  | some p => simp [Bay.otherSerial_iff hp]

theorem removesPack_iff {q : Report} {x : Bay} {h : Handover} : removesPack q x h = true ↔
    h.packRemoved = false ∧ (q.present = false ∨ q.serial ≠ 0 ∧ ∃ n, x.pack.map (·.serial) = some n ∧ q.serial ≠ n) := by
  cases hp : x.pack <;> simp [removesPack, hp]

theorem Bay.noteRemoval_eq {cfg : Setup} {q : Report} {x : Bay} {h : Handover} (hh : x.handover = some h) :
    (x.doorNoted cfg q).noteRemoval q =
      { x with
        pendingFault := pendingAfter x q, handover := some (contextAfter q x h)
        pack := if removesPack q x h then none else packAtDoor cfg q x } := by
  have hserial : (x.doorNoted cfg q).pack.map (·.serial) = x.pack.map (·.serial) := packAtDoor_serial cfg q x
  have hremoves : (!h.packRemoved && (!q.present || (x.doorNoted cfg q).otherSerial q)) = true ↔ removesPack q x h = true := by
    rw [removesPack_iff, Bool.and_eq_true, Bool.or_eq_true, Bay.otherSerial_iff_map, hserial]
    cases q.present <;> simp
  have hout : (x.doorNoted cfg q).serial = (x.pack.map (·.serial)).getD 0 := congrArg (Option.getD · 0) hserial
  unfold Bay.noteRemoval contextAfter
  rw [show (x.doorNoted cfg q).handover = some h from hh]
  dsimp only
  by_cases hr : removesPack q x h = true
  · rw [if_pos (hremoves.2 hr), if_pos hr, if_pos hr, hout]
    rfl
  · rw [if_neg (hremoves.not.2 hr), if_neg hr, if_neg hr, ← hh]
    rfl

/-! ### A report that leaves the bay OPEN -/

/-- The record of an OPEN bay after a report, short of a completion of the swap. -/
def Bay.openNoted (cfg : Setup) (q : Report) (h : Handover) (x : Bay) : Bay :=
  { x with
    pendingFault := pendingAfter x q, handover := some (contextAfter q x h)
    pack := if removesPack q x h then none else packAtDoor cfg q x }

/-- The record of an OPEN bay as a report has noted what it shows. -/
theorem State.told_openNoted {s : State} {b : BayNo} {q : Report} {h : Handover} (ns : List Notice)
    (hready : DoorReady (reported q (s.bay b))) (hh : (s.bay b).handover = some h) :
    let noted := (((s.quiet.received b q).told ns).reportAtDoor b q)
    noted.setBay b ((noted.bay b).noteRemoval q) =
      (s.refreshed b (Bay.openNoted s.cfg q h (reported q (s.bay b))) (doorAsks s.cfg q (reported q (s.bay b)))).told
        (ns ++ retiredAtDoor s.cfg b q (reported q (s.bay b))) := by
  have hbay : (s.quiet.received b q).bay b = reported q (s.bay b) := State.received_bay_self b q s.quiet
  dsimp only
  rw [State.told_reportAtDoor q ns (by rw [hbay]; exact hready), State.told_setBay, State.told_bay, State.doorNoted_bay_self, hbay,
    Bay.noteRemoval_eq (x := reported q (s.bay b)) (h := h) hh, State.doorNoted, hbay]
  simp only [State.received, State.setBay, State.refreshed, Vector.set_set]
  rfl

theorem State.reportByState_opened {s : State} {b : BayNo} {q : Report} {ns : List Notice} (h : (s.bay b).state = .opened) :
    ((s.quiet.received b q).told ns).reportByState b (s.bay b).door q =
      ((s.quiet.received b q).told ns).reportOpen b (s.bay b).door q := by
  have hstate : ((s.quiet.received b q).bay b).state = .opened := by
    rw [State.received_bay_self]
    exact h
  unfold State.reportByState
  rw [State.told_bay, hstate]

/-- In a sound part a bay at the door is ready for its rule. -/
theorem doorReady_of_sound {s : State} {b : BayNo} (hfields : BayFields (s.bay b)) (hset : SetpointSound s.cfg (s.bay b))
    (hdoor : (s.bay b).state.atDoor = true) : DoorReady (s.bay b) := by
  have helig : (s.bay b).state.eligible = false := by
    cases hst : (s.bay b).state <;> simp_all [BayState.atDoor, BayState.eligible]
  exact ⟨helig, hset.2.2 (Bay.chargeable_of_not_eligible helig), fun k hk => (hfields.1 k hk).2⟩

/-- No report forces the door of a bay that is at the door (R22). -/
theorem forcedNotices_atDoor {x : Bay} (b : BayNo) (q : Report) (hlock : LockSound x) (hdoor : x.state.atDoor = true) :
    forcedNotices b q x = [] := by
  obtain ⟨hopen, -⟩ := hlock
  obtain ⟨hlocked, -⟩ := hopen hdoor
  exact if_neg fun h => by rw [hlocked] at h; simp at h

theorem completesSwap_iff {before : Door} {q : Report} {h : Handover} : completesSwap before q h = true ↔
    before = .opened ∧ q.door = .closed ∧ q.present = true ∧ h.packRemoved = true := by
  simp [completesSwap, and_assoc]

/-- Settles O31: the swap not being complete, the rule ends with what the report has noted. -/
theorem reportInOpenNotesRemoval : Obligations.ReportInOpenNotesRemoval := by
  intro b r h s hr hfields hset hlock hok hf hst hh q x h' hopen y
  have hready : DoorReady x := by
    obtain ⟨h1, h2, h3⟩ := doorReady_of_sound hfields hset (by rw [hst]; rfl)
    exact ⟨h1, h2, h3⟩
  have hforced := forcedNotices_atDoor b q hlock (by rw [hst]; rfl)
  have hnoted := State.told_openNoted (forcedNotices b q (s.bay b)) hready hh
  have hhand : (Bay.openNoted s.cfg q h x).handover = some h' := rfl
  have hbody : ((s.quiet.received b q).told (forcedNotices b q (s.bay b))).reportByState b (s.bay b).door q =
      (s.refreshed b y (doorAsks s.cfg q x)).told (retiredAtDoor s.cfg b q x) := by
    rw [State.reportByState_opened hst, State.reportOpen]
    dsimp only at hnoted ⊢
    rw [hnoted, State.told_bay, State.refreshed_bay_self, hhand, hforced]
    exact if_neg (completesSwap_iff.not.2 hopen)
  obtain ⟨t, ht, heq, hreplied, hplan, hraised⟩ := exec_bayReport_refreshes hr hok hf hbody
  have hask : doorAsks s.cfg q x = true ↔ (packAtDoor s.cfg q x).map (·.retired) ≠ x.pack.map (·.retired) :=
    decide_eq_true_iff
  rw [if_congr hask rfl rfl] at hplan
  exact ⟨t, ht, heq, hreplied, hraised, hplan⟩

end Sys2Proof.Machine
end


section
/-! SUPPORT. A bay that leaves the door (R14, R16, R22, R59): its record and lock, the record it was opened for, and the
completion of a swap (R141). -/

namespace Sys2Proof.Machine

open Sys2Proof.Machine.Safety

/-! ### The record of the bay -/

/-- A bay at the door that takes no charge, is unlocked and does not hold the converter. -/
structure AtDoor (b : BayNo) (s : State) : Prop where
  door : (s.bay b).state.atDoor = true
  setpoint : (s.bay b).setpoint = 0
  locked : (s.bay b).locked = false
  boost : (s.bay b).boost = false
  holder : s.boost.converter.holder ≠ some b

theorem atDoor_of_sound {s : State} {b : BayNo} (hboost : BoostSound s) (hset : SetpointSound s.cfg (s.bay b))
    (hlock : LockSound (s.bay b)) (hdoor : (s.bay b).state.atDoor = true) : AtDoor b s := by
  have helig : (s.bay b).state.eligible = false := by
    cases hst : (s.bay b).state <;> simp_all [BayState.atDoor, BayState.eligible]
  obtain ⟨hholder, hno, -⟩ := boost_of_not_eligible (b := b) hboost helig
  obtain ⟨hopen, -⟩ := hlock
  exact ⟨hdoor, hset.2.2 (Bay.chargeable_of_not_eligible helig), (hopen hdoor).1, hno, hholder⟩

/-- What a bay keeps as it leaves the door for a state in use or for FAULT (R1, R2, R21, R22). -/
theorem Bay.entering_door {cfg : Setup} {new : BayState} {x : Bay} (hx : x.state.atDoor = true)
    (hnew : new.atDoor = false ∧ new.isOff = false) (hlocked : x.locked = false) (hzero : x.setpoint = 0) :
    x.entering cfg new =
      Safety.leftDoor new (new.keptPack x.pack) (if new.reserved = true then x.reservation else none) x := by
  have hlock : lockEntering x.state new x.door x.locked x.lockPending =
      (decide (x.door = .closed), decide (x.door = .opened)) := by
    unfold lockEntering
    rw [hnew.1, hnew.2, hx, hlocked]
    cases x.door <;> rfl
  have htimer : timerEntering x.state new x.dataTimer = if new = .checking then some 10000 else none := by
    have hold : x.state.accepted = false := by cases hs : x.state <;> simp_all [BayState.atDoor, BayState.accepted]
    unfold timerEntering
    rw [hold]
    cases new <;> simp [dataMillis]
  unfold Bay.entering Bay.writeSetpoint
  simp only [hlock, htimer, hnew.1, hzero, ite_self]
  simp [Safety.leftDoor, BayState.keptPack, hzero]

/-- The part with a bay that has left the door. -/
def State.leftDoor (b : BayNo) (new : BayState) (pack : Option Pack) (res : Option Nat) (s : State) : State :=
  { s with
    bays := s.bays.set b (Safety.leftDoor new pack res (s.bay b)) b.isLt
    boost := { s.boost with eligible := s.boost.eligible.set b new.eligible b.isLt }
    plan := { s.plan with requested := true } }

@[simp] theorem State.leftDoor_bay_self (b : BayNo) (new : BayState) (pack : Option Pack) (res : Option Nat) (s : State) :
    (s.leftDoor b new pack res).bay b = Safety.leftDoor new pack res (s.bay b) := State.setBay_bay_self _ _ _

theorem State.leftDoor_bay_other {b d : BayNo} (h : d ≠ b) (new : BayState) (pack : Option Pack) (res : Option Nat)
    (s : State) : (s.leftDoor b new pack res).bay d = s.bay d :=
  (State.setBay_bay s b d _).trans (if_neg (Ne.symm h))

theorem AtDoor.enterBay {s : State} {b : BayNo} {new : BayState} (h : AtDoor b s)
    (hnew : new.atDoor = false ∧ new.isOff = false) :
    s.enterBay b new =
      s.leftDoor b new (new.keptPack (s.bay b).pack) (if new.reserved = true then (s.bay b).reservation else none) := by
  obtain ⟨hdoor, hzero, hlocked, hboost, hholder⟩ := h
  have hends : endsGrant b new s.boost = false := by simp [endsGrant, hholder]
  rw [State.enterBay_eq, hends, Bay.entering_door hdoor hnew hlocked hzero]
  simp [State.leftDoor, Safety.leftDoor]

/-- The record of a bay at the door with the lock that the door gives it as it leaves (R22). -/
def Bay.relocked (x : Bay) : Bay :=
  { x with locked := decide (x.door = .closed), lockPending := decide (x.door = .opened) }

/-- A bay that leaves the door for CHECKING or EMPTY is one that has come there with that lock. -/
theorem AtDoor.leftDoor_eq_placed {s : State} {b : BayNo} {new : BayState} (h : AtDoor b s)
    (hnew : new = .checking ∨ new = .empty) :
    s.leftDoor b new none none = (s.setBay b (s.bay b).relocked).placed b new none := by
  have hmoved : movedTo new none (s.bay b).relocked = Safety.leftDoor new none none (s.bay b) := by
    obtain rfl | rfl := hnew <;>
      simp [movedTo, Safety.leftDoor, Bay.relocked, h.setpoint, h.boost, BayState.outOfUse]
  have hkeeps : arbiterLeft b new s.boost = { s.boost with eligible := s.boost.eligible.set b new.eligible b.isLt } :=
    arbiterLeft_other new h.holder
  rw [State.placed, State.setBay_bay_self, hmoved, State.setBay_boost, hkeeps]
  simp [State.leftDoor, State.setBay]

/-- The record of a bay that has gone on from CHECKING by the CHECKING rule. -/
theorem AtDoor.movedTo_relocked {s : State} {b : BayNo} (h : AtDoor b s) (new : BayState) (pack : Option Pack) :
    movedTo new pack (s.bay b).relocked = leftChecking new pack (s.bay b) := by
  simp [movedTo, leftChecking, Safety.leftDoor, Bay.relocked, h.setpoint, h.boost]

/-! ### The fault pending as it leaves (R12, R14) -/

/-- The unbinding of a record that names no bay changes nothing (R46). -/
theorem State.unbind_of_handover {s : State} {r : Reservation} {b d : BayNo} {p : Prior}
    (hn : (s.book.records.map (·.id)).Nodup) (hr : r ∈ s.book.records) (hst : r.state = .handover d p) :
    s.unbind r.id b = s := by
  obtain ⟨-, heq⟩ | ⟨z, hz, hbound, -⟩ := s.unbind_cases r.id b
  · exact heq
  · obtain rfl : r = z := Option.some.inj ((Book.byId_of_mem hn hr).symm.trans hz)
    rw [hst] at hbound
    simp at hbound

section
variable {s : State} {b : BayNo} (h : AtDoor b s) (k : FaultKind) (ns : List Notice)
include h

/-- The bay enters FAULT while its record is still in HANDOVER. -/
theorem AtDoor.faultBay_handover {r : Reservation} {d : BayNo} {p : Prior} (hres : (s.bay b).reservation = some r.id)
    (hn : (s.book.records.map (·.id)).Nodup) (hr : r ∈ s.book.records) (hst : r.state = .handover d p) :
    (s.told ns).faultBay b k =
      (s.leftDoor b (.fault k) (BayState.keptPack (.fault k) (s.bay b).pack) none).told
        (ns ++ faultNotices b (.fault k) (BayState.keptPack (.fault k) (s.bay b).pack)) := by
  have hbook : ∀ ms : List Notice, ∀ pack : Option Pack,
      ((s.leftDoor b (.fault k) pack none).told ms).book = s.book := fun ms pack => by
    rw [State.told_book]
    rfl
  unfold State.faultBay
  dsimp only
  rw [State.told_bay, hres, State.told_enterBay, h.enterBay (new := .fault k) ⟨rfl, rfl⟩, State.told_bay]
  simp only [BayState.reserved, Bool.false_eq_true, if_false]
  rw [State.leftDoor_bay_self, State.told_raise,
    State.unbind_of_handover (by rw [hbook]; exact hn) (by rw [hbook]; exact hr) hst]
  rfl

/-- The bay enters FAULT and its record, BOUND or READY again, is unbound (R46). -/
theorem AtDoor.faultBay_unbinds {r : Reservation} (hres : (s.bay b).reservation = some r.id)
    (hn : (s.book.records.map (·.id)).Nodup) (hr : r ∈ s.book.records) (hst : r.state = .bound b ∨ r.state = .ready b)
    (hexp : r.atDoor = true → s.clock.seconds < r.expiry s.cfg) :
    (s.told ns).faultBay b k =
      ((s.leftDoor b (.fault k) (BayState.keptPack (.fault k) (s.bay b).pack) none).unbound (some r.id)).told
        (ns ++ faultNotices b (.fault k) (BayState.keptPack (.fault k) (s.bay b).pack)) := by
  have hbook : ∀ ms : List Notice, ∀ pack : Option Pack,
      ((s.leftDoor b (.fault k) pack none).told ms).book = s.book := fun ms pack => by
    rw [State.told_book]
    rfl
  unfold State.faultBay
  dsimp only
  rw [State.told_bay, hres, State.told_enterBay, h.enterBay (new := .fault k) ⟨rfl, rfl⟩, State.told_bay]
  simp only [BayState.reserved, Bool.false_eq_true, if_false]
  rw [State.leftDoor_bay_self, State.told_raise,
    State.unbind_eq (by rw [hbook]; exact hn) (by rw [hbook]; exact hr) hst
      (by rw [State.told_clock, State.told_cfg]; exact hexp), State.told_unbound, State.told_request]
  rfl

end

/-! ### A record is done (R59) -/

theorem Slot.forget_eq (id : Nat) (x : Slot) : x.forget id = slotWithout id x := by
  unfold Slot.forget slotWithout
  cases x.state <;> rfl

/-- The part without a record that has left the book while it was at the door. -/
def State.done (r : Reservation) (s : State) : State :=
  { s with book := bookWithout r s.book, asks := asksWithout r.id s.asks, plan := { s.plan with requested := true } }

theorem State.tellRemoved_eq (id : Nat) (s : State) : s.tellRemoved id = { s with asks := asksWithout id s.asks } := by
  have hforget : Slot.forget id = slotWithout id := funext (Slot.forget_eq id)
  rw [State.tellRemoved, hforget]
  rfl

theorem State.told_done (r : Reservation) (ns : List Notice) (s : State) : (s.told ns).done r = (s.done r).told ns := by
  refine Eq.trans ?_ (State.told_aside ns s s.bays (bookWithout r s.book) (asksWithout r.id s.asks)
    { s.plan with requested := true } s.boost s.feed s.ts s.out).symm
  apply State.eq_of_fields <;> simp [State.done]

theorem State.told_doneRecord {s : State} {r : Reservation} {d : BayNo} {p : Prior} (ns : List Notice)
    (hn : (s.book.records.map (·.id)).Nodup) (hr : r ∈ s.book.records) (hst : r.state = .handover d p) :
    (s.told ns).doneRecord r.id = (s.done r).told ns := by
  have hfound : (s.told ns).book.byId r.id = some r := by
    rw [State.told_book]
    exact Book.byId_of_mem hn hr
  rw [← State.told_done, State.doneRecord, hfound]
  simp only [hst, State.removeRecord, State.releaseOf, State.tellRemoved_eq]
  rfl

/-! ### The end of a handover without the original pack (R14, R141, R144) -/

theorem endState_gone {pending : Option FaultKind} {e : HandoverEnd} (he : e = .checking ∨ e = .empty) :
    endState pending e = if pending = some .stageFault then .fault .stageFault else e.state := by
  cases pending with
  | none => obtain rfl | rfl := he <;> rfl
  | some k => cases k <;> obtain rfl | rfl := he <;> rfl

section
variable {s : State} {b : BayNo} {r : Reservation} {d : BayNo} {p : Prior} (h : AtDoor b s) (ns : List Notice)
  (hres : (s.bay b).reservation = some r.id) (hn : (s.book.records.map (·.id)).Nodup) (hr : r ∈ s.book.records)
  (hst : r.state = .handover d p) (hpack : (s.bay b).pack = none)
include h hres hn hr hst hpack

/-- The bay leaves the door with no pack record, for FAULT if a stage fault is pending. -/
theorem AtDoor.endHandover_gone {e : HandoverEnd} (he : e = .checking ∨ e = .empty) :
    (s.told ns).endHandover b e =
      (s.leftDoor b (if (s.bay b).pendingFault = some .stageFault then .fault .stageFault else e.state) none none).told
        (ns ++ if (s.bay b).pendingFault = some .stageFault then [.bayFault b .stageFault 0] else []) := by
  unfold State.endHandover
  rw [State.told_bay, endState_gone he]
  by_cases hstage : (s.bay b).pendingFault = some .stageFault
  · rw [if_pos hstage, if_pos hstage]
    dsimp only
    rw [h.faultBay_handover .stageFault ns hres hn hr hst, hpack]
    rfl
  · rw [if_neg hstage, if_neg hstage, List.append_nil]
    obtain rfl | rfl := he <;> dsimp only [HandoverEnd.state]
    · rw [State.told_enterBay, h.enterBay (new := .checking) ⟨rfl, rfl⟩, hpack]
      rfl
    · rw [State.told_enterBay, h.enterBay (new := .empty) ⟨rfl, rfl⟩, hpack]
      rfl

/-- Steps 1 to 3 of a completed swap (R141). -/
theorem AtDoor.completeSwap {c : Handover} (hc : r.id = c.reservation) (serial : Nat) :
    (s.told ns).completeSwap b c serial =
      ((s.leftDoor b (if (s.bay b).pendingFault = some .stageFault then .fault .stageFault else .checking) none none).done
        r).told
        (ns ++ (if (s.bay b).pendingFault = some .stageFault then [.bayFault b .stageFault 0] else []) ++
          [.swapDone (c.outSerial.getD 0) serial]) := by
  unfold State.completeSwap
  rw [h.endHandover_gone ns hres hn hr hst hpack (.inl rfl), ← hc, State.told_doneRecord _ (by exact hn) (by exact hr) hst,
    State.told_raise]
  rfl

/-- A handover ends with no return (R144). -/
theorem AtDoor.noReturn {c : Handover} (hc : r.id = c.reservation) :
    (s.told ns).noReturn b c =
      ((s.leftDoor b (if (s.bay b).pendingFault = some .stageFault then .fault .stageFault else .empty) none none).done
        r).told
        (ns ++ (if (s.bay b).pendingFault = some .stageFault then [.bayFault b .stageFault 0] else []) ++
          [.noReturn r.id b (c.outSerial.getD 0)]) := by
  unfold State.noReturn
  rw [h.endHandover_gone ns hres hn hr hst hpack (.inr rfl), ← hc, State.told_doneRecord _ (by exact hn) (by exact hr) hst,
    State.told_raise]
  rfl

end

/-! ### A report that completes the swap (R141) -/

/-- The CHECKING rule takes the report on from a bay that has just left the door (R141, step 4). -/
theorem AtDoor.reportChecking_done {s : State} {b : BayNo} (h : AtDoor b s) (r : Reservation) (q : Report)
    (ns : List Notice) :
    (((s.leftDoor b .checking none none).done r).told ns).reportChecking b q =
      let new := checkedState (s.bay b).mask q
      let pack := checkedPack s.cfg new q
      (((s.setBay b (s.bay b).relocked).done r).placed b new pack).told (ns ++ faultNotices b new pack) := by
  have hbay : ((s.setBay b (s.bay b).relocked).done r).bay b = (s.bay b).relocked := State.setBay_bay_self _ _ _
  rw [h.leftDoor_eq_placed (.inl rfl)]
  have := State.told_reportChecking b q ns ((s.setBay b (s.bay b).relocked).done r)
  rw [hbay] at this
  exact this

/-- The whole of the OPEN rule for a report that completes the swap: the state it leads to, with the bay's record and the
notices. -/
theorem AtDoor.reportCompletes {s : State} {b : BayNo} {r : Reservation} {d : BayNo} {p : Prior} {c : Handover} {q : Report}
    (h : AtDoor b s) (ns : List Notice) (hres : (s.bay b).reservation = some r.id) (hn : (s.book.records.map (·.id)).Nodup)
    (hr : r ∈ s.book.records) (hst : r.state = .handover d p) (hpack : (s.bay b).pack = none) (hc : r.id = c.reservation)
    (hclosed : (s.bay b).door = .closed) (hpresent : q.present = true) :
    let staged := (s.bay b).pendingFault = some .stageFault
    let new : BayState := if staged then .fault .stageFault else checkedState (s.bay b).mask q
    let pack := if staged then none else checkedPack s.cfg new q
    let u := (s.told ns).completeSwap b c (inSerialOf q)
    (if (u.bay b).state = .checking then u.reportChecking b q else u) =
      ({ s with
        bays := s.bays.set b
          { Safety.leftDoor new pack none (s.bay b) with locked := true, lockPending := false } b.isLt
        book := bookWithout r s.book, asks := asksWithout r.id s.asks
        boost := { s.boost with eligible := s.boost.eligible.set b new.eligible b.isLt }
        plan := { s.plan with requested := true } } : State).told
        (ns ++ ((if staged then [.bayFault b .stageFault 0] else []) ++ [.swapDone (c.outSerial.getD 0) q.serial] ++
          (if staged then [] else faultNotices b new pack))) := by
  have hserial : inSerialOf q = q.serial := by
    by_cases h0 : q.serial = 0 <;> simp [inSerialOf, carriesPack, hpresent, h0]
  dsimp only
  rw [h.completeSwap ns hres hn hr hst hpack hc, hserial]
  by_cases hstage : (s.bay b).pendingFault = some .stageFault
  · simp only [if_pos hstage]
    have hlocked : ({ Safety.leftDoor (.fault .stageFault) none none (s.bay b) with locked := true, lockPending := false } : Bay) =
        Safety.leftDoor (.fault .stageFault) none none (s.bay b) := by
      simp [Safety.leftDoor, hclosed]
    have hbay : (((s.leftDoor b (.fault .stageFault) none none).done r).bay b) =
        Safety.leftDoor (.fault .stageFault) none none (s.bay b) := State.setBay_bay_self _ _ _
    rw [State.told_bay, hbay, if_neg (by simp [Safety.leftDoor]), hlocked]
    simp only [List.append_assoc, List.append_nil]
    rfl
  · simp only [if_neg hstage]
    have hbay : (((s.leftDoor b .checking none none).done r).bay b) = Safety.leftDoor .checking none none (s.bay b) :=
      State.setBay_bay_self _ _ _
    rw [State.told_bay, hbay, if_pos (show (Safety.leftDoor .checking none none (s.bay b)).state = .checking from rfl),
      h.reportChecking_done]
    dsimp only
    generalize checkedState (s.bay b).mask q = new
    generalize checkedPack s.cfg new q = pack
    have hleft : ({ Safety.leftDoor new pack none (s.bay b) with locked := true, lockPending := false } : Bay) =
        movedTo new pack (s.bay b).relocked := by
      rw [h.movedTo_relocked]
      simp [leftChecking, Safety.leftDoor, hclosed]
    have hkeeps : arbiterLeft b new s.boost = { s.boost with eligible := s.boost.eligible.set b new.eligible b.isLt } :=
      arbiterLeft_other new h.holder
    have hplaced : ((s.setBay b (s.bay b).relocked).done r).placed b new pack =
        { s with
          bays := s.bays.set b (movedTo new pack (s.bay b).relocked) b.isLt
          book := bookWithout r s.book, asks := asksWithout r.id s.asks
          boost := arbiterLeft b new s.boost, plan := { s.plan with requested := true } } := by
      have hself : ((s.setBay b (s.bay b).relocked).done r).bay b = (s.bay b).relocked := State.setBay_bay_self _ _ _
      rw [State.placed, hself]
      simp [State.done, State.setBay]
    rw [hleft, hplaced, hkeeps, List.append_nil, List.nil_append, List.append_assoc]

/-- The record that a report shows the removal of keeps no pack. -/
theorem Bay.openNoted_gone {cfg : Setup} {q : Report} {h : Handover} {x : Bay}
    (hgone : removesPack q x h = true ∨ (h.packRemoved = true ∧ x.pack = none)) :
    (x.openNoted cfg q h).pack = none ∧ (contextAfter q x h).packRemoved = true ∧ ∀ n, retiredAtDoor cfg n q x = [] := by
  by_cases hr : removesPack q x h = true
  · refine ⟨if_pos hr, by rw [contextAfter, if_pos hr], fun n => ?_⟩
    obtain ⟨-, habsent | ⟨-, m, hm, hne⟩⟩ := removesPack_iff.1 hr
    · unfold retiredAtDoor
      split
      · exact if_neg fun ho => by rw [habsent] at ho; simp at ho
      · rfl
    · unfold retiredAtDoor
      split
      · next p hp =>
        rw [hp] at hm
        exact if_neg fun ho => hne (ho.2.2.trans (Option.some.inj hm))
      · rfl
  · obtain ⟨hremoved, hpack⟩ := hgone.resolve_left hr
    refine ⟨?_, by rw [contextAfter, if_neg hr, hremoved], fun n => by rw [retiredAtDoor, hpack]⟩
    rw [Bay.openNoted]
    dsimp only
    rw [if_neg hr, packAtDoor, hpack]
    rfl

/-- Settles O32: the record as the report notes it, then `AtDoor.reportCompletes`. -/
theorem reportCompletesSwap : Obligations.ReportCompletesSwap := by
  intro b r h rec p s hr hboost hfields hset hlock hn hok hf hst hh hrec hid hrecst q x hopen hclosed hpresent hgone out staged
    new pack
  have hdoor : (s.bay b).state.atDoor = true := by rw [hst]; rfl
  have hready : DoorReady x := by
    obtain ⟨h1, h2, h3⟩ := doorReady_of_sound hfields hset hdoor
    exact ⟨h1, h2, h3⟩
  have hforced := forcedNotices_atDoor b q hlock hdoor
  obtain ⟨hpackNone, hremoved, hsilent⟩ := Bay.openNoted_gone (cfg := s.cfg) hgone
  have hnoted := State.told_openNoted (forcedNotices b q (s.bay b)) hready hh
  have hready' := atDoor_of_sound hboost hset hlock hdoor
  have hlocked : x.locked = false ∧ x.lockPending = false := by
    obtain ⟨h1, h2⟩ := hlock.1 hdoor
    simp [x, reported, h1, h2]
  let y := Bay.openNoted s.cfg q h x
  have hself : (s.refreshed b y (doorAsks s.cfg q x)).bay b = y := State.refreshed_bay_self b y _ s
  have hat : AtDoor b (s.refreshed b y (doorAsks s.cfg q x)) :=
    ⟨by rw [hself]; exact hdoor, by rw [hself]; exact hready'.setpoint, by rw [hself]; exact hlocked.1,
      by rw [hself]; exact hready'.boost, hready'.holder⟩
  have hout : (contextAfter q x h).outSerial.getD 0 = out := by
    unfold contextAfter
    by_cases hrem : removesPack q x h = true
    · rw [if_pos hrem]
      exact (if_pos hrem).symm
    · rw [if_neg hrem]
      exact (if_neg hrem).symm
  have hcontext : (contextAfter q x h).reservation = h.reservation := by
    unfold contextAfter
    split <;> rfl
  have hcompletes := hat.reportCompletes (r := rec) (c := contextAfter q x h) (q := q) []
    (by rw [hself]; exact (hfields.2.2.2.2.2 h hh).trans (congrArg some hid.symm)) hn hrec hrecst
    (by rw [hself]; exact hpackNone) (hid.trans hcontext.symm) (by rw [hself]; exact hclosed) hpresent
  rw [hself, hout] at hcompletes
  have hopened : ((s.quiet.received b q).told (forcedNotices b q (s.bay b))).reportByState b (s.bay b).door q =
      let u := ((s.refreshed b y (doorAsks s.cfg q x)).told []).completeSwap b (contextAfter q x h) (inSerialOf q)
      if (u.bay b).state = .checking then u.reportChecking b q else u := by
    rw [State.reportByState_opened hst, State.reportOpen]
    dsimp only at hnoted ⊢
    rw [hnoted, State.told_bay, State.refreshed_bay_self, hsilent, hforced, List.append_nil]
    exact if_pos (completesSwap_iff.2 ⟨hopen, hclosed, hpresent, hremoved⟩)
  obtain ⟨t, ht, heq, hraised, hreplied, hasked, -⟩ := exec_bayReport_ends hr hok hf (hopened.trans hcompletes) hr.run rfl
    fun d hd => by
      refine (State.setBay_bay (s.refreshed b y (doorAsks s.cfg q x)) b d _).trans ((if_neg (Ne.symm hd)).trans ?_)
      exact State.refreshed_bay_other hd y _ s
  refine ⟨t, ht, ?_, ?_, hasked rfl, hreplied, hraised⟩
  · rw [heq]
    rfl
  · rw [heq]
    exact Vector.set_set ..

end Sys2Proof.Machine
end


section
/-! SUPPORT. A report to an AJAR bay (R14, R146), and the clearing of at door (R51). -/

namespace Sys2Proof.Machine

open Sys2Proof.Machine.Safety

/-! ### The record of an AJAR bay (R46, R51, R52) -/

theorem unboundIn_ids (id : Option Nat) (l : List Reservation) : (unboundIn id l).map (·.id) = l.map (·.id) := by
  unfold unboundIn
  rw [List.map_map]
  refine List.map_congr_left fun z _ => ?_
  simp only [Function.comp]
  split <;> rfl

/-- The record found under its id after it has been unbound. -/
theorem State.byId_unbound {s : State} {r : Reservation} (hn : (s.book.records.map (·.id)).Nodup) (hr : r ∈ s.book.records) :
    (s.unbound (some r.id)).book.byId r.id = some { r with state := .pending, late := false, atDoor := false } := by
  have hmem : ({ r with state := .pending, late := false, atDoor := false } : Reservation) ∈
      unboundIn (some r.id) s.book.records := List.mem_map.2 ⟨r, hr, if_pos rfl⟩
  exact Book.byId_of_mem (k := (s.unbound (some r.id)).book) (by rw [State.unbound, unboundIn_ids]; exact hn) hmem

/-- A second unbind finds the record PENDING. -/
theorem State.unbind_again {s u : State} {r : Reservation} (b : BayNo) (hn : (s.book.records.map (·.id)).Nodup)
    (hr : r ∈ s.book.records) (hu : u.book = (s.unbound (some r.id)).book) : u.unbind r.id b = u := by
  obtain ⟨-, heq⟩ | ⟨z, hz, hbound, -⟩ := u.unbind_cases r.id b
  · exact heq
  · rw [hu, State.byId_unbound hn hr] at hz
    obtain rfl := Option.some.inj hz
    simp at hbound

/-- The part with at door of a record cleared. -/
def State.cleared (id : Nat) (s : State) : State :=
  { s with book := { s.book with
    records := s.book.records.map fun z => if z.id = id then { z with atDoor := false } else z } }

theorem State.told_cleared (id : Nat) (ns : List Notice) (s : State) : (s.told ns).cleared id = (s.cleared id).told ns := by
  refine Eq.trans ?_ (State.told_aside ns s s.bays (s.cleared id).book s.asks s.plan s.boost s.feed s.ts s.out).symm
  apply State.eq_of_fields <;> simp [State.cleared]

/-- A door clear of a record whose instant is not reached (R51, R52). -/
theorem State.doorClear_early {u : State} {r : Reservation} (hn : (u.book.records.map (·.id)).Nodup)
    (hr : r ∈ u.book.records) (hdoor : r.atDoor = true) (hexp : u.clock.seconds < r.expiry u.cfg) :
    u.doorClear r.id = u.cleared r.id := by
  have hfound := Book.byId_of_mem hn hr
  have hupdate : u.updateRecord r.id (fun z => { z with atDoor := false }) = u.cleared r.id := by
    simp only [State.updateRecord, State.cleared, beq_iff_eq]
  unfold State.doorClear
  simp only [hfound, hdoor, if_true, hupdate]
  refine State.expiryCheck_early fun z hz hid => ?_
  obtain ⟨y, hy, rfl⟩ := List.mem_map.1 hz
  by_cases hsame : y.id = r.id
  · obtain rfl : r = y := Option.some.inj (hfound.symm.trans (hsame ▸ Book.byId_of_mem hn hy))
    rw [if_pos rfl]
    exact hexp
  · rw [if_neg hsame] at hid
    exact absurd hid hsame

/-! ### The original pack is gone (R146) -/

section
variable {s : State} {b : BayNo} {r : Reservation} {p : Pack} (h : AtDoor b s) (ns : List Notice)
  (hres : (s.bay b).reservation = some r.id) (hn : (s.book.records.map (·.id)).Nodup) (hr : r ∈ s.book.records)
  (hst : r.state = .bound b ∨ r.state = .ready b) (hexp : r.atDoor = true → s.clock.seconds < r.expiry s.cfg)
  (hpack : (s.bay b).pack = some p)
include h hres hn hr hst hexp hpack

/-- The bay leaves the door without its original pack, and its record is unbound. -/
theorem AtDoor.ajarMissing {c : Handover} {e : HandoverEnd} (he : e = .checking ∨ e = .empty) (hc : r.id = c.reservation) :
    (s.told ns).ajarMissing b c e =
      if (s.bay b).pendingFault = some .stageFault then
        ((s.leftDoor b (.fault .stageFault) (some p) none).unbound (some r.id)).told
          (ns ++ [.bayFault b .stageFault p.serial] ++ [.packMissing b p.serial r.id])
      else ((s.leftDoor b e.state none none).unbound (some r.id)).told (ns ++ [.packMissing b p.serial r.id]) := by
  have hserial : (s.bay b).serial = p.serial := by rw [Bay.serial, hpack]; rfl
  unfold State.ajarMissing State.endHandover
  dsimp only
  rw [State.told_bay, endState_gone he, hserial, ← hc]
  by_cases hstage : (s.bay b).pendingFault = some .stageFault
  · rw [if_pos hstage, if_pos hstage]
    dsimp only
    rw [h.faultBay_unbinds .stageFault ns hres hn hr hst hexp, hpack,
      State.unbind_again b hn hr (by rw [State.told_book]; rfl), State.told_raise]
    rfl
  · rw [if_neg hstage, if_neg hstage]
    have hleaves : ∀ new : BayState, new = .checking ∨ new = .empty → ((s.told ns).enterBay b new).unbind r.id b =
        ((s.leftDoor b new none none).unbound (some r.id)).told ns := fun new hnew => by
      have hplain : new.atDoor = false ∧ new.isOff = false ∧ new.reserved = false ∧ new.dropsPack = true := by
        obtain rfl | rfl := hnew <;> exact ⟨rfl, rfl, rfl, rfl⟩
      have hbook : ∀ ms : List Notice, ((s.leftDoor b new none none).told ms).book = s.book := fun ms => by
        rw [State.told_book]
        rfl
      rw [State.told_enterBay, h.enterBay ⟨hplain.1, hplain.2.1⟩, hplain.2.2.1, BayState.keptPack, if_pos hplain.2.2.2,
        if_neg (by simp), State.unbind_eq (by rw [hbook]; exact hn) (by rw [hbook]; exact hr) hst
        (by rw [State.told_clock, State.told_cfg]; exact hexp), State.told_unbound, State.told_request]
      rfl
    obtain rfl | rfl := he
    · exact (congrArg (State.raise _) (hleaves _ (.inl rfl))).trans (State.told_raise ..)
    · exact (congrArg (State.raise _) (hleaves _ (.inr rfl))).trans (State.told_raise ..)

/-- The door closes on the original pack with a fault pending: the bay goes to FAULT and the record is unbound. -/
theorem AtDoor.ajarCloses_fault {c : Handover} {k : FaultKind} (hc : r.id = c.reservation)
    (hfault : (s.bay b).pendingFault = some k) (hk : k = .stageFault ∨ k = .packFault ∨ k = .packHot) :
    (s.told ns).ajarCloses b c =
      ((s.leftDoor b (.fault k) (some p) none).unbound (some r.id)).told (ns ++ [.bayFault b k p.serial]) := by
  have hend : ∀ e, e = .held ∨ e = .ready → endState (some k) e = .fault k := by
    rintro e (rfl | rfl) <;> rfl
  have hending : r.ajarEnding = .held ∨ r.ajarEnding = .ready := by
    obtain hst | hst := hst
    · exact .inl (by rw [Reservation.ajarEnding, hst])
    · exact .inr (by rw [Reservation.ajarEnding, hst])
  have hkept : BayState.keptPack (.fault k) (some p) = some p := by obtain rfl | rfl | rfl := hk <;> rfl
  unfold State.ajarCloses
  rw [State.told_book, ← hc, Book.byId_of_mem hn hr]
  dsimp only
  rw [State.endHandover, State.told_bay, hfault, hend _ hending]
  dsimp only
  rw [h.faultBay_unbinds k ns hres hn hr hst hexp, hpack, hkept,
    State.doorClear_away fun z hz => by
      rw [State.told_book] at hz
      obtain rfl := Option.some.inj ((State.byId_unbound (s := s) hn hr).symm.trans hz)
      rfl]
  rfl

/-- The door closes on the original pack: the bay goes back to HELD or READY and at door is cleared. -/
theorem AtDoor.ajarCloses_back {c : Handover} (hc : r.id = c.reservation) (hfault : (s.bay b).pendingFault = none)
    (hdoor : r.atDoor = true) :
    (s.told ns).ajarCloses b c =
      ((s.leftDoor b (if r.state = .ready b then .ready else .held) (some p) (some r.id)).cleared r.id).told ns := by
  have hend : endState none r.ajarEnding = if r.state = .ready b then BayState.ready else .held := by
    obtain hst | hst := hst <;> simp [Reservation.ajarEnding, hst, endState, HandoverEnd.state]
  unfold State.ajarCloses
  rw [State.told_book, ← hc, Book.byId_of_mem hn hr]
  dsimp only
  rw [State.endHandover, State.told_bay, hfault, hend]
  have hback : ∀ new : BayState, new = .ready ∨ new = .held → ((s.told ns).enterBay b new).doorClear r.id =
      ((s.leftDoor b new (some p) (some r.id)).cleared r.id).told ns := fun new hnew => by
    have hplain : new.atDoor = false ∧ new.isOff = false ∧ new.reserved = true ∧ new.dropsPack = false := by
      obtain rfl | rfl := hnew <;> exact ⟨rfl, rfl, rfl, rfl⟩
    have hbook : ((s.leftDoor b new (some p) (some r.id)).told ns).book = s.book := by
      rw [State.told_book]
      rfl
    rw [State.told_enterBay, h.enterBay ⟨hplain.1, hplain.2.1⟩, hplain.2.2.1, BayState.keptPack, hplain.2.2.2, if_pos rfl,
      if_neg (by simp), hpack, hres, State.doorClear_early (by rw [hbook]; exact hn) (by rw [hbook]; exact hr) hdoor
      (by rw [State.told_clock, State.told_cfg]; exact hexp hdoor), State.told_cleared]
  by_cases hready : r.state = .ready b
  · rw [if_pos hready]
    exact hback _ (.inl rfl)
  · rw [if_neg hready]
    exact hback _ (.inr rfl)

end

/-! ### The whole event -/

/-- The part as the AJAR rule has noted a report. -/
theorem State.told_ajarNoted {s : State} {b : BayNo} {q : Report} (ns : List Notice) (hready : DoorReady (reported q (s.bay b))) :
    ((s.quiet.received b q).told ns).reportAtDoor b q =
      (s.refreshed b (Bay.doorNoted s.cfg q (reported q (s.bay b))) (doorAsks s.cfg q (reported q (s.bay b)))).told
        (ns ++ retiredAtDoor s.cfg b q (reported q (s.bay b))) := by
  have hbay : (s.quiet.received b q).bay b = reported q (s.bay b) := State.received_bay_self b q s.quiet
  rw [State.told_reportAtDoor q ns (by rw [hbay]; exact hready), State.doorNoted, hbay]
  simp only [State.received, State.refreshed, Vector.set_set]
  rfl

theorem State.reportByState_ajar {s : State} {b : BayNo} {q : Report} {ns : List Notice} (h : (s.bay b).state = .ajar) :
    ((s.quiet.received b q).told ns).reportByState b (s.bay b).door q =
      ((s.quiet.received b q).told ns).reportAjar b q := by
  have hstate : ((s.quiet.received b q).bay b).state = .ajar := by
    rw [State.received_bay_self]
    exact h
  unfold State.reportByState
  rw [State.told_bay, hstate]

/-- The AJAR rule by what a report shows of the original pack (R146). -/
theorem State.reportAjar_eq {s v : State} {b : BayNo} {q : Report} {c : Handover} {p p' : Pack} {ms : List Notice}
    (hnoted : s.reportAtDoor b q = v.told ms) (hh : (v.bay b).handover = some c) (hp : (v.bay b).pack = some p')
    (hserial : p'.serial = p.serial) :
    s.reportAjar b q =
      if q.present = false then (v.told ms).ajarMissing b c .empty
      else if q.serial ≠ 0 ∧ q.serial ≠ p.serial then
        let u := (v.told ms).ajarMissing b c .checking
        if (u.bay b).state = .checking then u.reportChecking b q else u
      else if q.door = .closed ∧ q.serial ≠ 0 ∧ q.serial = p.serial then (v.told ms).ajarCloses b c
      else v.told ms := by
  have hother := Bay.otherSerial_iff (q := q) hp
  have hsame := Bay.sameSerial_iff (q := q) hp
  rw [hserial] at hother hsame
  unfold State.reportAjar
  dsimp only
  rw [hnoted, State.told_bay, hh]
  dsimp only
  by_cases hpresent : q.present = true
  · simp only [hpresent, Bool.not_true, Bool.false_eq_true, if_false, reduceCtorEq]
    by_cases ho : q.serial ≠ 0 ∧ q.serial ≠ p.serial
    · rw [if_pos (hother.2 ⟨hpresent, ho⟩), if_pos ho]
    · rw [if_neg (hother.not.2 fun h => ho h.2), if_neg ho]
      by_cases hs : q.door = .closed ∧ q.serial ≠ 0 ∧ q.serial = p.serial
      · rw [if_pos (by rw [Bool.and_eq_true]; exact ⟨by simp [hs.1], hsame.2 ⟨hpresent, hs.2⟩⟩), if_pos hs]
      · rw [if_neg hs, if_neg fun h => hs ?_]
        rw [Bool.and_eq_true] at h
        exact ⟨by simpa using h.1, (hsame.1 h.2).2⟩
  · rw [if_pos (by simp [hpresent]), if_pos (Bool.eq_false_iff.2 hpresent)]

/-- Another pack in an AJAR bay that does not go to FAULT at once is taken on by the CHECKING rule. -/
theorem AtDoor.reportChecking_unbound {s : State} {b : BayNo} (h : AtDoor b s) (id : Nat) (q : Report) (ns : List Notice) :
    (((s.leftDoor b .checking none none).unbound (some id)).told ns).reportChecking b q =
      let new := checkedState (s.bay b).mask q
      let pack := checkedPack s.cfg new q
      (((s.setBay b (s.bay b).relocked).placed b new pack).unbound (some id)).told (ns ++ faultNotices b new pack) := by
  have hbay : ((s.setBay b (s.bay b).relocked).unbound (some id)).bay b = (s.bay b).relocked := State.setBay_bay_self _ _ _
  rw [h.leftDoor_eq_placed (.inl rfl)]
  have hrule := State.told_reportChecking b q ns ((s.setBay b (s.bay b).relocked).unbound (some id))
  rw [hbay] at hrule
  exact hrule

/-- The blocks of a bay that has left the door and gone on by the CHECKING rule. -/
theorem AtDoor.placed_relocked {s : State} {b : BayNo} (h : AtDoor b s) (new : BayState) (pack : Option Pack) :
    (s.setBay b (s.bay b).relocked).placed b new pack =
      { s with
        bays := s.bays.set b (leftChecking new pack (s.bay b)) b.isLt
        boost := { s.boost with eligible := s.boost.eligible.set b new.eligible b.isLt }
        plan := { s.plan with requested := true } } := by
  have hkeeps : arbiterLeft b new s.boost = { s.boost with eligible := s.boost.eligible.set b new.eligible b.isLt } :=
    arbiterLeft_other new h.holder
  rw [State.placed, State.setBay_bay_self, h.movedTo_relocked, State.setBay_boost, hkeeps]
  simp [State.setBay]

/-- The part with an AJAR bay gone without its original pack. -/
def State.ajarLeft (b : BayNo) (staged : Bool) (new : BayState) (pack : Option Pack) (id : Nat) (s : State) : State :=
  { s with
    bays := s.bays.set b (if staged then Safety.leftDoor new pack none (s.bay b) else leftChecking new pack (s.bay b)) b.isLt
    book := { s.book with records := unboundIn (some id) s.book.records }
    boost := { s.boost with eligible := s.boost.eligible.set b new.eligible b.isLt }
    plan := { s.plan with requested := true } }

section
variable {s : State} {b : BayNo} {r : Reservation} {p : Pack} {q : Report} {c : Handover} (h : AtDoor b s) (ns : List Notice)
  (hres : (s.bay b).reservation = some r.id) (hn : (s.book.records.map (·.id)).Nodup) (hr : r ∈ s.book.records)
  (hst : r.state = .bound b ∨ r.state = .ready b) (hexp : r.atDoor = true → s.clock.seconds < r.expiry s.cfg)
  (hpack : (s.bay b).pack = some p) (hc : r.id = c.reservation)
include h hres hn hr hst hexp hpack hc

/-- No pack is left in the bay and no stage fault pending: it comes to EMPTY. -/
theorem AtDoor.ajarEmptied (hstage : (s.bay b).pendingFault ≠ some .stageFault) :
    (s.told ns).ajarMissing b c .empty =
      (s.ajarLeft b false .empty none r.id).told (ns ++ [.packMissing b p.serial r.id]) := by
  have hleft : Safety.leftDoor .empty none none (s.bay b) = leftChecking .empty none (s.bay b) := by
    simp [leftChecking, Safety.leftDoor, BayState.outOfUse]
  rw [h.ajarMissing ns hres hn hr hst hexp hpack (.inr rfl) hc, if_neg hstage, State.leftDoor]
  dsimp only [HandoverEnd.state]
  rw [hleft]
  rfl

/-- Another pack stands in the bay and no stage fault is pending: the CHECKING rule takes the report on. -/
theorem AtDoor.ajarReplaced (hstage : (s.bay b).pendingFault ≠ some .stageFault) :
    (let u := (s.told ns).ajarMissing b c .checking
      if (u.bay b).state = .checking then u.reportChecking b q else u) =
      (s.ajarLeft b false (checkedState (s.bay b).mask q) (checkedPack s.cfg (checkedState (s.bay b).mask q) q) r.id).told
        (ns ++ [.packMissing b p.serial r.id] ++
          faultNotices b (checkedState (s.bay b).mask q) (checkedPack s.cfg (checkedState (s.bay b).mask q) q)) := by
  dsimp only
  rw [h.ajarMissing ns hres hn hr hst hexp hpack (.inl rfl) hc, if_neg hstage]
  dsimp only [HandoverEnd.state]
  have hbay : ((s.leftDoor b .checking none none).unbound (some r.id)).bay b = Safety.leftDoor .checking none none (s.bay b) :=
    State.setBay_bay_self _ _ _
  refine (if_pos (by rw [State.told_bay, hbay]; rfl)).trans ?_
  rw [h.reportChecking_unbound]
  dsimp only
  rw [h.placed_relocked]
  rfl

/-- A stage fault is pending: the bay goes to FAULT with its pack record, and nothing is checked. -/
theorem AtDoor.ajarStaged {e : HandoverEnd} (he : e = .checking ∨ e = .empty)
    (hstage : (s.bay b).pendingFault = some .stageFault) :
    (s.told ns).ajarMissing b c e =
      (s.ajarLeft b true (.fault .stageFault) (some p) r.id).told
        (ns ++ [.bayFault b .stageFault p.serial] ++ [.packMissing b p.serial r.id]) := by
  rw [h.ajarMissing ns hres hn hr hst hexp hpack he hc, if_pos hstage]
  rfl

/-- The whole of R146 for an original pack gone from the bay. -/
theorem AtDoor.ajarGone
    (hquiet : (s.bay b).pendingFault ≠ some .stageFault → q.stageFault = false) :
    (if q.present = false then (s.told ns).ajarMissing b c .empty
      else
        let u := (s.told ns).ajarMissing b c .checking
        if (u.bay b).state = .checking then u.reportChecking b q else u) =
      if (s.bay b).pendingFault = some .stageFault then
        (s.ajarLeft b true (.fault .stageFault) (some p) r.id).told
          (ns ++ [.bayFault b .stageFault p.serial] ++ [.packMissing b p.serial r.id])
      else
        (s.ajarLeft b false (checkedState (s.bay b).mask q) (checkedPack s.cfg (checkedState (s.bay b).mask q) q) r.id).told
          (ns ++ [.packMissing b p.serial r.id] ++
            faultNotices b (checkedState (s.bay b).mask q) (checkedPack s.cfg (checkedState (s.bay b).mask q) q)) := by
  by_cases hstage : (s.bay b).pendingFault = some .stageFault
  · rw [if_pos hstage]
    by_cases habsent : q.present = false
    · rw [if_pos habsent, h.ajarStaged ns hres hn hr hst hexp hpack hc (.inr rfl) hstage]
    · rw [if_neg habsent, h.ajarStaged ns hres hn hr hst hexp hpack hc (.inl rfl) hstage]
      dsimp only
      have hbay : (s.ajarLeft b true (.fault .stageFault) (some p) r.id).bay b =
          Safety.leftDoor (.fault .stageFault) (some p) none (s.bay b) := State.setBay_bay_self _ _ _
      rw [State.told_bay, hbay]
      exact if_neg (by simp [Safety.leftDoor])
  · rw [if_neg hstage]
    by_cases habsent : q.present = false
    · rw [if_pos habsent, h.ajarEmptied ns hres hn hr hst hexp hpack hc hstage,
        checkedState_absent (hquiet hstage) habsent]
      simp [checkedPack, faultNotices]
    · rw [if_neg habsent, h.ajarReplaced ns hres hn hr hst hexp hpack hc hstage]

end

theorem stageFault_of_pendingAfter {x : Bay} {q : Report} (h : pendingAfter x q ≠ some .stageFault) : q.stageFault = false := by
  by_contra hstage
  exact h (if_pos (.inr ((Bool.not_eq_false _).mp hstage)))

theorem State.ajarLeft_refreshed_bays (b : BayNo) (staged : Bool) (new : BayState) (pack : Option Pack) (id : Nat) (y : Bay)
    (ask : Bool) (s : State) :
    ((s.refreshed b y ask).ajarLeft b staged new pack id).bays =
      s.bays.set b (if staged then Safety.leftDoor new pack none y else leftChecking new pack y) b.isLt := by
  rw [State.ajarLeft, State.refreshed_bay_self]
  exact Vector.set_set ..

theorem pendingAfter_kinds {x : Bay} {q : Report} {k : FaultKind} (h : pendingAfter x q = some k) :
    k = .stageFault ∨ k = .packFault ∨ k = .packHot := by
  unfold pendingAfter at h
  dsimp only at h
  split_ifs at h <;> simp_all

theorem State.leftDoor_refreshed_bays (b : BayNo) (new : BayState) (pack : Option Pack) (res : Option Nat) (y : Bay)
    (ask : Bool) (s : State) :
    ((s.refreshed b y ask).leftDoor b new pack res).bays = s.bays.set b (Safety.leftDoor new pack res y) b.isLt := by
  rw [State.leftDoor, State.refreshed_bay_self]
  exact Vector.set_set ..

/-- The event of a report to an AJAR bay, by what its rule comes to. -/
theorem exec_bayReport_ajar {b : BayNo} {r : Report} {s v : State} {ns : List Notice} (hr : Running s)
    (hok : r.checkOk = true) (hf : r.boostFault = false)
    (hbody : ((s.quiet.received b (limitReport r)).told (forcedNotices b (limitReport r) (s.bay b))).reportByState b
      (s.bay b).door (limitReport r) = v.told ns)
    (hv : v = { s.quiet with bays := v.bays, book := v.book, boost := v.boost, plan := v.plan })
    (hb : ∀ d, d ≠ b → v.bay d = s.bay d) :
    ∃ t, exec (.bayReport b r) s = .next t ∧
      t = { s with
        bays := t.bays, book := t.book, plan := t.plan, boost := t.boost, flags := t.flags, line := t.line
        out := t.out } ∧
      Replied b t ∧ t.bays = v.bays ∧ t.book = v.book ∧ t.boost = v.boost ∧ Raised ns s t ∧
      (v.plan = { s.plan with requested := true } → PassAsked s t) ∧ (v.plan = s.plan → t.plan = s.plan) := by
  have hpart : v.part = .run := by rw [hv]; exact hr.run
  have hout : v.out = quietOut := by rw [hv]; rfl
  obtain ⟨t, ht, heq, hraised, hreplied, hasked, hkept⟩ := exec_bayReport_ends hr hok hf hbody hpart hout hb
  have hraised' : Raised ns s t := by
    rw [hv] at hraised
    exact hraised
  refine ⟨t, ht, ?_, hreplied, ?_, ?_, ?_, hraised', hasked, hkept⟩
  · rw [heq, hv]
    rfl
  · rw [heq]
  · rw [heq]
  · rw [heq]

theorem State.set_set_bay_other {s : State} {b d : BayNo} (hd : d ≠ b) (y : Bay) (ask : Bool) (z : Bay) :
    ((s.refreshed b y ask).bays.set b z b.isLt)[d] = s.bay d :=
  (State.setBay_bay (s.refreshed b y ask) b d z).trans
    ((if_neg (Ne.symm hd)).trans (State.refreshed_bay_other hd y ask s))

/-- Settles O33: the four branches of `State.reportAjar_eq`. -/
theorem reportInAjar : Obligations.ReportInAjar := by
  intro b r h p rec s hr hboost hfields hset hlock hn hok hf hst hh hp hrec hid hdoor hrecst hexp q x own other kept pend back
    unbound cleared eligibleAt
  have hat' := atDoor_of_sound hboost hset hlock (by rw [hst]; rfl)
  have hready : DoorReady x := by
    obtain ⟨h1, h2, h3⟩ := doorReady_of_sound hfields hset (by rw [hst]; rfl)
    exact ⟨h1, h2, h3⟩
  have hforced := forcedNotices_atDoor b q hlock (by rw [hst]; rfl)
  have hnoted := State.told_ajarNoted (forcedNotices b q (s.bay b)) hready
  rw [hforced, List.nil_append] at hnoted
  have hpack : packAtDoor s.cfg q x = some kept := by
    rw [packAtDoor, show x.pack = some p from hp]
    rfl
  have hkept : kept.serial = p.serial := by
    show (if own then copied s.cfg q p else p).serial = p.serial
    split <;> rfl
  have hretired : retiredAtDoor s.cfg b q x = if own then retiredNotices s.cfg b q p else [] := by
    rw [retiredAtDoor, show x.pack = some p from hp]
  have hask : doorAsks s.cfg q x = true ↔ kept.retired ≠ p.retired := by
    rw [doorAsks, decide_eq_true_iff, hpack, show x.pack = some p from hp]
    simp
  have hself := s.refreshed_bay_self b (Bay.doorNoted s.cfg q x) (doorAsks s.cfg q x)
  have hlocked : x.locked = false := by
    obtain ⟨h1, h2⟩ := hlock.1 (by rw [hst]; rfl)
    simp [x, reported, h1, h2]
  have hat : AtDoor b (s.refreshed b (Bay.doorNoted s.cfg q x) (doorAsks s.cfg q x)) :=
    ⟨by rw [hself]; exact hat'.door, by rw [hself]; exact hat'.setpoint, by rw [hself]; exact hlocked,
      by rw [hself]; exact hat'.boost, hat'.holder⟩
  have hres : ((s.refreshed b (Bay.doorNoted s.cfg q x) (doorAsks s.cfg q x)).bay b).reservation = some rec.id := by
    rw [hself]
    exact (hfields.2.2.2.2.2 h hh).trans (congrArg some hid.symm)
  have hpack' : ((s.refreshed b (Bay.doorNoted s.cfg q x) (doorAsks s.cfg q x)).bay b).pack = some kept := by
    rw [hself]
    exact hpack
  have hpend : ((s.refreshed b (Bay.doorNoted s.cfg q x) (doorAsks s.cfg q x)).bay b).pendingFault = pend := by
    rw [hself]
    rfl
  have hrule := (State.reportByState_ajar (q := q) (ns := forcedNotices b q (s.bay b)) hst).trans
    (State.reportAjar_eq (v := s.refreshed b (Bay.doorNoted s.cfg q x) (doorAsks s.cfg q x)) (c := h) (p := p) (p' := kept)
      (ms := retiredAtDoor s.cfg b q x) (by rw [hforced]; exact hnoted) (by rw [hself]; exact hh) hpack' hkept)
  have hother : ∀ z : Bay, ∀ d, d ≠ b →
      ((s.refreshed b (Bay.doorNoted s.cfg q x) (doorAsks s.cfg q x)).bays.set b z b.isLt)[d] = s.bay d := fun z d hd =>
    State.set_set_bay_other hd _ _ z
  by_cases hgone : q.present = false ∨ other
  · have hown : ¬ own := fun ho => hgone.elim (fun ha => by rw [ho.1] at ha; simp at ha) fun h' => h'.2.2 ho.2.2
    have hsamePack : kept = p := if_neg hown
    have hsilent : retiredAtDoor s.cfg b q x = [] := hretired.trans (if_neg hown)
    have hgo := hat.ajarGone (q := q) [] hres hn hrec hrecst (fun _ => hexp) (hpack'.trans (congrArg some hsamePack)) hid
      (by rw [hpend]; exact stageFault_of_pendingAfter)
    rw [hpend, hself] at hgo
    rw [hsilent] at hrule
    have hbody := hrule.trans (Eq.trans (by
      by_cases habsent : q.present = false
      · rw [if_pos habsent, if_pos habsent]
      · rw [if_neg habsent, if_neg habsent]
        exact if_pos (hgone.resolve_left habsent).2) hgo)
    by_cases hstage : pend = some .stageFault
    · rw [if_pos hstage] at hbody
      obtain ⟨t, ht, heq, hreplied, hbays, hbook, hboosted, hraised, hasked, -⟩ :=
        exec_bayReport_ajar hr hok hf hbody rfl fun d hd => hother _ d hd
      refine ⟨t, ht, heq, hreplied, fun _ => ⟨?_, hbook, ?_, hasked rfl, ?_⟩, fun ho => absurd ho hown, fun ho => absurd ho hown,
        fun hpr ho => absurd ho (hgone.elim (fun ha => by rw [hpr] at ha; simp at ha) fun h' hno => hno h')⟩
      · simp only [if_pos hstage]
        exact hbays.trans (State.ajarLeft_refreshed_bays ..)
      · simp only [if_pos hstage]
        exact hboosted
      · simp only [if_pos hstage, List.append_nil]
        exact hraised
    · rw [if_neg hstage] at hbody
      obtain ⟨t, ht, heq, hreplied, hbays, hbook, hboosted, hraised, hasked, -⟩ :=
        exec_bayReport_ajar hr hok hf hbody rfl fun d hd => hother _ d hd
      refine ⟨t, ht, heq, hreplied, fun _ => ⟨?_, hbook, ?_, hasked rfl, ?_⟩, fun ho => absurd ho hown, fun ho => absurd ho hown,
        fun hpr ho => absurd ho (hgone.elim (fun ha => by rw [hpr] at ha; simp at ha) fun h' hno => hno h')⟩
      · simp only [if_neg hstage]
        exact hbays.trans (State.ajarLeft_refreshed_bays ..)
      · simp only [if_neg hstage]
        exact hboosted
      · simp only [if_neg hstage, List.nil_append]
        exact hraised
  · obtain ⟨hpr, hsameSerial⟩ := not_or.1 hgone
    have hpresent : q.present = true := (Bool.not_eq_false _).mp hpr
    have hsame : ¬ (q.serial ≠ 0 ∧ q.serial ≠ p.serial) := fun ho => hsameSerial ⟨hpresent, ho⟩
    rw [if_neg hpr, if_neg hsame, hretired] at hrule
    by_cases hclose : own ∧ q.door = .closed
    · obtain ⟨hown, hclosed⟩ := hclose
      have hbranch : ∀ u v : State, (if q.door = .closed ∧ q.serial ≠ 0 ∧ q.serial = p.serial then u else v) = u :=
        fun u v => if_pos ⟨hclosed, hown.2⟩
      rw [hbranch, if_pos hown] at hrule
      cases hk : pend with
      | some k =>
        have hbody := hrule.trans (hat.ajarCloses_fault _ hres hn hrec hrecst (fun _ => hexp) hpack' hid (hpend.trans hk)
          (pendingAfter_kinds hk))
        rw [hkept] at hbody
        obtain ⟨t, ht, heq, hreplied, hbays, hbook, hboosted, hraised, hasked, -⟩ :=
          exec_bayReport_ajar hr hok hf hbody rfl fun d hd => hother _ d hd
        refine ⟨t, ht, heq, hreplied, fun ho => absurd ho hgone, fun _ _ k' hk' => ?_, fun _ _ hno => absurd hno (by simp),
          fun _ _ ho => absurd ⟨hown, hclosed⟩ ho⟩
        obtain rfl := Option.some.inj hk'
        exact ⟨hbays.trans (State.leftDoor_refreshed_bays ..), hbook, hboosted, hasked rfl, hraised⟩
      | none =>
        have hbody := hrule.trans (hat.ajarCloses_back _ hres hn hrec hrecst (fun _ => hexp) hpack' hid (hpend.trans hk) hdoor)
        obtain ⟨t, ht, heq, hreplied, hbays, hbook, hboosted, hraised, hasked, -⟩ :=
          exec_bayReport_ajar hr hok hf hbody rfl fun d hd => hother _ d hd
        exact ⟨t, ht, heq, hreplied, fun ho => absurd ho hgone, fun _ _ k' hk' => absurd hk' (by simp), fun _ _ _ =>
          ⟨hbays.trans (State.leftDoor_refreshed_bays ..), hbook, hboosted, hasked rfl, hraised⟩,
          fun _ _ ho => absurd ⟨hown, hclosed⟩ ho⟩
    · have hbranch : ∀ u v : State, (if q.door = .closed ∧ q.serial ≠ 0 ∧ q.serial = p.serial then u else v) = v :=
        fun u v => if_neg fun ho => hclose ⟨⟨hpresent, ho.2⟩, ho.1⟩
      rw [hbranch] at hrule
      obtain ⟨t, ht, heq, hreplied, hbays, hbook, hboosted, hraised, hasked, hkeptPlan⟩ :=
        exec_bayReport_ajar hr hok hf hrule rfl fun d hd => State.refreshed_bay_other hd _ _ s
      refine ⟨t, ht, heq, hreplied, fun ho => absurd ho hgone, fun ho hc => absurd ⟨ho, hc⟩ hclose,
        fun ho hc => absurd ⟨ho, hc⟩ hclose, fun _ _ _ => ⟨?_, hbook, hboosted, hraised, ?_⟩⟩
      · rw [hbays, ← hpack]
        rfl
      · have hplan : if doorAsks s.cfg q x = true then PassAsked s t else t.plan = s.plan :=
          asked_or_kept hasked hkeptPlan rfl
        rwa [if_congr hask rfl rfl] at hplan

end Sys2Proof.Machine
end


section
/-! SUPPORT. The handover and door-ajar timers and the loss of a link in OPEN: a record returns to its prior state, the bay
leaving the door or standing AJAR (R142 to R145, R147). -/

namespace Sys2Proof.Machine

open Sys2Proof.Machine.Safety

/-! ### The record returns (R51) -/

/-- A record back in the state it had before its handover, with at door as given. -/
def Reservation.back (b : BayNo) (p : Prior) (door : Bool) (z : Reservation) : Reservation :=
  { z with state := p.state b, late := false, atDoor := door }

/-- The part with a record returned. -/
def State.returned (b : BayNo) (p : Prior) (door : Bool) (id : Nat) (s : State) : State :=
  { s with
    book := { s.book with records := s.book.records.map fun z => if z.id = id then z.back b p door else z }
    plan := { s.plan with requested := true } }

section
variable {s : State} {r : Reservation} {b : BayNo} {p : Prior}
  (hn : (s.book.records.map (·.id)).Nodup) (hr : r ∈ s.book.records) (hst : r.state = .handover b p)
  (hdoor : r.atDoor = true)
include hn hr hst

theorem State.priorOf_eq (ns : List Notice) : (s.told ns).book.priorOf r.id = some p := by
  unfold Book.priorOf
  rw [State.told_book, Book.byId_of_mem hn hr]
  simp only [hst]

include hdoor

theorem State.told_returnRecord (ns : List Notice) : (s.told ns).returnRecord r.id = (s.returned b p true r.id).told ns := by
  have hmap : s.book.records.map (fun z => if (z.id == r.id) = true then { z with state := p.state b, late := false } else z) =
      s.book.records.map fun z => if z.id = r.id then z.back b p true else z := by
    refine List.map_congr_left fun z hz => ?_
    by_cases hid : z.id = r.id
    · obtain rfl : r = z := Option.some.inj ((Book.byId_of_mem hn hr).symm.trans (hid ▸ Book.byId_of_mem hn hz))
      simp only [beq_self_eq_true, if_true, Reservation.back, ← hdoor]
    · rw [if_neg (by simpa using hid), if_neg hid]
  unfold State.returnRecord
  rw [State.told_book, Book.byId_of_mem hn hr]
  simp only [hst]
  rw [State.told_updateRecord, State.told_request, State.updateRecord, hmap]
  rfl

omit hst hdoor in
theorem State.returned_mem (door : Bool) : r.back b p door ∈ (s.returned b p door r.id).book.records :=
  List.mem_map.2 ⟨r, hr, if_pos rfl⟩

omit hr hst hdoor in
theorem State.returned_ids (door : Bool) (id : Nat) : ((s.returned b p door id).book.records.map (·.id)).Nodup := by
  have : (s.returned b p door id).book.records.map (·.id) = s.book.records.map (·.id) := by
    show (s.book.records.map _).map _ = _
    rw [List.map_map]
    refine List.map_congr_left fun z _ => ?_
    simp only [Function.comp]
    split <;> rfl
  rwa [this]

end

/-- An unbind takes the place of a return. -/
theorem State.returned_unbound (b : BayNo) (p : Prior) (door : Bool) (id : Nat) (s : State) :
    (s.returned b p door id).unbound (some id) = (s.unbound (some id)).request := by
  have hmap : unboundIn (some id) (s.book.records.map fun z => if z.id = id then z.back b p door else z) =
      unboundIn (some id) s.book.records := by
    unfold unboundIn
    rw [List.map_map]
    refine List.map_congr_left fun z _ => ?_
    by_cases h : z.id = id
    · simp [h, Reservation.back]
    · simp [h, Ne.symm h]
  show ({ s with book := _, plan := _ } : State) = _
  rw [show (s.returned b p door id).book.records = s.book.records.map fun z => if z.id = id then z.back b p door else z from rfl,
    hmap]
  rfl

theorem State.returned_cleared (b : BayNo) (p : Prior) (id : Nat) (s : State) :
    (s.returned b p true id).cleared id = s.returned b p false id := by
  have hmap : (s.book.records.map fun z => if z.id = id then z.back b p true else z).map
      (fun z => if z.id = id then { z with atDoor := false } else z) =
      s.book.records.map fun z => if z.id = id then z.back b p false else z := by
    rw [List.map_map]
    refine List.map_congr_left fun z _ => ?_
    by_cases h : z.id = id <;> simp [h, Reservation.back]
  show ({ s with book := _, plan := _ } : State) = _
  rw [show (s.returned b p true id).book.records = s.book.records.map fun z => if z.id = id then z.back b p true else z from rfl,
    hmap]
  rfl

/-! ### The bay follows it (R143, R145) -/

theorem AtDoor.returned {s : State} {b : BayNo} (h : AtDoor b s) (d : BayNo) (p : Prior) (door : Bool) (id : Nat) :
    AtDoor b (s.returned d p door id) := ⟨h.door, h.setpoint, h.locked, h.boost, h.holder⟩

/-- The state of a bay that a return leads to (R143). -/
def Prior.bayState : Prior → BayState
  | .bound => .held
  | .ready => .ready

section
variable {s : State} {r : Reservation} {b : BayNo} {p : Prior} (h : AtDoor b s) (ns : List Notice)
  (hres : (s.bay b).reservation = some r.id) (hn : (s.book.records.map (·.id)).Nodup) (hr : r ∈ s.book.records)
  (hexp : s.clock.seconds < r.expiry s.cfg)
include h hres hn hr hexp

/-- A return with a fault pending: the bay goes to FAULT, and the record is PENDING. -/
theorem AtDoor.endHandover_fault {k : FaultKind} (hfault : (s.bay b).pendingFault = some k) :
    ((s.returned b p true r.id).told ns).endHandover b p.ending =
      ((s.leftDoor b (.fault k) (BayState.keptPack (.fault k) (s.bay b).pack) none).unbound (some r.id)).told
        (ns ++ faultNotices b (.fault k) (BayState.keptPack (.fault k) (s.bay b).pack)) := by
  have hend : endState (some k) p.ending = .fault k := by cases p <;> rfl
  have hbound : (r.back b p true).state = .bound b ∨ (r.back b p true).state = .ready b := by
    cases p
    · exact .inl rfl
    · exact .inr rfl
  rw [State.endHandover, State.told_bay, show (s.returned b p true r.id).bay b = s.bay b from rfl, hfault, hend]
  dsimp only
  have hfaulted := (h.returned b p true r.id).faultBay_unbinds k ns (r := r.back b p true) hres (State.returned_ids hn true r.id)
    (State.returned_mem hn hr true) hbound fun _ => hexp
  refine hfaulted.trans ?_
  exact congrArg (fun u : State => (u.leftDoor b (.fault k) (BayState.keptPack (.fault k) (s.bay b).pack) none).told _)
    (State.returned_unbound b p true r.id s)

/-- A return: the bay goes back to HELD or READY. -/
theorem AtDoor.endHandover_back (hfault : (s.bay b).pendingFault = none) :
    ((s.returned b p true r.id).told ns).endHandover b p.ending =
      ((s.leftDoor b p.bayState (s.bay b).pack (some r.id)).returned b p true r.id).told ns := by
  have hend : endState none p.ending = p.bayState := by cases p <;> rfl
  have hbay : (s.returned b p true r.id).bay b = s.bay b := rfl
  have henter : ((s.returned b p true r.id).told ns).endHandover b p.ending =
      ((s.returned b p true r.id).told ns).enterBay b p.bayState := by
    rw [State.endHandover, State.told_bay, hbay, hfault, hend]
    cases p <;> rfl
  have hplain : p.bayState.atDoor = false ∧ p.bayState.isOff = false ∧ p.bayState.reserved = true ∧
      p.bayState.dropsPack = false := by cases p <;> exact ⟨rfl, rfl, rfl, rfl⟩
  obtain ⟨hdoor, hoff, hreserved, hkeeps⟩ := hplain
  rw [henter, State.told_enterBay, (h.returned b p true r.id).enterBay ⟨hdoor, hoff⟩, hreserved, BayState.keptPack, hkeeps,
    if_pos rfl, if_neg (by simp), hbay, hres]
  rfl

/-- At door is cleared as the bay is back (R143, step 3). -/
theorem AtDoor.doorClear_back :
    (((s.leftDoor b p.bayState (s.bay b).pack (some r.id)).returned b p true r.id).told ns).doorClear r.id =
      ((s.leftDoor b p.bayState (s.bay b).pack (some r.id)).returned b p false r.id).told ns := by
  have hbook : (((s.leftDoor b p.bayState (s.bay b).pack (some r.id)).returned b p true r.id).told ns).book =
      (s.returned b p true r.id).book := by
    rw [State.told_book]
    rfl
  refine (State.doorClear_early (r := r.back b p true) (by rw [hbook]; exact State.returned_ids hn true r.id)
    (by rw [hbook]; exact State.returned_mem hn hr true) rfl (by rw [State.told_clock, State.told_cfg]; exact hexp)).trans ?_
  rw [State.told_cleared]
  exact congrArg (State.told ns) (State.returned_cleared b p r.id _)

/-- A return to the prior state (R143). -/
theorem AtDoor.returnHandover (hst : r.state = .handover b p) (hdoor : r.atDoor = true) :
    (s.told ns).returnHandover b r.id =
      match (s.bay b).pendingFault with
      | some k =>
        ((s.leftDoor b (.fault k) (BayState.keptPack (.fault k) (s.bay b).pack) none).unbound (some r.id)).told
          (ns ++ faultNotices b (.fault k) (BayState.keptPack (.fault k) (s.bay b).pack))
      | none => ((s.leftDoor b p.bayState (s.bay b).pack (some r.id)).returned b p false r.id).told ns := by
  unfold State.returnHandover
  rw [State.priorOf_eq hn hr hst]
  dsimp only
  rw [State.told_returnRecord hn hr hst hdoor]
  cases hfault : (s.bay b).pendingFault with
  | some k =>
    rw [h.endHandover_fault ns hres hn hr hexp (p := p) hfault]
    have hbay : ((s.leftDoor b (.fault k) (BayState.keptPack (.fault k) (s.bay b).pack) none).unbound (some r.id)).bay b =
        Safety.leftDoor (.fault k) (BayState.keptPack (.fault k) (s.bay b).pack) none (s.bay b) := State.setBay_bay_self _ _ _
    exact if_neg (by rw [State.told_bay, hbay]; simp [Safety.leftDoor])
  | none =>
    rw [h.endHandover_back ns hres hn hr hexp (p := p) hfault]
    have hbay : ((s.leftDoor b p.bayState (s.bay b).pack (some r.id)).returned b p true r.id).bay b =
        Safety.leftDoor p.bayState (s.bay b).pack (some r.id) (s.bay b) := State.setBay_bay_self _ _ _
    refine (if_pos ?_).trans (h.doorClear_back ns hres hn hr hexp)
    rw [State.told_bay, hbay]
    cases p
    · exact .inl rfl
    · exact .inr rfl

end

end Sys2Proof.Machine
end


section
/-! SUPPORT. The timers of the handover and the loss of a link, each as an event (R5, R142 to R145, R147). -/

namespace Sys2Proof.Machine

open Sys2Proof.Machine.Safety

/-! ### An event that tells notices -/

/-- An event whose body leads to a state and tells notices on it. -/
theorem event_told {s v : State} {ns : List Notice} {body : State → State} (hr : Running s) (hbody : body s.quiet = v.told ns)
    (hv : v.part = .run) :
    ∃ t, event body s = .next t ∧ t = { v with plan := t.plan, flags := t.flags, line := t.line, out := t.out } ∧
      Raised ns v t ∧ t.out = { v.out with orders := ordersOf none s v } ∧
      (v.plan = { s.plan with requested := true } → PassAsked s t) ∧ (v.plan = s.plan → t.plan = s.plan) := by
  obtain ⟨t, ht, heq, hraised, hout, hasked, hkept⟩ := State.finish_told (ns := ns) none hr.settled (v := v) fun _ => hv
  refine ⟨t, ?_, heq, hraised, hout, hasked, hkept⟩
  rw [event, State.take_live hr.released, hbody, ht]

/-! ### The end of the handover timer (R142 to R145) -/

theorem Prior.bayState_eq (p : Prior) : p.bayState = if p = .ready then .ready else .held := by cases p <;> rfl

theorem Prior.state_eq (p : Prior) (b : BayNo) : p.state b = if p = .ready then .ready b else .bound b := by cases p <;> rfl

/-- A fault pending at the door keeps the pack record (R14). -/
theorem keptPack_pending {x : Bay} (h : BayFields x) {k : FaultKind} (hk : x.pendingFault = some k) :
    BayState.keptPack (.fault k) x.pack = x.pack := by
  obtain ⟨-, rfl | rfl | rfl⟩ := h.1 k hk <;> rfl

/-- A bay that goes from OPEN to AJAR keeps its record (R1, R22). -/
theorem Bay.entering_ajar {cfg : Setup} {x : Bay} (hlock : x.locked = false ∧ x.lockPending = false) (hzero : x.setpoint = 0)
    (htimer : x.dataTimer = none) : x.entering cfg .ajar = { x with state := .ajar } := by
  obtain ⟨hlocked, hpending⟩ := hlock
  have hkept : lockEntering x.state .ajar x.door x.locked x.lockPending = (x.locked, x.lockPending) := by
    rw [hlocked, hpending]
    rfl
  have hnone : timerEntering x.state .ajar x.dataTimer = x.dataTimer := by
    rw [htimer]
    exact ite_self _
  unfold Bay.entering Bay.writeSetpoint
  simp only [hkept, hnone, hzero, ite_self]
  simp only [BayState.atDoor, BayState.dropsPack, BayState.reserved, if_true, Bool.false_eq_true, if_false]

/-- The part with a bay left AJAR, its door-ajar timer running (R145). -/
def State.leftAjar (b : BayNo) (h : Handover) (s : State) : State :=
  { s with
    bays := s.bays.set b
      { s.bay b with state := .ajar, handover := some { h with timer := s.cfg.handoverTime * 1000 } } b.isLt
    boost := { s.boost with eligible := s.boost.eligible.set b false b.isLt }
    plan := { s.plan with requested := true } }

theorem AtDoor.enterBay_ajar {s : State} {b : BayNo} {h : Handover} (hat : AtDoor b s) (hpending : (s.bay b).lockPending = false)
    (htimer : (s.bay b).dataTimer = none) :
    (s.setBay b { s.bay b with handover := some { h with timer := s.cfg.handoverTime * 1000 } }).enterBay b .ajar =
      s.leftAjar b h := by
  have hends : endsGrant b .ajar s.boost = false := by simp [endsGrant, hat.holder]
  have hrecord := Bay.entering_ajar (cfg := s.cfg)
    (x := { s.bay b with handover := some { h with timer := s.cfg.handoverTime * 1000 } }) ⟨hat.locked, hpending⟩ hat.setpoint
    htimer
  rw [State.enterBay_eq, State.setBay_bay_self, State.setBay_boost, State.setBay_cfg, hends, hrecord]
  simp [State.leftAjar, State.setBay, hat.boost]
  rfl

section
variable {s : State} {r : Reservation} {b : BayNo} {p : Prior} {h : Handover} (hat : AtDoor b s)
  (hres : (s.bay b).reservation = some r.id) (hid : r.id = h.reservation) (hn : (s.book.records.map (·.id)).Nodup)
  (hr : r ∈ s.book.records) (hexp : s.clock.seconds < r.expiry s.cfg) (hst : r.state = .handover b p)
  (hdoor : r.atDoor = true)
include hat hid hn hr hst hdoor

/-- A return with the bay left AJAR (R145). -/
theorem AtDoor.leaveAjar (hpending : (s.bay b).lockPending = false) (htimer : (s.bay b).dataTimer = none)
    (hfault : (s.bay b).pendingFault = none) :
    s.leaveAjar b h = ((s.leftAjar b h).returned b p true r.id).told [.doorAjar r.id b] := by
  have hprior : s.book.priorOf h.reservation = some p := hid ▸ State.priorOf_eq hn hr hst []
  have hback : s.returnRecord h.reservation = s.returned b p true r.id := hid ▸ State.told_returnRecord hn hr hst hdoor []
  have hbay : (s.returned b p true r.id).bay b = s.bay b := rfl
  have henter := (hat.returned b p true r.id).enterBay_ajar (h := h) hpending htimer
  unfold State.leaveAjar
  rw [hprior]
  dsimp only
  rw [hback, hbay]
  split
  · next k hk => exact absurd (hk.symm.trans hfault) (by simp)
  · rw [hid] at henter ⊢
    exact congrArg (State.raise (.doorAjar h.reservation b)) henter

include hres hexp

/-- A return behind an open door with a fault pending: the bay goes to FAULT (R145, R14). -/
theorem AtDoor.leaveAjar_fault {k : FaultKind} (hfault : (s.bay b).pendingFault = some k) :
    s.leaveAjar b h =
      ((s.leftDoor b (.fault k) (BayState.keptPack (.fault k) (s.bay b).pack) none).unbound (some r.id)).told
        (faultNotices b (.fault k) (BayState.keptPack (.fault k) (s.bay b).pack)) := by
  have hprior : s.book.priorOf h.reservation = some p := hid ▸ State.priorOf_eq hn hr hst []
  have hback : s.returnRecord h.reservation = s.returned b p true r.id := hid ▸ State.told_returnRecord hn hr hst hdoor []
  have hbay : (s.returned b p true r.id).bay b = s.bay b := rfl
  have hends := hat.endHandover_fault [] hres hn hr hexp (p := p) hfault
  unfold State.leaveAjar
  rw [hprior]
  dsimp only
  rw [hback, hbay, hfault]
  exact hends

end

/-- The case of R142 that applies, as the timer of an OPEN bay runs out. -/
theorem State.handoverTimerEnds_opened {s : State} {b : BayNo} {h : Handover} (hst : (s.bay b).state = .opened)
    (hh : (s.bay b).handover = some h) (h0 : h.timer = 0) : s.handoverTimerEnds b = s.handoverEnds b h := by
  unfold State.handoverTimerEnds Bay.handoverDue
  simp [hh, hst, h0]

theorem door_closed_or_opened (d : Door) : d = .closed ∨ d = .opened := by cases d <;> simp

/-! The rows of R142. -/

section
variable {s : State} {b : BayNo} {h : Handover}

theorem State.handoverEnds_present (hremoved : h.packRemoved = true) (hp : (s.bay b).lastPresent = some true) :
    s.handoverEnds b h = s.completeSwap b h 0 := by
  simp only [State.handoverEnds, hremoved, hp]

theorem State.handoverEnds_absent (hremoved : h.packRemoved = true) (hp : (s.bay b).lastPresent ≠ some true) :
    s.handoverEnds b h = s.noReturn b h := by
  unfold State.handoverEnds
  rw [hremoved]
  cases hl : (s.bay b).lastPresent with
  | none => rfl
  | some present =>
    cases present with
    | true => exact absurd hl hp
    | false => rfl

theorem State.handoverEnds_closed (hkept : h.packRemoved = false) (hp : (s.bay b).lastPresent = some true)
    (hdoor : (s.bay b).door = .closed) :
    s.handoverEnds b h = (s.returnHandover b h.reservation).raise (.handoverTimeout h.reservation b) := by
  simp only [State.handoverEnds, hkept, hp, hdoor]

theorem State.handoverEnds_opened (hkept : h.packRemoved = false) (hp : (s.bay b).lastPresent = some true)
    (hdoor : (s.bay b).door = .opened) : s.handoverEnds b h = s.leaveAjar b h := by
  simp only [State.handoverEnds, hkept, hp, hdoor]

end

/-! What each of them leads to. -/

section
variable {s : State} {r : Reservation} {b : BayNo} {p : Prior} {h : Handover} (hat : AtDoor b s)
  (hres : (s.bay b).reservation = some r.id) (hid : r.id = h.reservation) (hn : (s.book.records.map (·.id)).Nodup)
  (hr : r ∈ s.book.records) (hst : r.state = .handover b p)
include hat hres hid hn hr hst

/-- With the original pack removed, the swap completes or there is no return. -/
theorem AtDoor.handoverEnds_gone (hremoved : h.packRemoved = true) (hpack : (s.bay b).pack = none) :
    s.handoverEnds b h =
      let staged := (s.bay b).pendingFault = some .stageFault
      let swapped := (s.bay b).lastPresent = some true
      let out := h.outSerial.getD 0
      ((s.leftDoor b (if staged then .fault .stageFault else if swapped then .checking else .empty) none none).done r).told
        ((if staged then [.bayFault b .stageFault 0] else []) ++
          [if swapped then .swapDone out 0 else .noReturn r.id b out]) := by
  by_cases hpresent : (s.bay b).lastPresent = some true
  · simp only [if_pos hpresent]
    exact (State.handoverEnds_present hremoved hpresent).trans (hat.completeSwap [] hres hn hr hst hpack hid 0)
  · simp only [if_neg hpresent]
    exact (State.handoverEnds_absent hremoved hpresent).trans (hat.noReturn [] hres hn hr hst hpack hid)

variable (hexp : s.clock.seconds < r.expiry s.cfg) (hdoor : r.atDoor = true) (hkept : h.packRemoved = false)
  (hpresent : (s.bay b).lastPresent = some true)
include hexp hdoor hkept hpresent

/-- A return with a fault pending, whatever the door. -/
theorem AtDoor.handoverEnds_fault {k : FaultKind} (hfault : (s.bay b).pendingFault = some k) :
    s.handoverEnds b h =
      let pack := BayState.keptPack (.fault k) (s.bay b).pack
      ((s.leftDoor b (.fault k) pack none).unbound (some r.id)).told
        (faultNotices b (.fault k) pack ++ if (s.bay b).door = .closed then [.handoverTimeout r.id b] else []) := by
  dsimp only
  obtain hshut | hopen := door_closed_or_opened (s.bay b).door
  · have hreturn := hat.returnHandover [] hres hn hr hexp hst hdoor
    rw [hfault] at hreturn
    rw [State.handoverEnds_closed hkept hpresent hshut, ← hid, if_pos hshut]
    exact congrArg (State.raise _) hreturn
  · have hleave := hat.leaveAjar_fault hres hid hn hr hexp hst hdoor hfault
    rw [if_neg (by simp [hopen]), List.append_nil]
    exact (State.handoverEnds_opened hkept hpresent hopen).trans hleave

/-- A return behind a closed door. -/
theorem AtDoor.handoverEnds_back (hfault : (s.bay b).pendingFault = none) (hshut : (s.bay b).door = .closed) :
    s.handoverEnds b h =
      ((s.leftDoor b p.bayState (s.bay b).pack (some r.id)).returned b p false r.id).told [.handoverTimeout r.id b] := by
  have hreturn := hat.returnHandover [] hres hn hr hexp hst hdoor
  rw [hfault] at hreturn
  rw [State.handoverEnds_closed hkept hpresent hshut, ← hid]
  exact congrArg (State.raise _) hreturn

end

/-- Settles O34: the case of R142 that applies, by what it does to the bay, the record and the notices. -/
theorem handoverTimerEndsHandover : Obligations.HandoverTimerEndsHandover := by
  intro b h rec p s hr hboost hfields hset hlock hn hst hh h0 hgone hrec hid hrecst hdoor hdata hexp x staged back out pn
    returned eligibleAt
  have hatDoor : (s.bay b).state.atDoor = true := by rw [hst]; rfl
  have hat : AtDoor b s.quiet := atDoor_of_sound hboost hset hlock hatDoor
  have hres : (s.bay b).reservation = some rec.id := (hfields.2.2.2.2.2 h hh).trans (congrArg some hid.symm)
  have hends : s.quiet.handoverTimerEnds b = s.quiet.handoverEnds b h := State.handoverTimerEnds_opened hst hh h0
  have hreturned : ∀ door (u : State), u.book = s.book → (u.returned b p door rec.id).book = returned door := fun door u hu => by
    simp only [returned, State.returned, Reservation.back, hu, p.state_eq b]
  by_cases hremoved : h.packRemoved = true
  · have hbody := hends.trans (hat.handoverEnds_gone hres hid hn hrec hrecst hremoved (hgone hremoved))
    obtain ⟨t, ht, heq, hraised, -, hasked, -⟩ := event_told hr hbody hr.run
    refine ⟨t, ht, ?_, hasked rfl, fun _ => ⟨?_, ?_, ?_, ?_, hraised⟩, fun hno => absurd hremoved (by simp [hno])⟩
    all_goals rw [heq]; rfl
  have hkept : h.packRemoved = false := by simpa using hremoved
  have hpresent : (s.bay b).lastPresent = some true := hdata.resolve_left hremoved
  obtain hfault | ⟨k, hfault⟩ := Option.eq_none_or_eq_some (s.bay b).pendingFault
  · obtain hshut | hopen := door_closed_or_opened (s.bay b).door
    · have hbody := hends.trans (hat.handoverEnds_back hres hid hn hrec hrecst hexp hdoor hkept hpresent hfault hshut)
      rw [p.bayState_eq] at hbody
      obtain ⟨t, ht, heq, hraised, -, hasked, -⟩ := event_told hr hbody hr.run
      refine ⟨t, ht, ?_, hasked rfl, fun hno => absurd hno hremoved, fun _ => ⟨?_, fun k hk => ?_, fun _ _ => ?_, fun _ hno => ?_⟩⟩
      · rw [heq]; rfl
      · rw [heq]; rfl
      · exact absurd (hfault.symm.trans hk) (by simp)
      · refine ⟨?_, ?_, ?_, hraised⟩
        · rw [heq]; rfl
        · rw [heq]; exact hreturned false (s.quiet.leftDoor b back x.pack (some rec.id)) rfl
        · rw [heq]; rfl
      · exact absurd (hshut.symm.trans hno) (by simp)
    · have htimer : (s.bay b).dataTimer = none := by
        by_contra hsome
        obtain hchecking | haccepted := hfields.2.2.1 hsome
        · exact absurd (hst.symm.trans hchecking) (by simp)
        · rw [hst] at haccepted
          exact absurd haccepted (by simp [BayState.accepted])
      have hleave := hat.leaveAjar hid hn hrec hrecst hdoor (hlock.1 hatDoor).2
        htimer hfault
      have hbody := hends.trans ((State.handoverEnds_opened (s := s.quiet) hkept hpresent hopen).trans hleave)
      obtain ⟨t, ht, heq, hraised, -, hasked, -⟩ := event_told hr hbody hr.run
      refine ⟨t, ht, ?_, hasked rfl, fun hno => absurd hno hremoved, fun _ => ⟨?_, fun k hk => ?_, fun _ hno => ?_, fun _ _ => ?_⟩⟩
      · rw [heq]; rfl
      · rw [heq]; rfl
      · exact absurd (hfault.symm.trans hk) (by simp)
      · exact absurd (hopen.symm.trans hno) (by simp)
      · refine ⟨?_, ?_, ?_, hraised⟩
        · rw [heq]; rfl
        · rw [heq]; exact hreturned true (s.quiet.leftAjar b h) rfl
        · rw [heq]; rfl
  · have hbody := hends.trans (hat.handoverEnds_fault hres hid hn hrec hrecst hexp hdoor hkept hpresent hfault)
    dsimp only at hbody
    rw [show BayState.keptPack (.fault k) (s.quiet.bay b).pack = x.pack from keptPack_pending hfields hfault] at hbody
    obtain ⟨t, ht, heq, hraised, -, hasked, -⟩ := event_told hr hbody hr.run
    refine ⟨t, ht, ?_, hasked rfl, fun hno => absurd hno hremoved, fun _ => ⟨?_, fun j hj => ?_, fun hno => ?_, fun hno => ?_⟩⟩
    · rw [heq]; rfl
    · rw [heq]; rfl
    · obtain rfl : k = j := Option.some.inj (hfault.symm.trans hj)
      refine ⟨?_, ?_, ?_, hraised⟩
      all_goals rw [heq]; rfl
    · exact absurd (hfault.symm.trans hno) (by simp)
    · exact absurd (hfault.symm.trans hno) (by simp)

/-- Settles O35: the context alone changes, and no plan pass is requested. -/
theorem doorAjarTimerRepeatsNotice : Obligations.DoorAjarTimerRepeatsNotice := by
  intro b h s hr hst hh h0
  have hbody : s.quiet.ajarTimerEnds b =
      (s.quiet.setBay b { s.bay b with handover := some { h with timer := s.cfg.handoverTime * 1000 } }).told
        [.doorAjar h.reservation b] := by
    unfold State.ajarTimerEnds Bay.ajarDue
    simp [hh, hst, h0]
    rfl
  obtain ⟨t, ht, heq, hraised, hout, -, hkept⟩ := event_told hr hbody hr.run
  refine ⟨t, ht, ?_, hraised⟩
  have horders : ordersOf none s (s.quiet.setBay b
      { s.bay b with handover := some { h with timer := s.cfg.handoverTime * 1000 } }) = [] :=
    ordersOf_none_eq_nil (commandChanged_set (b := b) rfl rfl rfl rfl)
  rw [heq, hkept rfl, hout, horders]
  rfl

end Sys2Proof.Machine
end


section
/-! SUPPORT. The loss of a bay's link, at the door and away from it, its data timer, and SERVICE OFF (R5, R17, R18, R147). -/

namespace Sys2Proof.Machine

open Sys2Proof.Machine.Safety

/-! ### A link lost in OPEN (R147) -/

/-- The part with an OPEN bay gone OFF by the loss of its link. -/
def State.linkGone (b : BayNo) (s : State) : State :=
  { s with
    bays := s.bays.set b { Safety.leftDoor (.off .link) none none (s.bay b) with locked := true, lockPending := false } b.isLt
    plan := { s.plan with requested := true } }

/-- The bay goes OFF from wherever its handover's end has left it. -/
theorem AtDoor.placed_off {s : State} {b : BayNo} (h : AtDoor b s) (helig : s.boost.eligible[b] = false) (mid : BayState)
    (pack : Option Pack) (res : Option Nat) : (s.leftDoor b mid pack res).placed b (.off .link) none = s.linkGone b := by
  have hmoved : movedTo (.off .link) none (Safety.leftDoor mid pack res (s.bay b)) =
      { Safety.leftDoor (.off .link) none none (s.bay b) with locked := true, lockPending := false } := by
    simp [movedTo, Safety.leftDoor, BayState.outOfUse, h.setpoint, h.boost]
  have hholder : (s.leftDoor b mid pack res).boost.converter.holder ≠ some b := h.holder
  have hsame : ({ s.boost with eligible := s.boost.eligible.set b false b.isLt } : Arbiter) = s.boost := by
    have : s.boost.eligible.set b false b.isLt = s.boost.eligible := by
      rw [← helig]
      exact Vector.set_getElem_self _
    rw [this]
  rw [State.placed, State.leftDoor_bay_self, hmoved, arbiterLeft_other _ hholder]
  have hcleared : ({ (s.leftDoor b mid pack res).boost with
      eligible := (s.leftDoor b mid pack res).boost.eligible.set b (BayState.off .link).eligible b.isLt } : Arbiter) = s.boost := by
    refine Eq.trans ?_ hsame
    simp [State.leftDoor, BayState.eligible]
  rw [hcleared]
  simp [State.leftDoor, State.linkGone]

/-- The bay that a handover's end has left at a state of its own goes OFF, and the record it names, if any, is unbound. -/
theorem AtDoor.leaveBay_off {s u : State} {b : BayNo} (h : AtDoor b s) {mid : BayState} {pack : Option Pack}
    {res : Option Nat} (ns : List Notice) (hbay : u.bay b = Safety.leftDoor mid pack res (s.bay b))
    (hboost : u.boost.converter = s.boost.converter) (hn : (u.book.records.map (·.id)).Nodup) (hs : Unbindable b u) :
    (u.told ns).leaveBay b (.off .link) = ((u.placed b (.off .link) none).unbound res).told ns := by
  have hno : (u.bay b).boost = decide (u.boost.converter.holder = some b) := by
    rw [hbay, hboost, decide_eq_false h.holder]
    exact h.boost
  rw [State.told_leaveBay ns (.inr rfl) ⟨rfl, by simp⟩ hno hn hs, State.departed, hbay]
  rfl

section
variable {s : State} {r : Reservation} {b : BayNo} {p : Prior} {h : Handover} (hat : AtDoor b s)
  (helig : s.boost.eligible[b] = false)
  (hh : (s.bay b).handover = some h) (hres : (s.bay b).reservation = some r.id) (hid : r.id = h.reservation)
  (hn : (s.book.records.map (·.id)).Nodup) (hr : r ∈ s.book.records) (hst : r.state = .handover b p)
include hat helig hh hres hid hn hr hst

/-- With the original pack removed, the handover ends with no return. -/
theorem AtDoor.loseLink_gone (hremoved : h.packRemoved = true) (hpack : (s.bay b).pack = none) :
    (s.linkLostOpen b).leaveBay b (.off .link) =
      ((s.linkGone b).done r).told
        ((if (s.bay b).pendingFault = some .stageFault then [.bayFault b .stageFault 0] else []) ++
          [.noReturn r.id b (h.outSerial.getD 0)]) := by
  have hends : s.linkLostOpen b = s.noReturn b h := by
    unfold State.linkLostOpen
    rw [hh]
    exact if_pos hremoved
  generalize hmid : (if (s.bay b).pendingFault = some .stageFault then BayState.fault .stageFault else .empty) = mid
  have hnoReturn : s.noReturn b h = ((s.leftDoor b mid none none).done r).told _ :=
    hmid ▸ hat.noReturn [] hres hn hr hst hpack hid
  have hbay : ((s.leftDoor b mid none none).done r).bay b = Safety.leftDoor mid none none (s.bay b) := State.setBay_bay_self _ _ _
  have hrecords : ((s.leftDoor b mid none none).done r).book.records.Sublist s.book.records := List.filter_sublist
  rw [hends, hnoReturn, hat.leaveBay_off _ hbay rfl (hn.sublist (hrecords.map _)) fun id hid => by
    rw [hbay] at hid
    exact absurd hid (by simp [Safety.leftDoor]), State.unbound_none]
  exact congrArg (fun u : State => (u.done r).told _) (hat.placed_off helig mid none none)

variable (hexp : s.clock.seconds < r.expiry s.cfg) (hdoor : r.atDoor = true) (hkept : h.packRemoved = false)
include hexp hdoor hkept

/-- With the original pack in the bay, the record returns and is then unbound. -/
theorem AtDoor.loseLink_returns :
    (s.linkLostOpen b).leaveBay b (.off .link) =
      ((s.linkGone b).unbound (some r.id)).told
        (match (s.bay b).pendingFault with
        | some k => faultNotices b (.fault k) (BayState.keptPack (.fault k) (s.bay b).pack)
        | none => []) := by
  have hends : s.linkLostOpen b = s.returnHandover b r.id := by
    unfold State.linkLostOpen
    rw [hh, hid]
    exact if_neg (by simp [hkept])
  have hreturn := hat.returnHandover [] hres hn hr hexp hst hdoor
  rw [hends]
  cases hfault : (s.bay b).pendingFault with
  | some k =>
    rw [hfault] at hreturn
    dsimp only at hreturn ⊢
    generalize BayState.keptPack (.fault k) (s.bay b).pack = pack at hreturn ⊢
    have hbay : ((s.leftDoor b (.fault k) pack none).unbound (some r.id)).bay b = Safety.leftDoor (.fault k) pack none (s.bay b) :=
      State.setBay_bay_self _ _ _
    have hids : (((s.leftDoor b (.fault k) pack none).unbound (some r.id)).book.records.map (·.id)).Nodup := by
      rw [State.unbound, unboundIn_ids]
      exact hn
    have hgoes := hat.leaveBay_off (faultNotices b (.fault k) pack) hbay rfl hids fun id hid => by
      rw [hbay] at hid
      exact absurd hid (by simp [Safety.leftDoor])
    refine (congrArg (State.leaveBay b (.off .link)) hreturn).trans (hgoes.trans ?_)
    rw [State.unbound_none]
    exact congrArg (fun u : State => (u.unbound (some r.id)).told _) (hat.placed_off helig (.fault k) pack none)
  | none =>
    rw [hfault] at hreturn
    have hbay : ((s.leftDoor b p.bayState (s.bay b).pack (some r.id)).returned b p false r.id).bay b =
        Safety.leftDoor p.bayState (s.bay b).pack (some r.id) (s.bay b) := State.setBay_bay_self _ _ _
    have hunbinds : Unbindable b ((s.leftDoor b p.bayState (s.bay b).pack (some r.id)).returned b p false r.id) := fun id hid => by
      obtain rfl : r.id = id := by
        rw [hbay] at hid
        exact Option.some.inj hid
      refine ⟨r.back b p false, State.returned_mem (s := s) hn hr false, rfl, ?_, fun hd => absurd hd Bool.false_ne_true⟩
      cases p
      · exact .inl rfl
      · exact .inr rfl
    have hgoes := hat.leaveBay_off [] hbay rfl (State.returned_ids (s := s) hn false r.id) hunbinds
    refine (congrArg (State.leaveBay b (.off .link)) hreturn).trans (hgoes.trans (congrArg (State.told []) ?_))
    calc
      _ = (((s.leftDoor b p.bayState (s.bay b).pack (some r.id)).placed b (.off .link) none).returned b p false r.id).unbound
            (some r.id) := rfl
      _ = ((s.linkGone b).returned b p false r.id).unbound (some r.id) := by rw [hat.placed_off helig]
      _ = (s.linkGone b).unbound (some r.id) := State.returned_unbound b p false r.id (s.linkGone b)

end

theorem State.loseLink_due {s : State} {b : BayNo} (hage : 3000 ≤ (s.bay b).reportAge) (hon : ∀ c, (s.bay b).state ≠ .off c) :
    s.loseLink b =
      ((if (s.bay b).state = .opened then s.linkLostOpen b else s).leaveBay b (.off .link)).raise (.linkLost b) := by
  have hdue : (s.bay b).linkDue = true := by
    unfold Bay.linkDue linkLossMillis
    cases hst : (s.bay b).state <;> simp_all
  unfold State.loseLink
  exact if_pos hdue

/-- Settles O38: the handover ends as R147 says, and the bay goes OFF from where that leaves it. -/
theorem linkLossEndsHandover : Obligations.LinkLossEndsHandover := by
  intro b h rec p s hr hboost hfields hset hlock hn hage hst hh hgone hrec hid hrecst hdoor hexp x pn faults
  have hatDoor : (s.bay b).state.atDoor = true := by rw [hst]; rfl
  have hat : AtDoor b s.quiet := atDoor_of_sound hboost hset hlock hatDoor
  have helig : s.boost.eligible[b] = false := (boost_of_not_eligible hboost (by rw [hst]; rfl)).2.2
  have hres : (s.bay b).reservation = some rec.id := (hfields.2.2.2.2.2 h hh).trans (congrArg some hid.symm)
  have hloses : s.quiet.loseLink b = ((s.quiet.linkLostOpen b).leaveBay b (.off .link)).raise (.linkLost b) := by
    refine (State.loseLink_due (s := s.quiet) hage fun c hc => ?_).trans (by rw [if_pos (show (s.quiet.bay b).state = .opened from hst)])
    exact absurd (hst.symm.trans hc) (by simp)
  by_cases hremoved : h.packRemoved = true
  · have hgoes := hat.loseLink_gone helig hh hres hid hn hrec hrecst hremoved (hgone hremoved)
    have hfaults : faults = if (s.bay b).pendingFault = some .stageFault then [.bayFault b .stageFault 0] else [] := by
      have hpn : pn = 0 := by simp [pn, x, hgone hremoved]
      simp only [faults, x, hpn, hremoved]
      cases (s.bay b).pendingFault with
      | none => rfl
      | some k => cases k <;> simp
    have hbody := hloses.trans ((congrArg (State.raise (.linkLost b)) hgoes).trans (State.told_raise _ _ _))
    obtain ⟨t, ht, heq, hraised, -, hasked, -⟩ := event_told hr hbody hr.run
    refine ⟨t, ht, ?_, hasked rfl, fun _ => ⟨?_, ?_, ?_⟩, fun hno => absurd hremoved (by simp [hno])⟩
    · rw [heq]; rfl
    · rw [heq]; rfl
    · rw [heq]; rfl
    · rw [hfaults]
      rw [List.append_assoc] at hraised
      exact hraised
  · have hkept : h.packRemoved = false := by simpa using hremoved
    have hgoes := hat.loseLink_returns helig hh hres hid hn hrec hrecst hexp hdoor hkept
    have hbody := hloses.trans ((congrArg (State.raise (.linkLost b)) hgoes).trans (State.told_raise _ _ _))
    obtain ⟨t, ht, heq, hraised, -, hasked, -⟩ := event_told hr hbody hr.run
    refine ⟨t, ht, ?_, hasked rfl, fun hno => absurd hno hremoved, fun _ => ⟨?_, ?_, ?_⟩⟩
    · rw [heq]; rfl
    · rw [heq]; rfl
    · rw [heq]; rfl
    · have hfaults : faults = match (s.bay b).pendingFault with
          | some k => faultNotices b (.fault k) (BayState.keptPack (.fault k) (s.bay b).pack)
          | none => [] := by
        simp only [faults, x, hkept, true_or, if_true]
        obtain hfault | ⟨k, hfault⟩ := Option.eq_none_or_eq_some (s.bay b).pendingFault
        · rw [hfault]
        · rw [hfault]
          dsimp only
          rw [keptPack_pending hfields hfault]
          rfl
      rw [hfaults]
      exact hraised

/-! ### A bay that is not OPEN goes out of use (R5, R9, R10, R18) -/

/-- The record a bay names can be unbound by R17, its instant not reached at the door. -/
theorem unbindable_of_agree {s : State} {b : BayNo} (hagree : BindingsAgree s) (hopen : (s.bay b).state ≠ .opened)
    (hexp : ∀ r ∈ s.book.records, r.atDoor = true → s.clock.seconds < r.expiry s.cfg) : Unbindable b s := by
  obtain ⟨hrecords, hnamed⟩ := hagree
  intro id hid
  obtain ⟨r, hr, hrid, hbay⟩ := hnamed b id hid
  refine ⟨r, hr, hrid, ?_, hexp r hr⟩
  have hstands := hrecords r hr
  unfold RecordAgrees at hstands
  unfold Reservation.bay at hbay
  split at hbay
  · exact absurd hbay (by simp)
  · next d hd => exact .inl (by rw [hd, Option.some.inj hbay])
  · next d hd => exact .inr (by rw [hd, Option.some.inj hbay])
  · next d p hd =>
    rw [hd] at hstands
    exact absurd (Option.some.inj hbay ▸ hstands.2.1) hopen

theorem State.serviceOff_inUse {s : State} {b : BayNo} (hopen : (s.bay b).state ≠ .opened) (hajar : (s.bay b).state ≠ .ajar)
    (hoff : ∀ c, (s.bay b).state ≠ .off c) : s.serviceOff b.val = s.leaveBay b (.off .service) := by
  unfold State.serviceOff
  rw [bayNo?_val]
  cases hst : (s.bay b).state <;> simp_all

theorem State.dataTimerEnds_due {s : State} {b : BayNo} (h : (s.bay b).dataTimer = some 0)
    (hst : (s.bay b).state = .checking ∨ (s.bay b).state.accepted = true) : s.dataTimerEnds b = s.faultBay b .noPackData := by
  have hdue : (s.bay b).dataDue = true := by
    unfold Bay.dataDue
    obtain hst | hst := hst <;> simp [h, hst]
  exact if_pos hdue

/-- Settles O37: each of the three ways is a departure of the bay without its pack. -/
theorem bayTakenOutOfUse : Obligations.BayTakenOutOfUse := by
  intro b src n rest s hr hboost hagree hn hfields hset hopen hoff hexp
  have hunbind := unbindable_of_agree hagree hopen hexp
  refine ⟨fun hage => ?linkLost, fun htimer => ?noData, fun hq hnum hctx hajar => ?service⟩
  case linkLost =>
    have hleave := State.told_leaveBay (s := s.quiet) (b := b) (new := .off .link) [] (.inr rfl) ⟨rfl, by simp⟩ (hboost.1 b) hn
      hunbind
    have hbody : s.quiet.loseLink b = (s.quiet.departed b (.off .link) none).told [.linkLost b] :=
      (State.loseLink_due (s := s.quiet) hage hoff).trans (by
        rw [if_neg (show ¬(s.quiet.bay b).state = .opened from hopen)]
        exact congrArg (State.raise (.linkLost b)) hleave)
    obtain ⟨t, ht, heq, hraised, -, hasked, -⟩ := event_told hr hbody hr.run
    exact ⟨t, ht, by rw [heq]; rfl, hasked rfl, hraised⟩
  case noData =>
    have hst := hfields.2.2.1 (by rw [htimer]; simp)
    have haway : (s.bay b).state.atDoor = false := by
      obtain hst | hst := hst
      · rw [hst]
        rfl
      · cases hs : (s.bay b).state <;> simp_all [BayState.atDoor, BayState.accepted]
    have hbody : s.quiet.dataTimerEnds b =
        (s.quiet.departed b (.fault .noPackData) none).told [.bayFault b .noPackData 0] :=
      (State.dataTimerEnds_due (s := s.quiet) htimer hst).trans
        (State.told_faultBay (s := s.quiet) [] haway (hboost.1 b) hn hunbind)
    obtain ⟨t, ht, heq, hraised, -, hasked, -⟩ := event_told hr hbody hr.run
    exact ⟨t, ht, by rw [heq]; rfl, hasked rfl, hraised⟩
  case service =>
    subst hnum
    have hbody : (popAsk s).quiet.serviceOff b.val = ((popAsk s).quiet.departed b (.off .service) none).told [] :=
      (State.serviceOff_inUse (s := (popAsk s).quiet) hopen hajar hoff).trans
        (State.told_leaveBay (s := (popAsk s).quiet) [] (.inr rfl) ⟨rfl, by simp⟩ (hboost.1 b) hn hunbind)
    obtain ⟨t, ht, heq, hraised, -, hasked, -⟩ := State.finish_told (s := s) (v := (popAsk s).quiet.departed b (.off .service) none)
      (ns := []) none hr.settled fun _ => hr.run
    obtain ⟨hflags, hline⟩ := hraised
    refine ⟨t, by rw [exec_serviceOff hr hq hctx, hbody, ht], ?_, hasked rfl⟩
    rw [heq, hflags, hline]
    rfl

end Sys2Proof.Machine
end


section
/-! SUPPORT. A notice and the oldest frame of the Ask queue, and the frames that cancel a context first (R152, R166, R168). -/

namespace Sys2Proof.Machine

open Sys2Proof.Machine.Safety

/-! ### A frame taken and a frame posted -/

/-- Posting neither reads nor writes the Ask queue. -/
theorem LineController.post_askQueue (l : LineController) (f : OutFrame) (q : List AskFrame) :
    ({ l with askQueue := q }).post f = { l.post f with askQueue := q } := by
  unfold LineController.post LineController.postNoticeFull LineController.postOtherFull
  dsimp only
  split_ifs
  all_goals try rfl
  cases l.outQueue.find? OutEntry.idleNotice <;> rfl

@[simp] theorem LineController.post_ask (l : LineController) (f : OutFrame) : (l.post f).askQueue = l.askQueue := by
  rw [LineController.post_eq]

/-- A notice neither reads nor writes the Ask queue. -/
theorem popAsk_raise (n : Notice) (s : State) : popAsk (s.raise n) = (popAsk s).raise n := by
  by_cases h : s.cfg.disableMask.getLsbD (groupOfCode n.code) = true
  · simp [popAsk, State.raise, State.silenced, h]
  · cases hp : s.part <;> simp [popAsk, State.raise, State.silenced, State.post, h, hp, LineController.post_askQueue]

theorem quiet_raise (n : Notice) (s : State) : (s.raise n).quiet = s.quiet.raise n := by
  refine Eq.trans ?_ (State.raise_aside n s s.bays s.book s.asks s.plan s.boost s.feed s.ts .quiet).symm
  apply State.eq_of_fields <;> simp

/-! ### The context that an addressed frame finds open (R152) -/

/-- The event of a command that takes an addressed frame is the same where the context is cancelled before it. -/
theorem event_fromAsk_cancels {s : State} {src : Station} {x : AskBody} {rest : List AskFrame} {o : Context}
    {body : State → State} {f : AskFrame → Option (State → State)} (hr : Running s) (hq : s.line.askQueue = ⟨src, x⟩ :: rest)
    (ho : s.ts.contexts[src] = some o) (hf : f ⟨src, x⟩ = some (addressed src body)) :
    event (State.fromAsk f) (({ s with ts := { s.ts with contexts := s.ts.contexts.set src none src.isLt } }).raise
      (.templateCancelled src o.template .otherFrame)) = event (State.fromAsk f) s := by
  let cancelled : Notice := .templateCancelled src o.template .otherFrame
  let closed : State := { s with ts := { s.ts with contexts := s.ts.contexts.set src none src.isLt } }
  have hpop : ({ s.quiet with line.askQueue := rest } : State) = (popAsk s).quiet := by simp [popAsk, State.quiet, hq]
  have hcancel : (popAsk s).quiet.cancelContext src .otherFrame = (popAsk (closed.raise cancelled)).quiet := by
    rw [popAsk_raise, quiet_raise, State.cancelContext, show (popAsk s).quiet.ts.contexts[src] = some o from ho]
    rfl
  have hopen : event (State.fromAsk f) s = .next (State.finish none s (body ((popAsk s).quiet.cancelContext src .otherFrame))) := by
    rw [event, State.take_live hr.released, State.fromAsk_cons (s := s.quiet) hq hf, hpop, addressed,
      inRun_run (s := (popAsk s).quiet) _ hr.run]
  have hrun : Running (closed.raise cancelled) :=
    ⟨(State.raise_part ..).trans hr.run, by rw [State.raise_pins]; exact hr.released, by rw [State.raise_plan]; exact hr.settled⟩
  have hqueue : (closed.raise cancelled).line.askQueue = ⟨src, x⟩ :: rest := by
    rw [State.raise_line_eq]
    exact hq
  have hnone : (closed.raise cancelled).ts.contexts[src] = none := by
    rw [State.raise_ts]
    exact Vector.getElem_set_self _
  rw [event_fromAsk_addressed hrun hqueue hnone hf, hopen, hcancel]
  generalize body (popAsk (closed.raise cancelled)).quiet = u
  have horders : ∀ v, ordersOf none (closed.raise cancelled) v = ordersOf none s v := fun v => by
    have hbay : ∀ d, (closed.raise cancelled).bay d = s.bay d := fun d => by
      simp only [State.bay, State.raise_bays]
      rfl
    simp only [ordersOf, commandChanged, hbay]
  simp only [State.finish, horders]

/-- A command and the addressed frame that it takes (R152). -/
def Cancels (c : Instr) (src : Station) (x : AskBody) : Prop :=
  ∃ (body : State → State) (f : AskFrame → Option (State → State)), f ⟨src, x⟩ = some (addressed src body) ∧
    ∀ s, exec c s = event (State.fromAsk f) s

/-- Settles O40: each command takes its frame as an addressed one. -/
theorem addressedFrameCancelsContext : Obligations.AddressedFrameCancelsContext := by
  intro c src x o rest s hr hq ho hframe
  have hcancels : Cancels c src x := by
    unfold Cancels
    split at hframe
    case h_1 => subst hframe; exact ⟨State.serviceOff _, _, rfl, fun _ => rfl⟩
    case h_2 => subst hframe; exact ⟨State.serviceOn _, _, rfl, fun _ => rfl⟩
    case h_3 => exact ⟨State.refuseService _ _, _, if_pos hframe, fun _ => rfl⟩
    case h_4 => exact ⟨State.releaseRecord src _, _, rfl, fun _ => rfl⟩
    case h_5 => exact ⟨State.openTemplate src _, _, rfl, fun _ => rfl⟩
    case h_6 => exact ⟨State.dropTemplates src .one _, takeDrop .one, if_pos hframe, fun _ => rfl⟩
    case h_7 => exact ⟨State.dropTemplates src .allTemporary _, takeDrop .allTemporary, if_pos hframe, fun _ => rfl⟩
    case h_8 => exact ⟨State.dropTemplates src .all _, takeDrop .all, if_pos hframe, fun _ => rfl⟩
    case h_9 => exact ⟨State.dropTemplates src .makeTemporary _, takeDrop .makeTemporary, if_pos hframe, fun _ => rfl⟩
    case h_10 => exact ⟨State.dropTemplates src .makeKept _, takeDrop .makeKept, if_pos hframe, fun _ => rfl⟩
    case h_11 => exact ⟨State.raise (.templateRefused src .badMode), _, if_pos hframe, fun _ => rfl⟩
    case h_12 => exact ⟨State.answerStatus src _, _, rfl, fun _ => rfl⟩
    case h_13 => exact ⟨State.clearFlags _, _, rfl, fun _ => rfl⟩
    case h_14 => exact absurd hframe id
  obtain ⟨body, f, hf, hexec⟩ := hcancels
  refine ⟨_, hexec s, ?_⟩
  rw [hexec, event_fromAsk_cancels hr hq ho hf]
  rfl

end Sys2Proof.Machine
end


section
/-! SUPPORT. A new SWAP ASK: the part's own decision on it, and the slot that it opens (R62 to R68). -/

namespace Sys2Proof.Machine

open Sys2Proof.Machine.Safety

/-! ### The part's own decision (R65 to R67) -/

theorem classNo?_val (c : PackClass) : classNo? c.val = some c := by simp [classNo?]

theorem classNo?_none {n : Nat} (h : 3 < n) : classNo? n = none := by simp [classNo?]; omega

theorem Book.byToken_isSome {k : Book} {token : Nat} : (k.byToken token).isSome = true ↔ ∃ r ∈ k.records, r.token = token := by
  rw [Option.isSome_iff_ne_none, Ne, Book.byToken_none]
  simp

theorem accepts_iff {s : State} {n : Nat} :
    (allBays.any fun b => (s.bay b).mask.getLsbD n) = true ↔ ∃ b : BayNo, (s.bay b).mask.getLsbD n = true := by
  rw [List.any_eq_true]
  exact ⟨fun ⟨b, _, hb⟩ => ⟨b, hb⟩, fun ⟨b, hb⟩ => ⟨b, List.mem_finRange b, hb⟩⟩

theorem Bay.offers_iff {s : State} {c : PackClass} {b : BayNo} : (s.bay b).offers c = true ↔ AskCandidate s c b := by
  unfold Bay.offers AskCandidate
  cases hp : (s.bay b).pack <;> simp

/-- The smallest estimate is one of a candidate, and none where there is none (R67). -/
theorem State.bestOffset_some {s : State} {c : PackClass} {target off : Nat} (h : s.bestOffset c target = some off) :
    ∃ b, AskCandidate s c b ∧ normalEstimate s.cfg target (s.bay b) = off ∧
      ∀ a, AskCandidate s c a → off ≤ normalEstimate s.cfg target (s.bay a) := by
  obtain ⟨hmem, hmin⟩ := List.min?_eq_some_iff.1 h
  obtain ⟨b, hb, hoff⟩ := List.mem_map.1 hmem
  exact ⟨b, Bay.offers_iff.1 (mem_baysWhere.1 hb), hoff, fun a ha =>
    hmin _ (List.mem_map.2 ⟨a, mem_baysWhere.2 (Bay.offers_iff.2 ha), rfl⟩)⟩

theorem State.bestOffset_none {s : State} {c : PackClass} {target : Nat} (h : s.bestOffset c target = none) (b : BayNo) :
    ¬ AskCandidate s c b := fun hb => by
  have hempty := List.map_eq_nil_iff.1 (List.min?_eq_none_iff.1 h)
  exact absurd (mem_baysWhere.2 (Bay.offers_iff.2 hb)) (by rw [hempty]; simp)

theorem roomFor_iff {s : State} {c : PackClass} :
    RoomFor s c ↔ ¬ s.book.records.length ≥ bookSize ∧ ¬ s.book.commit[c] ≥ s.cfg.commitLimit[c] := by
  simp [RoomFor, bookSize]

/-- R66 and R67 for an ask of a class that the part takes, its token held by no record. -/
def OfferOfClass (s : State) (c : PackClass) (a : Ask) (d : Offer ⊕ NoneReason) : Prop :=
  (¬ RoomFor s c → d = .inr .full) ∧
  (RoomFor s c → (∀ b, AskCandidate s c b → a.arrivalEstimate + a.window < normalEstimate s.cfg a.target (s.bay b)) →
    d = .inr .noPack) ∧
  (RoomFor s c → ∀ b, AskCandidate s c b → normalEstimate s.cfg a.target (s.bay b) ≤ a.arrivalEstimate + a.window →
    (∀ e, AskCandidate s c e → normalEstimate s.cfg a.target (s.bay b) ≤ normalEstimate s.cfg a.target (s.bay e)) →
    d = .inl ⟨normalEstimate s.cfg a.target (s.bay b), false⟩)

/-- What the model decides there. -/
def State.offerOfClass (c : PackClass) (a : Ask) (s : State) : Offer ⊕ NoneReason :=
  if s.book.records.length ≥ bookSize then .inr .full
  else if s.book.commit[c] ≥ s.cfg.commitLimit[c] then .inr .full
  else match s.bestOffset c a.target with
    | none => .inr .noPack
    | some off => if off > a.arrivalEstimate + a.window then .inr .noPack else .inl ⟨off, false⟩

theorem offerOfClass_iff {s : State} {c : PackClass} {a : Ask} {d : Offer ⊕ NoneReason} :
    OfferOfClass s c a d ↔ d = s.offerOfClass c a := by
  unfold OfferOfClass
  by_cases hroom : RoomFor s c
  case neg =>
    have hfull : s.offerOfClass c a = .inr .full := by
      unfold State.offerOfClass
      rw [roomFor_iff] at hroom
      split_ifs
      · rfl
      · rfl
      · next hb hc => exact absurd ⟨hb, hc⟩ hroom
    rw [hfull]
    exact ⟨fun ⟨h, _, _⟩ => h hroom, fun hd => ⟨fun _ => hd, fun h => absurd h hroom, fun h => absurd h hroom⟩⟩
  obtain ⟨hbook, hlimit⟩ := roomFor_iff.1 hroom
  unfold State.offerOfClass
  rw [if_neg hbook, if_neg hlimit]
  cases hbest : s.bestOffset c a.target with
  | none =>
    have hno := State.bestOffset_none hbest
    exact ⟨fun ⟨_, h, _⟩ => h hroom fun b hb => absurd hb (hno b), fun hd =>
      ⟨fun h => absurd hroom h, fun _ _ => hd, fun _ b hb => absurd hb (hno b)⟩⟩
  | some off =>
    obtain ⟨b, hb, rfl, hmin⟩ := State.bestOffset_some hbest
    dsimp only
    by_cases hlate : normalEstimate s.cfg a.target (s.bay b) > a.arrivalEstimate + a.window
    · rw [if_pos hlate]
      exact ⟨fun ⟨_, h, _⟩ => h hroom fun e he => Nat.lt_of_lt_of_le hlate (hmin e he), fun hd =>
        ⟨fun h => absurd hroom h, fun _ _ => hd, fun _ e he hle _ => absurd (Nat.le_trans (hmin e he) hle) (Nat.not_le.2 hlate)⟩⟩
    · rw [if_neg hlate]
      refine ⟨fun ⟨_, _, h⟩ => h hroom b hb (Nat.le_of_not_lt hlate) hmin, fun hd =>
        ⟨fun h => absurd hroom h, fun _ h => absurd (h b hb) hlate, fun _ e he _ hleast => ?_⟩⟩
      rw [hd, Nat.le_antisymm (hmin e he) (hleast b hb)]

/-- What the rules make the part decide is what it decides. -/
theorem ownOffer_iff {s : State} {a : Ask} {d : Offer ⊕ NoneReason} :
    OwnOffer s a.token a.cls a.target (a.arrivalEstimate + a.window) d ↔ d = s.ownOffer a := by
  unfold OwnOffer State.ownOffer
  dsimp only
  by_cases hheld : ∃ r ∈ s.book.records, r.token = a.token
  · rw [if_pos (Book.byToken_isSome.2 hheld)]
    simp [hheld]
  rw [if_neg (Book.byToken_isSome.not.2 hheld)]
  by_cases hzero : a.token = 0
  · rw [if_pos hzero]
    exact ⟨fun ⟨_, hnone, _⟩ => hnone hheld (.inl hzero), fun hd =>
      ⟨fun h => absurd h hheld, fun _ _ => hd, fun _ h => absurd hzero h⟩⟩
  rw [if_neg hzero]
  by_cases hcls : 3 < a.cls
  · have hrejected : ¬ ∃ b : BayNo, (s.bay b).mask.getLsbD a.cls = true := fun ⟨b, hb⟩ => by
      rw [BitVec.getLsbD_of_ge _ _ hcls] at hb
      exact absurd hb (by simp)
    rw [classNo?_none hcls]
    exact ⟨fun ⟨_, hnone, _⟩ => hnone hheld (.inr hrejected), fun hd =>
      ⟨fun h => absurd h hheld, fun _ _ => hd, fun _ _ h => absurd h hrejected⟩⟩
  obtain ⟨c, hc⟩ : ∃ c : PackClass, c.val = a.cls := ⟨⟨a.cls, by omega⟩, rfl⟩
  rw [← hc, classNo?_val]
  dsimp only
  by_cases haccepted : ∃ b : BayNo, (s.bay b).mask.getLsbD c.val = true
  case neg =>
    rw [if_pos (by rw [Bool.not_eq_true', Bool.eq_false_iff]; exact accepts_iff.not.2 haccepted)]
    exact ⟨fun ⟨_, hnone, _⟩ => hnone hheld (.inr haccepted), fun hd =>
      ⟨fun h => absurd h hheld, fun _ _ => hd, fun _ _ h => absurd h haccepted⟩⟩
  rw [if_neg (by rw [Bool.not_eq_true', Bool.not_eq_false]; exact accepts_iff.2 haccepted)]
  refine Iff.trans ?_ offerOfClass_iff
  refine ⟨fun ⟨_, _, h⟩ => h hheld hzero haccepted c rfl, fun h =>
    ⟨fun hno => absurd hno hheld, fun _ hno => ?_, fun _ _ _ e he => ?_⟩⟩
  · exact absurd haccepted (hno.resolve_left hzero)
  · obtain rfl : c = e := Fin.ext he.symm
    exact h

/-! ### The slot (R63, R64) -/

theorem State.slotOf_eq_none {s : State} {terminal : Station} {ask : Nat}
    (h : ∀ (i : SlotNo) (x : Slot), s.asks.slots[i] = some x → ¬ (x.terminal = terminal ∧ x.ask = ask)) :
    s.slotOf terminal ask = none := by
  cases hfound : s.slotOf terminal ask with
  | none => rfl
  | some p =>
    obtain ⟨hi, hfor⟩ := State.slotOf_some hfound
    exact absurd hfor (h _ _ hi)

/-- The lowest free slot is the one found. -/
theorem State.freeSlot_eq {s : State} {i : SlotNo} (hi : s.asks.slots[i] = none) (hlow : ∀ j < i, s.asks.slots[j] ≠ none) :
    s.freeSlot = some i := by
  refine List.find?_eq_some_iff_getElem.2 ⟨by rw [hi]; rfl, i.val, by simp [allSlots], by simp [allSlots], fun j hj => ?_⟩
  have hlt : j < 4 := Nat.lt_trans hj i.isLt
  have hne := hlow ⟨j, hlt⟩ hj
  rw [Bool.not_eq_true', Option.isNone_eq_false_iff, Option.isSome_iff_ne_none]
  simpa [allSlots] using hne

theorem State.freeSlot_eq_none {s : State} (h : ∀ i : SlotNo, s.asks.slots[i] ≠ none) : s.freeSlot = none :=
  List.find?_eq_none.2 fun i _ hi => h i (Option.isNone_iff_eq_none.1 hi)

/-- Settles O41: the ask is that of no slot, and the lowest free slot is opened with what the part decides. -/
theorem newAskOpensSlotOrIsDropped : Obligations.NewAskOpensSlotOrIsDropped := by
  intro src ask token cls target arrival window rest s hr hq hnew goal length eta slot
  let a := limitAsk src ask token cls target arrival window
  have hexec : exec .swapAsk s = .next (State.finish none s ((popAsk s).quiet.takeAsk a)) := event_fromAsk_inRun hr hq rfl
  have hslot : (popAsk s).quiet.slotOf a.terminal a.ask = none := State.slotOf_eq_none (s := (popAsk s).quiet) hnew
  refine ⟨fun i hfree hlow d hd => ?opens, fun hfull => ?drops, s.ownOffer a, ?decides⟩
  case decides => exact (ownOffer_iff (a := a)).2 rfl
  case opens =>
    have hdecided : d = (popAsk s).quiet.ownOffer a := (ownOffer_iff (s := s) (a := a)).1 hd
    have htake : (popAsk s).quiet.takeAsk a = (popAsk s).quiet.openSlot i a := by
      rw [State.takeAsk, hslot, State.freeSlot_eq (s := (popAsk s).quiet) hfree hlow]
    rw [hexec, htake]
    cases d with
    | inl o =>
      have hopens : (popAsk s).quiet.openSlot i a =
          { s with
            asks := { s.asks with slots := s.asks.slots.set i (some (slot (some o) none)) i.isLt }
            line := (popAsk s).line.post (.offer src ask o.offset o.existing), out := quietOut } := by
        unfold State.openSlot
        rw [← hdecided]
        exact State.post_run _ hr.run
      rw [hopens]
      exact congrArg _ (finish_asks_line hr _ _)
    | inr r =>
      have hopens : (popAsk s).quiet.openSlot i a =
          { s with
            asks := { s.asks with slots := s.asks.slots.set i (some (slot none (some r))) i.isLt }
            line := (popAsk s).line, out := quietOut } := by
        unfold State.openSlot
        rw [← hdecided]
        rfl
      rw [hopens]
      exact congrArg _ (finish_asks_line hr _ _)
  case drops =>
    have htake : (popAsk s).quiet.takeAsk a =
        ({ (popAsk s).quiet with asks := { s.asks with dropped := min 255 (s.asks.dropped + 1) } } : State).told
          [.askDropped src ask (min 255 (s.asks.dropped + 1))] := by
      rw [State.takeAsk, hslot, State.freeSlot_eq_none (s := (popAsk s).quiet) hfull]
      rfl
    obtain ⟨t, ht, heq, hraised, hout, -, hkept⟩ := State.finish_told (s := s)
      (v := { (popAsk s).quiet with asks := { s.asks with dropped := min 255 (s.asks.dropped + 1) } })
      (ns := [.askDropped src ask (min 255 (s.asks.dropped + 1))]) none hr.settled fun _ => hr.run
    refine ⟨t, by rw [hexec, htake, ht], ?_, hraised⟩
    rw [heq, hkept rfl, hout, ordersOf_same (by rfl)]
    rfl

end Sys2Proof.Machine
end


section
/-! SUPPORT. The record that a creation makes, and the end of a bid window (R39, R41, R71 to R74). -/

namespace Sys2Proof.Machine

open Sys2Proof.Machine.Safety

/-! ### The id and the book after a creation (R38 to R41) -/

/-- How far the search for a free id goes: every id before the one it stops at is held. -/
theorem Book.freeId_steps {k : Book} {id fuel n : Nat} :
    ∃ m ≤ fuel, k.freeId fuel (nthAfter id n) = nthAfter id (n + m) ∧
      ∀ i < m, (k.byId (nthAfter id (n + i))).isSome = true := by
  induction fuel generalizing n with
  | zero => exact ⟨0, le_rfl, rfl, fun i hi => absurd hi (Nat.not_lt_zero i)⟩
  | succ f ih =>
    by_cases hheld : (k.byId (nthAfter id n)).isSome = true
    · obtain ⟨m, hm, heq, hbefore⟩ := ih (n := n + 1)
      refine ⟨m + 1, by omega, ?_, fun i hi => ?_⟩
      · rw [Book.freeId, if_pos hheld, nthAfter_succ, heq, show n + 1 + m = n + (m + 1) by omega]
      · cases i with
        | zero => exact hheld
        | succ j =>
          have := hbefore j (by omega)
          rwa [show n + 1 + j = n + (j + 1) by omega] at this
    · exact ⟨0, Nat.zero_le _, by rw [Book.freeId, if_neg hheld]; rfl, fun i hi => absurd hi (Nat.not_lt_zero i)⟩

theorem idGiven_freeId {cfg : Setup} {k : Book} (h : BookOk cfg k) : IdGiven k (k.freeId (k.records.length + 1) k.nextId) := by
  obtain ⟨hlen, -, -, -, -, -, hnext, -⟩ := h
  obtain ⟨m, hm, heq, hbefore⟩ := Book.freeId_steps (k := k) (id := k.nextId) (fuel := k.records.length + 1) (n := 0)
  rw [nthAfter_zero hnext, Nat.zero_add] at heq
  obtain ⟨hlow, hhigh⟩ := Book.freeId_range (k := k) (fuel := k.records.length + 1) hnext
  refine ⟨fun r hr hid => Book.freeId_free hnext hlen (List.mem_map.2 ⟨r, hr, hid⟩), hlow, hhigh, fun i hi => ?_⟩
  have hdistance : (k.freeId (k.records.length + 1) k.nextId + 65535 - k.nextId) % 65535 = m := by
    rw [heq]
    unfold nthAfter
    omega
  have hheld := hbefore i (by omega)
  rw [Book.byId_isSome, Nat.zero_add] at hheld
  obtain ⟨r, hr, hid⟩ := List.mem_map.1 hheld
  refine ⟨r, hr, hid.trans ?_⟩
  unfold nthAfter
  rw [show k.nextId - 1 + i = k.nextId + i - 1 by omega]

/-- A granted request's record in its place. -/
theorem bookGrown_insert {cfg : Setup} {k : Book} (h : BookOk cfg k) (q : Request) :
    let id := k.freeId (k.records.length + 1) k.nextId
    BookGrown (q.record id) k (k.insert id q) := by
  have hgiven := idGiven_freeId h
  obtain ⟨-, horder, -⟩ := h
  intro id
  have ⟨hfresh, _, hhigh, _⟩ := hgiven
  refine ⟨hgiven, insertRecord_perm _ _, insertRecord_pairwise (fun hmem => ?_) horder, ?_⟩
  · obtain ⟨r, hr, hid⟩ := List.mem_map.1 hmem
    exact hfresh r hr hid
  · have hnext : nextAfter id = if (q.record id).id = 65535 then 1 else (q.record id).id + 1 := by
      show nextAfter id = if id = 65535 then 1 else id + 1
      unfold nextAfter
      split_ifs <;> omega
    rw [← hnext]
    rfl

/-- A creation that no check of R41 refuses. -/
theorem State.createRecord_granted {s : State} {q : Request} (htoken : q.token ≠ 0)
    (hheld : ¬ ∃ r ∈ s.book.records, r.token = q.token) (hroom : RoomFor s q.cls) :
    s.createRecord q =
      let id := s.book.freeId (s.book.records.length + 1) s.book.nextId
      (.ok id, { s with book := s.book.insert id q, plan := { s.plan with requested := true } }) := by
  have hpasses : s.book.check s.cfg q = none :=
    Book.check_none.2 ⟨htoken, fun r hr ht => hheld ⟨r, hr, ht⟩, hroom.1, hroom.2⟩
  unfold State.createRecord
  rw [hpasses]
  rfl

theorem State.createRecord_tokenHeld {s : State} {q : Request} (htoken : q.token ≠ 0)
    (hheld : ∃ r ∈ s.book.records, r.token = q.token) : s.createRecord q = (.refused .tokenHeld, s) := by
  unfold State.createRecord Book.check
  rw [if_neg htoken, if_pos (Book.byToken_isSome.2 hheld)]

/-- A creation that finds the book or the class full. -/
theorem State.createRecord_full {s : State} {q : Request} (htoken : q.token ≠ 0)
    (hheld : ¬ ∃ r ∈ s.book.records, r.token = q.token) (hroom : ¬ RoomFor s q.cls) :
    s.createRecord q = (.refused .bookFull, s) ∨ s.createRecord q = (.refused .limit, s) := by
  unfold State.createRecord Book.check
  rw [if_neg htoken, if_neg (Book.byToken_isSome.not.2 hheld)]
  rw [roomFor_iff] at hroom
  by_cases hbook : s.book.records.length ≥ bookSize
  · rw [if_pos hbook]
    exact .inl rfl
  · rw [if_neg hbook, if_pos (by simpa [hbook] using hroom)]
    exact .inr rfl

theorem classNo?_of_val {c : PackClass} {n : Nat} (h : c.val = n) : classNo? n = some c := h ▸ classNo?_val c

/-- An event while RESTART is released. -/
theorem event_live {s : State} {body : State → State} (hr : Running s) :
    event body s = .next (State.finish none s (body s.quiet)) := by
  rw [event, State.take_live hr.released]

/-! ### The end of a bid window (R71 to R74) -/

/-- The slot with its bid resolved. -/
def State.slotTo (i : SlotNo) (x : Slot) (st : SlotState) (reason : Option NoneReason) (s : State) : State :=
  s.setSlot i (some { x with state := st, reason := reason })

section
variable {s : State} {i : SlotNo} {x : Slot}

theorem State.bidEnds_due (hi : s.asks.slots[i] = some x) (hx : x.state = .bidding 0) : s.bidEnds i = s.resolveBid i x := by
  unfold State.bidEnds
  rw [hi]
  exact if_pos (by unfold Slot.bidDue; rw [hx]; rfl)

theorem ownWins_iff {station : Station} {o : Offer} {heard : Option Heard} :
    ownWins station o heard = true ↔ ∀ h, heard = some h → Ranked ⟨o.offset, o.existing, station⟩ h := by
  cases heard with
  | none => simp [ownWins]
  | some h => exact ranksBefore_iff.trans ⟨fun hr k hk => Option.some.inj hk ▸ hr, fun hall => hall h rfl⟩

/-- Without an offer of its own the part has nothing or has lost. -/
theorem State.resolveBid_noOffer (hown : x.own = none) :
    s.resolveBid i x = s.slotTo i x (if x.heard = none then .none s.discardMillis else .lost s.discardMillis) x.reason := by
  unfold State.resolveBid
  split
  · next hsome => exact absurd (hown.symm.trans hsome) (by simp)
  · next hheard => rw [if_neg (by rw [hheard]; simp)]; rfl
  · next hheard => rw [if_pos hheard]; rfl

variable {o : Offer} (hown : x.own = some o)
include hown

theorem State.resolveBid_loses {h : Heard} (hh : x.heard = some h) (hrank : ¬ Ranked ⟨o.offset, o.existing, s.cfg.station⟩ h) :
    s.resolveBid i x = s.slotTo i x (.lost s.discardMillis) x.reason := by
  unfold State.resolveBid
  split
  · next _ p hp =>
    obtain rfl : o = p := Option.some.inj (hown.symm.trans hp)
    exact if_neg fun hw => hrank (ownWins_iff.1 hw h hh)
  · next hnone _ => exact absurd (hown.symm.trans hnone) (by simp)
  · next hnone _ => exact absurd (hown.symm.trans hnone) (by simp)

theorem State.resolveBid_wins (hrank : ∀ h, x.heard = some h → Ranked ⟨o.offset, o.existing, s.cfg.station⟩ h) :
    s.resolveBid i x = if o.existing = true then s.winExisting i x else s.winNew i x o.offset := by
  unfold State.resolveBid
  split
  · next _ p hp =>
    obtain rfl : o = p := Option.some.inj (hown.symm.trans hp)
    exact if_pos (ownWins_iff.2 hrank)
  · next hnone _ => exact absurd (hown.symm.trans hnone) (by simp)
  · next hnone _ => exact absurd (hown.symm.trans hnone) (by simp)

end

section
variable {s : State} {i : SlotNo} {x : Slot}

theorem State.winExisting_held (hn : (s.book.records.map (·.token)).Nodup) {r : Reservation} (hr : r ∈ s.book.records)
    (ht : r.token = x.token) : s.winExisting i x = s.slotTo i x (.won r.id 0 .existing s.discardMillis) x.reason := by
  unfold State.winExisting
  cases hfound : s.book.byToken x.token with
  | none => exact absurd ht (Book.byToken_none.1 hfound r hr)
  | some q =>
    obtain ⟨hq, hqt⟩ := Book.byToken_some hfound
    obtain rfl : q = r := List.inj_on_of_nodup_map hn hq hr (hqt.trans ht.symm)
    rfl

theorem State.winExisting_gone (hheld : ¬ ∃ r ∈ s.book.records, r.token = x.token) :
    s.winExisting i x = s.slotTo i x (.none s.discardMillis) (some .gone) := by
  unfold State.winExisting
  rw [Book.byToken_none.2 fun r hr ht => hheld ⟨r, hr, ht⟩]
  rfl

variable (offset : Nat) {c : PackClass} (hc : c.val = x.cls) (htoken : x.token ≠ 0)
include hc htoken

theorem State.winNew_held (hheld : ∃ r ∈ s.book.records, r.token = x.token) : s.winNew i x offset = s.winExisting i x := by
  unfold State.winNew
  rw [classNo?_of_val hc]
  dsimp only
  rw [State.createRecord_tokenHeld htoken hheld]

theorem State.winNew_full (hheld : ¬ ∃ r ∈ s.book.records, r.token = x.token) (hroom : ¬ RoomFor s c) :
    s.winNew i x offset = s.slotTo i x (.none s.discardMillis) (some .full) := by
  unfold State.winNew
  rw [classNo?_of_val hc]
  dsimp only
  obtain heq | heq := State.createRecord_full (q := ⟨x.token, c, x.target, x.arrival + x.arrivalEstimate, x.window, .ask⟩) htoken
    hheld hroom
  · rw [heq]
    rfl
  · rw [heq]
    rfl

/-- A new offer wins by the record that is created. -/
theorem State.winNew_granted (hheld : ¬ ∃ r ∈ s.book.records, r.token = x.token) (hroom : RoomFor s c) :
    s.winNew i x offset =
      let q : Request := ⟨x.token, c, x.target, x.arrival + x.arrivalEstimate, x.window, .ask⟩
      let id := s.book.freeId (s.book.records.length + 1) s.book.nextId
      ({ s with book := s.book.insert id q, plan := { s.plan with requested := true } } : State).slotTo i x
        (.won id offset .new s.discardMillis) x.reason := by
  unfold State.winNew
  rw [classNo?_of_val hc]
  dsimp only
  rw [State.createRecord_granted (q := ⟨x.token, c, x.target, x.arrival + x.arrivalEstimate, x.window, .ask⟩) htoken hheld hroom]
  rfl

end

/-- Settles O44: the bid resolves by R71, and each way of winning by its own equation. -/
theorem bidWindowEndResolves : Obligations.BidWindowEndResolves := by
  intro i x s hr hbook hi hx m slotTo ends held
  have hends : ∀ st r, s.quiet.resolveBid i x = s.quiet.slotTo i x st r → ends (slotTo st r) := fun st r h => by
    have hexec : exec (.bidWindowEnd i) s = .next (State.finish none s (s.quiet.bidEnds i)) := event_live hr
    show exec (.bidWindowEnd i) s = _
    rw [hexec, State.bidEnds_due (s := s.quiet) hi hx, h]
    exact congrArg _ (finish_asks_line hr _ s.line)
  have ⟨_, _, _, htokens, _⟩ := hbook
  refine ⟨fun hown hheard => ?nothing, fun hown hheard => ?unheard, fun o hown => ⟨fun h hh hrank => ?outranked, fun hrank => ?_⟩⟩
  case nothing => exact hends _ _ ((State.resolveBid_noOffer hown).trans (by rw [if_pos hheard]; rfl))
  case unheard => exact hends _ _ ((State.resolveBid_noOffer hown).trans (by rw [if_neg hheard]; rfl))
  case outranked => exact hends _ _ (State.resolveBid_loses hown hh hrank)
  have hwins := State.resolveBid_wins (s := s.quiet) (i := i) hown hrank
  refine ⟨fun hway r hrec ht => ?existing, fun hold hgone => ?gone, fun hnew hfree htoken c hc => ⟨fun hroom => ?full, fun hroom => ?granted⟩⟩
  case existing =>
    have hwon := State.winExisting_held (s := s.quiet) (i := i) htokens hrec ht
    refine hends _ _ (hwins.trans ?_)
    by_cases hold : o.existing = true
    · rw [if_pos hold]
      exact hwon
    · obtain ⟨htoken, hcls⟩ := hway.resolve_left hold
      rw [if_neg hold]
      exact (State.winNew_held (s := s.quiet) o.offset (c := ⟨x.cls, hcls⟩) rfl htoken ⟨r, hrec, ht⟩).trans hwon
  case gone =>
    refine hends _ _ (hwins.trans ?_)
    rw [if_pos hold]
    exact State.winExisting_gone (s := s.quiet) hgone
  case full =>
    refine hends _ _ (hwins.trans ?_)
    rw [if_neg (by simp [hnew])]
    exact State.winNew_full (s := s.quiet) o.offset hc htoken hfree hroom
  case granted =>
    have hwon := State.winNew_granted (s := s.quiet) (i := i) o.offset hc htoken hfree hroom
    rw [if_neg (by simp [hnew]), hwon] at hwins
    have hbody := (State.bidEnds_due (s := s.quiet) hi hx).trans hwins
    obtain ⟨t, ht, heq, hraised, hout, hasked, -⟩ := event_told (ns := []) hr hbody hr.run
    obtain ⟨hflags, hline⟩ := hraised
    let q : Request := ⟨x.token, c, x.target, x.arrival + x.arrivalEstimate, x.window, .ask⟩
    let id := s.book.freeId (s.book.records.length + 1) s.book.nextId
    have hgrown : BookGrown (q.record id) s.book (s.book.insert id q) := bookGrown_insert (bookSound_iff.1 hbook) q
    have htbook : t.book = s.book.insert id q := congrArg State.book heq
    refine ⟨t, ht, q.record id, ?_, ?_, rfl, ?_, hasked rfl⟩
    · rw [htbook]
      exact mem_insertRecord.2 (.inl rfl)
    · rw [heq, hflags, hline, hout, ordersOf_same (by rfl)]
      rfl
    · rw [htbook]
      exact hgrown

end Sys2Proof.Machine
end


section
/-! SUPPORT. A record that leaves the book for any cause but DONE: its bay released, the notices and the answers (R52 to R58,
R79, R80). -/

namespace Sys2Proof.Machine

open Sys2Proof.Machine.Safety

/-! ### The bay released (R16, R57) -/

/-- A HELD or READY bay goes to STOCK with its pack, its lock and its data timer (R1, R2, R16, R21). -/
theorem Bay.entering_stock {cfg : Setup} {x : Bay} (hst : x.state = .held ∨ x.state = .ready) (hfault : x.pendingFault = none)
    (hhand : x.handover = none) : x.entering cfg .stock = releasedBay cfg x := by
  have hlock : lockEntering x.state .stock x.door x.locked x.lockPending = (x.locked, x.lockPending) := by
    obtain hst | hst := hst <;> rw [hst] <;> rfl
  have htimer : timerEntering x.state .stock x.dataTimer = x.dataTimer := by
    obtain hst | hst := hst <;> rw [hst] <;> rfl
  unfold Bay.entering Bay.writeSetpoint releasedBay
  simp only [hlock, htimer, hfault, hhand, ite_self]
  rfl

/-- The bay of a record, with what the rules say of it. -/
theorem State.releaseBay_eq {s : State} {b : BayNo} (hfields : BayFields (s.bay b))
    (hst : (s.bay b).state = .held ∨ (s.bay b).state = .ready) :
    s.releaseBay b =
      { s with
        bays := s.bays.set b (releasedBay s.cfg (s.bay b)) b.isLt
        boost := { s.boost with eligible := s.boost.eligible.set b true b.isLt }
        plan := { s.plan with requested := true } } := by
  have hdoor : (s.bay b).state.atDoor = false := by obtain hst | hst := hst <;> rw [hst] <;> rfl
  have hfault : (s.bay b).pendingFault = none := by
    cases hp : (s.bay b).pendingFault with
    | none => rfl
    | some k => exact absurd (hfields.1 k hp).1 (by simp [hdoor])
  have hhand : (s.bay b).handover = none := by
    have := hfields.2.2.2.2.1
    rw [hdoor] at this
    exact Option.not_isSome_iff_eq_none.1 (by simp [this])
  have hends : endsGrant b .stock s.boost = false := by simp [endsGrant, BayState.eligible]
  have henter : s.releaseBay b = s.enterBay b .stock := by
    unfold State.releaseBay
    obtain hst | hst := hst <;> rw [hst]
  rw [henter, State.enterBay_eq, Bay.entering_stock hst hfault hhand, hends]
  simp [releasedBay, BayState.eligible]

/-- The release of the bay that a record not at the door names, if it names one. -/
theorem State.releaseOf_request {s : State} {r : Reservation} (hboost : BoostSound s) (hfields : ∀ b, BayFields (s.bay b))
    (hagree : RecordAgrees s r) (haway : r.atDoor = false) :
    (s.releaseOf r).request =
      { s with
        bays := baysReleased s.cfg r s.bays, boost := arbiterReleased r s.boost
        plan := { s.plan with requested := true } } := by
  unfold State.releaseOf baysReleased arbiterReleased
  unfold RecordAgrees at hagree
  cases hst : r.state with
  | pending => rfl
  | handover b p => rfl
  | bound b =>
    rw [hst] at hagree
    have hheld : (s.bay b).state = .held := by simpa [haway] using hagree.2
    have hsame : s.boost.eligible.set b true b.isLt = s.boost.eligible := by
      have : s.boost.eligible[b] = true := by rw [hboost.2.1 b, hheld]; rfl
      rw [← this]
      exact Vector.set_getElem_self _
    dsimp only
    rw [State.releaseBay_eq (hfields b) (.inl hheld), hsame]
    rfl
  | ready b =>
    rw [hst] at hagree
    have hready : (s.bay b).state = .ready := by simpa [haway] using hagree.2
    dsimp only
    rw [State.releaseBay_eq (hfields b) (.inr hready)]
    rfl

/-- What a record that is not at the door leaves behind (R57, R80). -/
theorem State.removeRecord_away {s : State} {r : Reservation} (hboost : BoostSound s) (hfields : ∀ b, BayFields (s.bay b))
    (hagree : RecordAgrees s r) (haway : r.atDoor = false) :
    s.removeRecord r = { withoutRecord r s with plan := { s.plan with requested := true } } := by
  have hrelease := State.releaseOf_request hboost hfields hagree haway
  have hdrop : s.removeRecord r = { (s.releaseOf r).request with
      book := bookWithout r (s.releaseOf r).request.book, asks := asksWithout r.id (s.releaseOf r).request.asks } := by
    unfold State.removeRecord
    dsimp only
    rw [State.tellRemoved_eq]
    rfl
  rw [hdrop, hrelease]
  rfl

/-- The expired-token list with one more token, which it did not hold (R54). -/
theorem pushExpired_eq {token : Nat} {l : List Nat} (hlen : l.length ≤ 8) (hfresh : token ∉ l) :
    pushExpired token l = expiredWith token l := by
  have hkept : l.filter (· ≠ token) = l := List.filter_eq_self.2 fun t ht => by
    simp only [decide_eq_true_eq]
    rintro rfl
    exact hfresh ht
  unfold pushExpired expiredWith expiredSize
  rw [hkept]
  dsimp only
  rw [List.length_append, List.length_singleton]
  split_ifs with hroom
  · rw [show l.length + 1 - 8 = 0 by omega, List.drop_zero]
  · obtain ⟨x, xs, rfl⟩ := List.exists_cons_of_ne_nil (List.ne_nil_of_length_pos (l := l) (by omega))
    rw [show (x :: xs).length + 1 - 8 = 1 by simp at hlen hroom ⊢; omega]
    rfl

/-! ### Expiry and discard (R52, R53, R58, R79) -/

theorem State.expiryCheck_stays {s : State} {r : Reservation} (hn : (s.book.records.map (·.id)).Nodup) (hr : r ∈ s.book.records)
    (h : r.atDoor = true ∨ s.clock.seconds < r.expiry s.cfg) : s.expiryCheck r.id = s := by
  unfold State.expiryCheck
  rw [Book.byId_of_mem hn hr]
  refine if_neg fun hdue => ?_
  obtain ⟨hreached, haway⟩ := Reservation.expiryDue_iff.1 hdue
  obtain hdoor | hearly := h
  · exact absurd (hdoor.symm.trans haway) (by simp)
  · exact absurd hreached (Nat.not_le.2 hearly)

section
variable {s : State} {r : Reservation} (hbook : BookSound s) (hagree : BindingsAgree s) (hboost : BoostSound s)
  (hfields : ∀ b, BayFields (s.bay b)) (hr : r ∈ s.book.records) (haway : r.atDoor = false)
include hbook hagree hboost hfields hr haway

/-- A record that is due expires. -/
theorem State.expiryCheck_due (hdue : r.expiry s.cfg ≤ s.clock.seconds) :
    s.expiryCheck r.id =
      ({ withoutRecord r s with
        book := { bookWithout r s.book with expired := expiredWith r.token s.book.expired }
        plan := { s.plan with requested := true } } : State).told [.resExpired r.id r.token r.cls] := by
  have ⟨_, _, hids, _, _, _, _, hlen, _, hfresh, _⟩ := hbook
  have hremove := State.removeRecord_away (s := { s with book := { s.book with expired := pushExpired r.token s.book.expired } })
    (r := r) hboost hfields (hagree.1 r hr) haway
  unfold State.expiryCheck
  rw [Book.byId_of_mem hids hr]
  dsimp only
  rw [if_pos (Reservation.expiryDue_iff.2 ⟨hdue, haway⟩), State.expire, hremove, pushExpired_eq hlen (hfresh r hr)]
  rfl

/-- The discard timer of a slot that won the record as NEW. -/
theorem State.discardSlot_new {i : SlotNo} {x : Slot} {off m : Nat} (hx : x.state = .won r.id off .new m) :
    s.discardSlot i x =
      ({ withoutRecord r s with
        asks := { s.asks with slots := (asksWithout r.id s.asks).slots.set i none i.isLt }
        plan := { s.plan with requested := true } } : State).told [.answerDiscarded x.terminal x.ask r.id] := by
  have ⟨_, _, hids, _⟩ := hbook
  have hdiscard : s.discardRecord r.id = (true, s.removeRecord r) := by
    unfold State.discardRecord
    rw [Book.byId_of_mem hids hr]
    exact if_neg (by simp [haway])
  unfold State.discardSlot
  rw [hx]
  dsimp only
  rw [hdiscard]
  dsimp only
  rw [if_pos rfl, State.removeRecord_away hboost hfields (hagree.1 r hr) haway]
  rfl

end

/-- Any other slot is freed alone. -/
theorem State.discardSlot_plain {s : State} {i : SlotNo} {x : Slot}
    (h : (∃ r ∈ s.book.records, (s.book.records.map (·.id)).Nodup ∧ r.atDoor = true ∧ ∃ off m, x.state = .won r.id off .new m) ∨
      (∃ id off m, x.state = .won id off .existing m) ∨ (∃ m, x.state = .lost m) ∨ ∃ m, x.state = .none m) :
    s.discardSlot i x = s.setSlot i none := by
  unfold State.discardSlot
  obtain ⟨r, hr, hn, hdoor, off, m, hx⟩ | ⟨id, off, m, hx⟩ | ⟨m, hx⟩ | ⟨m, hx⟩ := h
  · have hdiscard : s.discardRecord r.id = (false, s) := by
      unfold State.discardRecord
      rw [Book.byId_of_mem hn hr]
      exact if_pos hdoor
    rw [hx]
    dsimp only
    rw [hdiscard]
    rfl
  · rw [hx]
  · rw [hx]
  · rw [hx]

theorem State.discardEnds_due {s : State} {i : SlotNo} {x : Slot} (hi : s.asks.slots[i] = some x) (hdue : x.discardDue = true) :
    s.discardEnds i = s.discardSlot i x := by
  unfold State.discardEnds
  rw [hi]
  exact if_pos hdue

/-- Settles O45: the removal of R57 under its two causes, and the slots that are freed alone. -/
theorem expiryAndDiscardRemoveRecord : Obligations.ExpiryAndDiscardRemoveRecord := by
  intro rec s hr hbook hagree hboost hfields hrec
  have ⟨_, _, hids, _⟩ := hbook
  refine ⟨fun haway hdue => ?expires, fun hstays => ?stays, fun i x hi => ⟨fun off hx haway => ?discards, fun hplain => ?freed⟩⟩
  case expires =>
    have hbody := State.expiryCheck_due (s := s.quiet) hbook hagree hboost hfields hrec haway hdue
    obtain ⟨t, ht, heq, hraised, -, hasked, -⟩ := event_told hr hbody hr.run
    refine ⟨t, ht, ?_, hasked rfl, hraised⟩
    rw [heq]
    rfl
  case stays =>
    have hbody : s.quiet.expiryCheck rec.id = s.quiet := State.expiryCheck_stays (s := s.quiet) hids hrec hstays
    have hexec : exec (.recordExpiry rec.id) s = .next (State.finish none s (s.quiet.expiryCheck rec.id)) := event_live hr
    rw [hexec, hbody]
    exact congrArg _ (finish_asks_line hr s.asks s.line)
  case discards =>
    have hdue : x.discardDue = true := by
      unfold Slot.discardDue
      rw [hx]
      rfl
    have hbody := (State.discardEnds_due (s := s.quiet) hi hdue).trans
      (State.discardSlot_new (s := s.quiet) (i := i) hbook hagree hboost hfields hrec haway hx)
    obtain ⟨t, ht, heq, hraised, -, hasked, -⟩ := event_told hr hbody hr.run
    refine ⟨t, ht, ?_, hasked rfl, hraised⟩
    rw [heq]
    rfl
  case freed =>
    have hdue : x.discardDue = true := by
      unfold Slot.discardDue
      obtain ⟨off, hx, -⟩ | ⟨id, off, hx⟩ | hx | hx := hplain <;> rw [hx] <;> rfl
    have hbody : s.quiet.discardEnds i = s.quiet.setSlot i none :=
      (State.discardEnds_due (s := s.quiet) hi hdue).trans (State.discardSlot_plain (s := s.quiet)
        (hplain.imp (fun ⟨off, hx, hdoor⟩ => ⟨rec, hrec, hids, hdoor, off, 0, hx⟩)
          (Or.imp (fun ⟨id, off, hx⟩ => ⟨id, off, 0, hx⟩) (Or.imp (fun hx => ⟨0, hx⟩) fun hx => ⟨0, hx⟩))))
    have hexec : exec (.discardTimerExpiry i) s = .next (State.finish none s (s.quiet.discardEnds i)) := event_live hr
    rw [hexec, hbody]
    exact congrArg _ (finish_asks_line hr _ s.line)

/-! ### A RELEASE (R55, R56) -/

/-- Settles O46: the record found under the id is kept at the door and removed away from it. -/
theorem releaseRemovesRecord : Obligations.ReleaseRemovesRecord := by
  intro src id rest s hr hbook hagree hboost hfields hq hc
  have ⟨_, _, hids, _⟩ := hbook
  have hexec : exec .release s = .next (State.finish none s ((popAsk s).quiet.releaseRecord src id)) :=
    event_fromAsk_addressed hr hq hc rfl
  refine ⟨fun r hrec hid hdoor => ?busy, fun r hrec hid haway => ?released, fun hnone => ?unknown⟩
  case busy =>
    have hbusy : (popAsk s).quiet.releaseRecord src id = (popAsk s).quiet.post (.answer src (.busy id)) := by
      unfold State.releaseRecord
      rw [← hid, show (popAsk s).quiet.book.byId r.id = some r from Book.byId_of_mem hids hrec]
      exact if_pos hdoor
    rw [hexec, hbusy, State.post_run (s := (popAsk s).quiet) _ hr.run]
    exact congrArg _ (finish_asks_line hr s.asks _)
  case released =>
    have hremove := State.removeRecord_away (s := (popAsk s).quiet) (r := r) hboost hfields (hagree.1 r hrec) haway
    have hbody : (popAsk s).quiet.releaseRecord src id =
        ({ withoutRecord r (popAsk s).quiet with plan := { s.plan with requested := true } } : State).told
          [.resReleased id r.cls] := by
      unfold State.releaseRecord
      rw [← hid, show (popAsk s).quiet.book.byId r.id = some r from Book.byId_of_mem hids hrec]
      dsimp only
      rw [if_neg (by simp [haway]), hremove]
      rfl
    obtain ⟨t, ht, heq, hraised, -, hasked, -⟩ := State.finish_told (s := s)
      (v := { withoutRecord r (popAsk s).quiet with plan := { s.plan with requested := true } })
      (ns := [.resReleased id r.cls]) none hr.settled fun _ => hr.run
    refine ⟨t, by rw [hexec, hbody, ht], ?_, hasked rfl, hraised⟩
    rw [heq]
    rfl
  case unknown =>
    let counted : State :=
      { (popAsk s).quiet with book := { s.book with unknownReleases := min 255 (s.book.unknownReleases + 1) } }
    have hbody : (popAsk s).quiet.releaseRecord src id =
        counted.told [.unknownRelease id (min 255 (s.book.unknownReleases + 1))] := by
      unfold State.releaseRecord
      rw [show (popAsk s).quiet.book.byId id = none from Book.byId_none.2 hnone]
      rfl
    obtain ⟨t, ht, heq, hraised, hout, -, hkept⟩ := State.finish_told (s := s) (v := counted)
      (ns := [.unknownRelease id (min 255 (s.book.unknownReleases + 1))]) none hr.settled fun _ => hr.run
    refine ⟨t, by rw [hexec, hbody, ht], ?_, hraised⟩
    rw [heq, hkept rfl, hout, ordersOf_same (by rfl)]
    rfl

end Sys2Proof.Machine
end


section
/-! SUPPORT. A CLAIM: the reply by its record, and the GO (R50, R136 to R139). -/

namespace Sys2Proof.Machine

open Sys2Proof.Machine.Safety

/-! ### The record of a claim (R136, R137) -/

section
variable {s : State} {src : Station} {token : Nat}

theorem State.takeClaim_found {r : Reservation} (hn : (s.book.records.map (·.token)).Nodup) (hr : r ∈ s.book.records)
    (ht : r.token = token) (h0 : token ≠ 0) : s.takeClaim src token = s.answerClaim src r := by
  unfold State.takeClaim
  rw [if_neg h0]
  cases hfound : s.book.byToken token with
  | none => exact absurd ht (Book.byToken_none.1 hfound r hr)
  | some q =>
    obtain ⟨hq, hqt⟩ := Book.byToken_some hfound
    obtain rfl : q = r := List.inj_on_of_nodup_map hn hq hr (hqt.trans ht.symm)
    rfl

theorem State.takeClaim_late (hfree : ∀ r ∈ s.book.records, r.token ≠ token) (h0 : token ≠ 0) (h : token ∈ s.book.expired) :
    s.takeClaim src token = s.post (.claimReply src token .tooLate) := by
  unfold State.takeClaim
  rw [if_neg h0, Book.byToken_none.2 hfree]
  exact if_pos h

theorem State.takeClaim_unknown (hfree : ∀ r ∈ s.book.records, r.token ≠ token) (h : token = 0 ∨ token ∉ s.book.expired) :
    s.takeClaim src token = s := by
  unfold State.takeClaim
  by_cases h0 : token = 0
  · exact if_pos h0
  · rw [if_neg h0, Book.byToken_none.2 hfree]
    exact if_neg (h.resolve_left h0)

variable {r : Reservation}

theorem State.answerClaim_pending (hst : r.state = .pending) :
    s.answerClaim src r = s.post (.claimReply src r.token (.notReady r.id)) := by
  unfold State.answerClaim
  rw [hst]

theorem State.answerClaim_busy {b : BayNo} (hb : r.bay = some b) (h : r.atDoor = true ∨ ∃ p, r.state = .handover b p) :
    s.answerClaim src r = s.post (.claimReply src r.token (.busy r.id b)) := by
  unfold State.answerClaim
  unfold Reservation.bay at hb
  cases hst : r.state with
  | pending => rw [hst] at hb; exact absurd hb (by simp)
  | handover d p => rw [hst] at hb; obtain rfl := Option.some.inj hb; rfl
  | bound d =>
    rw [hst] at hb h
    obtain rfl := Option.some.inj hb
    exact if_pos (h.resolve_right (by simp))
  | ready d =>
    rw [hst] at hb h
    obtain rfl := Option.some.inj hb
    exact if_pos (h.resolve_right (by simp))

theorem State.answerClaim_wait {b : BayNo} {p : Pack} (hst : r.state = .bound b) (haway : r.atDoor = false)
    (hp : (s.bay b).pack = some p) (hshort : p.soc < max 500 (r.target - 100)) :
    s.answerClaim src r = s.post (.claimReply src r.token (.wait r.id (normalEstimate s.cfg r.target (s.bay b)))) := by
  unfold State.answerClaim
  rw [hst]
  dsimp only
  rw [if_neg (by simp [haway]), hp]
  exact if_neg (Nat.not_le.2 hshort)

/-- The prior state of a record whose claim is answered GO. -/
def Reservation.prior (b : BayNo) (r : Reservation) : Prior := if r.state = .ready b then .ready else .bound

theorem State.answerClaim_go {b : BayNo} {p : Pack} (hp : (s.bay b).pack = some p) (haway : r.atDoor = false)
    (h : r.state = .ready b ∨ (r.state = .bound b ∧ max 500 (r.target - 100) ≤ p.soc)) :
    s.answerClaim src r = s.go src r b (r.prior b) (if r.state = .ready b then none else some p.soc) := by
  unfold State.answerClaim Reservation.prior
  obtain hst | ⟨hst, henough⟩ := h
  · rw [if_pos hst, if_pos hst, hst]
    exact if_neg (by simp [haway])
  · rw [if_neg (by simp [hst]), if_neg (by simp [hst]), hst]
    dsimp only
    rw [if_neg (by simp [haway]), hp]
    exact if_pos henough

end

/-! ### The GO (R50, R138) -/

/-- A HELD or READY bay goes OPEN: unlocked, no lock pending, no data timer, setpoint 0 (R1, R21, R22). -/
theorem Bay.entering_opened (cfg : Setup) (x : Bay) :
    x.entering cfg .opened =
      { x with state := .opened, setpoint := 0, dataTimer := none, locked := false, lockPending := false } := by
  have hzero : (x.entering cfg .opened).setpoint = 0 := Bay.entering_setpoint rfl
  have hlock : lockEntering x.state .opened x.door x.locked x.lockPending = (false, false) := rfl
  have htimer : timerEntering x.state .opened x.dataTimer = none := ite_eq_right_iff.2 fun h => by simp [BayState.accepted] at h
  have hfields : x.entering cfg .opened = { x with
      state := .opened, setpoint := (x.entering cfg .opened).setpoint, dataTimer := none, locked := false
      lockPending := false } := by
    simp only [Bay.entering, Bay.writeSetpoint, hlock, htimer]
    rfl
  rw [hfields, hzero]

/-- The part after a GO, but for the reply and the notice. -/
def State.gone (r : Reservation) (b : BayNo) (s : State) : State :=
  { s with
    bays := s.bays.set b
      { s.bay b with
        state := .opened, setpoint := 0, boost := false, dataTimer := none, locked := false, lockPending := false
        handover := some ⟨s.cfg.handoverTime * 1000, false, none, r.id⟩ } b.isLt
    book := { s.book with
      records := s.book.records.map fun z =>
        if z.id = r.id then { z with state := .handover b (r.prior b), late := false, atDoor := true } else z }
    boost := arbiterLeft b .opened s.boost, plan := { s.plan with requested := true } }

theorem State.go_eq {s : State} {src : Station} {r : Reservation} {b : BayNo} {early : Option Nat} (hrun : s.part = .run)
    (hboost : (s.bay b).boost = decide (s.boost.converter.holder = some b)) :
    s.go src r b (r.prior b) early =
      ({ s.gone r b with line := s.line.post (.claimReply src r.token (.go r.id b)) } : State).told
        (match early with
        | some soc => [.earlyShort r.id b soc r.target]
        | none => []) := by
  have hends : endsGrant b .opened s.boost = decide (s.boost.converter.holder = some b) := by
    simp [endsGrant, BayState.eligible]
  have hopens : s.enterBay b .opened =
      { s with
        bays := s.bays.set b { s.bay b with
          state := .opened, setpoint := 0, boost := false, dataTimer := none, locked := false, lockPending := false } b.isLt
        boost := arbiterLeft b .opened s.boost, plan := { s.plan with requested := true } } := by
    rw [State.enterBay_eq, Bay.entering_opened, hends, hboost]
    simp [arbiterLeft, switchMillis]
  have hgone : ((s.goRecord r b (r.prior b)).setBay b
      { (s.goRecord r b (r.prior b)).bay b with
        handover := some ⟨(s.goRecord r b (r.prior b)).cfg.handoverTime * 1000, false, none, r.id⟩ }) = s.gone r b := by
    have hself : (s.goRecord r b (r.prior b)).bay b = { s.bay b with
        state := .opened, setpoint := 0, boost := false, dataTimer := none, locked := false, lockPending := false } := by
      unfold State.goRecord
      rw [hopens]
      exact State.setBay_bay_self s b _
    rw [hself, State.goRecord, hopens]
    apply State.eq_of_fields <;> simp [State.gone, State.updateRecord, State.request, State.setBay]
  unfold State.go
  dsimp only
  rw [hgone, State.post_run (s := s.gone r b) _ hrun]
  cases early <;> rfl

/-- Settles O47: the record of the token, if one holds it, and the reply by its state. -/
theorem claimGoesOrIsAnswered : Obligations.ClaimGoesOrIsAnswered := by
  intro src token rest s hr hbook hboost hq answered
  have ⟨_, _, _, htokens, hsound, _⟩ := hbook
  have hexec : exec .claim s = .next (State.finish none s ((popAsk s).quiet.takeClaim src token)) := event_fromAsk_inRun hr hq rfl
  have hanswered : ∀ p, (popAsk s).quiet.takeClaim src token = (popAsk s).quiet.post (.claimReply src token p) → answered p :=
    fun p h => by
      show exec .claim s = _
      rw [hexec, h, State.post_run (s := (popAsk s).quiet) _ hr.run]
      exact congrArg _ (finish_asks_line hr s.asks _)
  refine ⟨fun r hrec b p hp ht haway hst hres hfields hgo => ?go,
    fun r hrec ht h0 => ⟨fun hst => ?pending, fun b hb hdoor => ?busy, fun b hst haway p hp hshort => ?wait⟩,
    fun hfree h0 hlate => ?late, fun hfree hnone => ?unknown⟩
  case go =>
    have h0 : token ≠ 0 := fun h => (hsound r hrec).2.2.1 (ht.trans h)
    have hbody : (popAsk s).quiet.takeClaim src token =
        ({ (popAsk s).quiet.gone r b with line := (popAsk s).line.post (.claimReply src token (.go r.id b)) } : State).told
          (if r.state = .ready b then [] else [.earlyShort r.id b p.soc r.target]) := by
      rw [State.takeClaim_found (s := (popAsk s).quiet) htokens hrec ht h0,
        State.answerClaim_go (s := (popAsk s).quiet) hp haway hgo, State.go_eq (s := (popAsk s).quiet) hr.run (hboost.1 b), ht]
      by_cases hready : r.state = .ready b
      · simp only [if_pos hready]
        rfl
      · simp only [if_neg hready]
        rfl
    obtain ⟨t, htake, heq, hraised, -, hasked, -⟩ := State.finish_told (s := s)
      (v := { (popAsk s).quiet.gone r b with line := (popAsk s).line.post (.claimReply src token (.go r.id b)) })
      (ns := if r.state = .ready b then [] else [.earlyShort r.id b p.soc r.target]) none hr.settled fun _ => hr.run
    refine ⟨t, by rw [hexec, hbody, htake], ?_, hasked rfl, hraised⟩
    rw [heq]
    rfl
  case pending =>
    refine hanswered _ ?_
    rw [State.takeClaim_found (s := (popAsk s).quiet) htokens hrec ht h0, State.answerClaim_pending hst, ht]
  case busy =>
    refine hanswered _ ?_
    rw [State.takeClaim_found (s := (popAsk s).quiet) htokens hrec ht h0, State.answerClaim_busy hb hdoor, ht]
  case wait =>
    refine hanswered _ ?_
    rw [State.takeClaim_found (s := (popAsk s).quiet) htokens hrec ht h0,
      State.answerClaim_wait (s := (popAsk s).quiet) hst haway hp hshort, ht]
    rfl
  case late => exact hanswered _ (State.takeClaim_late (s := (popAsk s).quiet) hfree h0 hlate)
  case unknown =>
    rw [hexec, State.takeClaim_unknown (s := (popAsk s).quiet) hfree hnone]
    exact congrArg _ (finish_asks_line hr s.asks _)

end Sys2Proof.Machine
end


section
/-! SUPPORT. The period timer, and a pass overtaken by a fall of the share (R83, R84, R96). -/

namespace Sys2Proof.Machine

open Sys2Proof.Machine.Safety

/-- Settles O48: the request of the timer, and the start of a pass in the event itself. -/
theorem periodAndFallenShareStartPass : Obligations.PeriodAndFallenShareStartPass := by
  intro s hr
  refine ⟨fun hperiod => ?period, fun p hp hfell => ?overtaken⟩
  case period =>
    have hbody : s.quiet.periodEnds = s.quiet.request.told [] := if_pos hperiod
    obtain ⟨t, ht, heq, ⟨hflags, hline⟩, hout, hasked, -⟩ := event_told hr hbody hr.run
    refine ⟨t, ht, ?_, hasked rfl⟩
    rw [heq, hflags, hline, hout, ordersOf_same (by rfl)]
    rfl
  case overtaken =>
    have hbody : s.quiet.completePass = s.quiet.startPass := by
      unfold State.completePass
      rw [State.quiet_plan, hp]
      exact if_pos hfell
    have hexec : exec .passCompletion s = .next (State.finish none s s.quiet.completePass) := event_live hr
    rw [hexec, hbody, State.finish_none none (by rfl), ordersOf_same (by rfl)]
    refine congrArg _ ?_
    have hsettled := hr.settled
    apply State.eq_of_fields <;> simp [State.startPass, State.snapshot, periodMillis, hsettled]
    rfl

end Sys2Proof.Machine
end


section
/-! SUPPORT. The share as it follows its figures, and the clamp that a fall of it brings (R100, R101, R130 to R132). -/

namespace Sys2Proof.Machine

open Sys2Proof.Machine.Safety

/-! ### The bay that gives up power next (R101) -/

theorem mem_of_getLast? {α : Type} {R : α → α → Prop} {l : List α} {w : α} (hl : l.Pairwise R) (hw : l.getLast? = some w) :
    ∀ c ∈ l, c = w ∨ R c w := by
  obtain ⟨init, rfl⟩ := List.getLast?_eq_some_iff.1 hw
  intro c hc
  obtain hc | hc := List.mem_append.1 hc
  · exact .inr ((List.pairwise_append.1 hl).2.2 c hc w (List.mem_singleton.2 rfl))
  · exact .inl (List.mem_singleton.1 hc)

theorem pairwise_idxOf {order : List BayNo} (h : order.Nodup) : order.Pairwise fun a b => order.idxOf a < order.idxOf b := by
  refine List.pairwise_iff_getElem.2 fun i j hi hj hij => ?_
  rw [h.idxOf_getElem, h.idxOf_getElem]
  exact hij

/-- The bay whose setpoint is lowered next is the first to give up power among those that have any. -/
theorem clampVictim_first {order : List BayNo} {v : Vector Bay 12} {w : BayNo} (hn : order.Nodup)
    (h : clampVictim order v = some w) {c : BayNo} (hc : GivesFirst order c w) : v[c].setpoint = 0 := by
  by_contra hc0
  have hpos : 0 < v[c].setpoint := Nat.pos_of_ne_zero hc0
  unfold clampVictim at h
  split at h
  · next w' hw =>
    obtain rfl := Option.some.inj h
    have hsorted : (baysWhere fun b => v[b].setpoint > 0 && b ∉ order).Pairwise (· < ·) :=
      (List.pairwise_lt_finRange 12).filter _
    have hout : w' ∉ order := by
      have := mem_baysWhere.1 (List.mem_of_getLast? hw)
      simp only [Bool.and_eq_true, decide_eq_true_eq] at this
      exact this.2
    obtain ⟨hcout, hlt⟩ | ⟨-, hin, -⟩ := hc
    · have hmem : c ∈ baysWhere fun b => v[b].setpoint > 0 && b ∉ order := mem_baysWhere.2 (by simp [hcout]; exact hpos)
      have hlt' := hlt.resolve_left hout
      obtain rfl | hbefore := mem_of_getLast? hsorted hw c hmem
      · exact lt_irrefl _ hlt'
      · exact lt_asymm hbefore hlt'
    · exact hout hin
  · next hnone =>
    have hin : w ∈ order := (List.mem_filter.1 (List.mem_of_getLast? h)).1
    obtain ⟨hcout, -⟩ | ⟨hcin, -, hlt⟩ := hc
    · have hmem : c ∈ baysWhere fun b => v[b].setpoint > 0 && b ∉ order := mem_baysWhere.2 (by simp [hcout]; exact hpos)
      rw [List.getLast?_eq_none_iff.1 hnone] at hmem
      simp at hmem
    · have hmem : c ∈ order.filter fun b => v[b].setpoint > 0 := List.mem_filter.2 ⟨hcin, by simpa using hpos⟩
      obtain rfl | hbefore := mem_of_getLast? ((pairwise_idxOf hn).filter _) h c hmem
      · exact lt_irrefl _ hlt
      · exact lt_asymm hbefore hlt

/-- Of two bays one gives up power before the other. -/
theorem givesFirst_total (order : List BayNo) {b c : BayNo} (h : b ≠ c) : GivesFirst order b c ∨ GivesFirst order c b := by
  unfold GivesFirst
  by_cases hb : b ∈ order
  · by_cases hc : c ∈ order
    · have hne : order.idxOf b ≠ order.idxOf c := fun heq => h ((List.idxOf_inj hb).1 heq)
      obtain hlt | hlt := Nat.lt_or_gt_of_ne hne
      · exact .inr (.inr ⟨hc, hb, hlt⟩)
      · exact .inl (.inr ⟨hb, hc, hlt⟩)
    · exact .inr (.inl ⟨hc, .inl hb⟩)
  · by_cases hc : c ∈ order
    · exact .inl (.inl ⟨hb, .inl hc⟩)
    · obtain hlt | hlt := lt_or_gt_of_ne h
      · exact .inr (.inl ⟨hc, .inr hlt⟩)
      · exact .inl (.inl ⟨hb, .inr hlt⟩)

/-! ### The setpoints as they are lowered (R100, R101) -/

/-- A setpoint with the last 10 W taken off it given back. -/
def restored (p : Nat) : Nat := if p = 0 then 100 else p + 10

/-- Setpoints on their way down from the scaled ones: what the clamp keeps of them at each step. -/
structure Lowered (cfg : Setup) (share : Nat) (order : List BayNo) (top : BayNo → Nat) (v : Vector Bay 12) : Prop where
  le : ∀ b : BayNo, v[b].setpoint ≤ top b
  grain : ∀ b : BayNo, v[b].setpoint % 10 = 0 ∧ (v[b].setpoint = 0 ∨ 100 ≤ v[b].setpoint)
  chargeable : ∀ b : BayNo, 0 < v[b].setpoint → v[b].chargeable cfg = true
  first : ∀ b : BayNo, v[b].setpoint < top b → ∀ c : BayNo, GivesFirst order c b → v[c].setpoint = 0
  needed : ∀ b : BayNo, v[b].setpoint < top b → (∀ c : BayNo, GivesFirst order b c → v[c].setpoint = top c) →
    share < totalDraw (v.set b { v[b] with setpoint := restored v[b].setpoint } b.isLt)

/-- One lowering. -/
theorem Lowered.step {cfg : Setup} {share : Nat} {order : List BayNo} {top : BayNo → Nat} {v : Vector Bay 12} {w : BayNo}
    (h : Lowered cfg share order top v) (hn : order.Nodup) (hw : clampVictim order v = some w) (hover : share < totalDraw v) :
    Lowered cfg share order top (v.set w (v[w].writeSetpoint cfg (noTrickle (v[w].setpoint - 10))) w.isLt) := by
  have hpos := clampVictim_spec.1 w hw
  have hwrite : v[w].writeSetpoint cfg (noTrickle (v[w].setpoint - 10)) = { v[w] with setpoint := noTrickle (v[w].setpoint - 10) } := by
    unfold Bay.writeSetpoint
    rw [if_pos (h.chargeable w hpos)]
  rw [hwrite]
  generalize hu : v.set w { v[w] with setpoint := noTrickle (v[w].setpoint - 10) } w.isLt = u
  have hself : u[w] = { v[w] with setpoint := noTrickle (v[w].setpoint - 10) } := by
    subst hu
    exact Vector.getElem_set_self _
  have hother : ∀ d : BayNo, d ≠ w → u[d] = v[d] := fun d hd => by
    subst hu
    exact Vector.getElem_set_ne _ _ fun he => hd (Fin.ext he.symm)
  obtain ⟨hmod, hzero⟩ := h.grain w
  have hlow : u[w].setpoint < v[w].setpoint := by
    rw [hself]
    have := noTrickle_le (v[w].setpoint - 10)
    show noTrickle (v[w].setpoint - 10) < v[w].setpoint
    omega
  have hleft : ∀ d : BayNo, v[d].setpoint = 0 → u[d].setpoint = 0 := fun d hd => by
    by_cases hdw : d = w
    · subst hdw
      omega
    · rw [hother d hdw, hd]
  have hnot : ∀ d : BayNo, v[d].setpoint < top d → ¬ GivesFirst order w d := fun d hd hwd => by
    have := h.first d hd w hwd
    omega
  refine ⟨fun b => ?le, fun b => ?grain, fun b hb => ?chargeable, fun b hb c hc => ?first, fun b hb hrest => ?needed⟩
  case le =>
    by_cases hbw : b = w
    · subst hbw
      exact hlow.le.trans (h.le b)
    · rw [hother b hbw]
      exact h.le b
  case grain =>
    by_cases hbw : b = w
    · subst hbw
      rw [hself]
      show noTrickle (v[b].setpoint - 10) % 10 = 0 ∧ (noTrickle (v[b].setpoint - 10) = 0 ∨ 100 ≤ noTrickle (v[b].setpoint - 10))
      unfold noTrickle
      split_ifs <;> omega
    · rw [hother b hbw]
      exact h.grain b
  case chargeable =>
    by_cases hbw : b = w
    · subst hbw
      rw [hself]
      exact h.chargeable b hpos
    · rw [hother b hbw] at hb ⊢
      exact h.chargeable b hb
  case first =>
    by_cases hbw : b = w
    · subst hbw
      exact hleft c (clampVictim_first hn hw hc)
    · rw [hother b hbw] at hb
      exact hleft c (h.first b hb c hc)
  case needed =>
    have hwtop : u[w].setpoint < top w := hlow.trans_le (h.le w)
    by_cases hbw : b = w
    · subst hbw
      have hback : u.set b { u[b] with setpoint := restored u[b].setpoint } b.isLt = v := by
        have hrestored : restored u[b].setpoint = v[b].setpoint := by
          rw [hself]
          show restored (noTrickle (v[b].setpoint - 10)) = v[b].setpoint
          unfold restored noTrickle
          split_ifs <;> omega
        rw [hrestored, hself, ← hu]
        refine Eq.trans (Vector.set_set ..) ?_
        exact Vector.set_getElem_self _
      rw [hback]
      exact hover
    · rw [hother b hbw] at hb
      obtain hbefore | hafter := givesFirst_total order hbw
      · exact absurd (hrest w hbefore) (by omega)
      · exact absurd hafter (hnot b hb)

/-- The clamp's lowering ends within the share, keeping to all of it. -/
theorem Lowered.lowerToShare {cfg : Setup} {share : Nat} {order : List BayNo} {top : BayNo → Nat} {fuel : Nat}
    {v : Vector Bay 12} (h : Lowered cfg share order top v) (hn : order.Nodup) :
    Lowered cfg share order top (lowerToShare cfg share order fuel v) := by
  induction fuel generalizing v with
  | zero => exact h
  | succ n ih =>
    rw [Machine.lowerToShare]
    split
    · exact h
    · next hover =>
      split
      · exact h
      · next w hw => exact ih (h.step hn hw (Nat.lt_of_not_le hover))

theorem scaled_zero (old new : Nat) : scaled old new 0 = 0 := by simp [scaled]

/-- The share-drop clamp keeps to R100 and R101. -/
theorem State.clampShare_clamped {s : State} (old new : Nat) (hset : ∀ b, SetpointSound s.cfg (s.bay b))
    (hn : s.plan.lastOrder.Nodup) :
    ∃ v, s.clampShare old new = { s with bays := v, plan := { s.plan with requested := true } } ∧
      ClampedTo old new s.plan.lastOrder s.bays v := by
  have hscaled : ∀ p, scaleSetpoint old new p = scaled old new p := fun p => rfl
  generalize hu : (Vector.ofFn fun i => (s.bays[i]).writeSetpoint s.cfg (scaleSetpoint old new s.bays[i].setpoint)) = u
  have hbay : ∀ b : BayNo, u[b] = { s.bays[b] with setpoint := scaled old new s.bays[b].setpoint } := fun b => by
    have hwrite : u[b] = (s.bays[b]).writeSetpoint s.cfg (scaled old new s.bays[b].setpoint) := by
      rw [← hu]
      simp [Fin.getElem_fin, hscaled]
    rw [hwrite]
    unfold Bay.writeSetpoint
    by_cases hc : (s.bays[b]).chargeable s.cfg = true
    · rw [if_pos hc]
    · have hzero : (s.bays[b]).setpoint = 0 := (hset b).2.2 (Bool.eq_false_iff.2 hc)
      rw [if_neg hc, hzero, scaled_zero]
  have htop : ∀ b : BayNo, u[b].setpoint = scaled old new s.bays[b].setpoint := fun b => by rw [hbay b]
  have hstart : Lowered s.cfg new s.plan.lastOrder (fun b => u[b].setpoint) u := by
    refine ⟨fun b => le_rfl, fun b => ?_, fun b hb => ?_, fun b hb => absurd hb (lt_irrefl _), fun b hb => absurd hb (lt_irrefl _)⟩
    · rw [hbay b]
      show scaled old new s.bays[b].setpoint % 10 = 0 ∧ (scaled old new s.bays[b].setpoint = 0 ∨ 100 ≤ scaled old new s.bays[b].setpoint)
      unfold scaled
      split_ifs <;> omega
    · by_contra hc
      have hzero : (s.bays[b]).setpoint = 0 := (hset b).2.2 (Bool.eq_false_iff.2 fun h => hc (by rw [hbay b]; exact h))
      rw [htop b, hzero, scaled_zero] at hb
      exact lt_irrefl _ hb
  have hlow := hstart.lowerToShare (fuel := totalSetpoint u) hn
  have hdraw := lowerToShare_draw_le s.cfg new s.plan.lastOrder (le_refl (totalSetpoint u))
  have hbays := lowerToShare_bay s.cfg new s.plan.lastOrder (totalSetpoint u) u
  have hclamp : s.clampShare old new =
      { s with
        bays := lowerToShare s.cfg new s.plan.lastOrder (totalSetpoint u) u
        plan := { s.plan with requested := true } } := by
    rw [State.clampShare]
    dsimp only
    rw [hu]
    rfl
  generalize lowerToShare s.cfg new s.plan.lastOrder (totalSetpoint u) u = v at hlow hdraw hbays hclamp
  refine ⟨v, hclamp, fun b => ⟨?_, htop b ▸ hlow.le b⟩, hdraw, fun b hb => ⟨hlow.first b (by rw [htop b]; exact hb),
    fun hrest => hlow.needed b (by rw [htop b]; exact hb) fun c hc => (hrest c hc).trans (htop c).symm⟩⟩
  obtain ⟨p, -, hv⟩ := hbays b
  rw [hv, hbay b]

/-! ### The share follows its figures (R132) -/

theorem State.told_recomputeShare (ns : List Notice) (s : State) : (s.told ns).recomputeShare = s.recomputeShare.told ns := by
  have haside : ∀ bays plan feed, ({ s.told ns with bays := bays, plan := plan, feed := feed } : State) =
      State.told ns { s with bays := bays, plan := plan, feed := feed } := fun bays plan feed => by
    refine Eq.trans ?_ (State.told_aside ns s bays s.book s.asks plan s.boost feed s.ts s.out).symm
    apply State.eq_of_fields <;> simp
  unfold State.recomputeShare State.clampShare State.request
  simp only [State.told_feed, State.told_cfg, State.told_bays, State.told_plan]
  split_ifs
  · rfl
  · refine Eq.trans ?_ (haside _ _ _)
    apply State.eq_of_fields <;> simp
  · refine Eq.trans ?_ (haside s.bays _ _)
    apply State.eq_of_fields <;> simp

section
variable {s w : State} {f : Feed} (ns : List Notice) (hr : Running s) (hset : ∀ b, SetpointSound s.cfg (s.bay b))
  (hn : s.plan.lastOrder.Nodup) (hshare : f.share = s.feed.share) (hbays : w.bays = s.bays) (hplan : w.plan = s.plan)
  (hcfg : w.cfg = s.cfg) (hpart : w.part = .run)
include hr hset hn hshare hbays hplan hcfg hpart

/-- An event that tells notices and gives the Feed Share Unit new figures. -/
theorem finish_reshared :
    ∃ t, State.finish none s ((({ w with feed := f } : State).told ns).recomputeShare) = t ∧
      t = { w with
        feed := t.feed, bays := t.bays, plan := t.plan, flags := t.flags, line := t.line, out := t.out } ∧
      ShareFollows f s t ∧ Raised ns w t := by
  rw [State.told_recomputeShare]
  have hnew : ({ w with feed := f } : State).feed.shareNow w.cfg = f.shareNow s.cfg := by rw [hcfg]
  have hrun : ∀ v : State, v.part = w.part → v.plan.requested = true → v.part = .run := fun v hv _ => hv.trans hpart
  obtain ⟨hsame, heq⟩ | ⟨hrise, heq⟩ | ⟨hfall, heq⟩ := ({ w with feed := f } : State).recomputeShare_cases
  · have hshare' : f.shareNow s.cfg = s.feed.share := hnew.symm.trans (hsame.trans hshare)
    obtain ⟨t, ht, htv, hraised, -, -, hkept⟩ := State.finish_told (s := s) (v := { w with feed := f }) (ns := ns) none hr.settled
      (hrun _ rfl)
    refine ⟨t, by rw [heq, ht], by rw [htv], ⟨?_, fun _ => ⟨?_, hkept hplan⟩, fun h => ?_, fun h => ?_⟩, hraised⟩
    · rw [htv, hshare', ← hshare]
    · rw [htv]
      exact hbays
    · exact absurd (hshare' ▸ h) (lt_irrefl _)
    · exact absurd (hshare' ▸ h) (lt_irrefl _)
  · have hshare' : s.feed.share < f.shareNow s.cfg := by
      rw [← hnew, ← hshare]
      exact hrise
    let v : State := { w with feed := { f with share := f.shareNow s.cfg }, plan := { w.plan with requested := true } }
    have hv : ({ w with feed := f } : State).recomputeShare = v := by
      rw [heq]
      exact congrArg (fun n => ({ w with feed := { f with share := n }, plan := { w.plan with requested := true } } : State)) hnew
    obtain ⟨t, ht, htv, hraised, -, hasked, -⟩ := State.finish_told (s := s) (v := v) (ns := ns) none hr.settled (hrun _ rfl)
    refine ⟨t, by rw [hv, ht], by rw [htv], ⟨?_, fun h => ?_, fun _ => ⟨?_, hasked ?_⟩, fun h => ?_⟩, hraised⟩
    · rw [htv]
    · omega
    · rw [htv]
      exact hbays
    · rw [← hplan]
    · omega
  · have hshare' : f.shareNow s.cfg < s.feed.share := by
      rw [← hnew, ← hshare]
      exact hfall
    obtain ⟨u, hu, hclamped⟩ := State.clampShare_clamped
      (s := { w with feed := { f with share := f.shareNow s.cfg } }) s.feed.share (f.shareNow s.cfg)
      (fun b => by
        have : ({ w with feed := { f with share := f.shareNow s.cfg } } : State).bay b = s.bay b := congrArg (·[b]) hbays
        rw [this, show ({ w with feed := { f with share := f.shareNow s.cfg } } : State).cfg = s.cfg from hcfg]
        exact hset b)
      (by rw [show ({ w with feed := { f with share := f.shareNow s.cfg } } : State).plan = s.plan from hplan]; exact hn)
    let v : State :=
      { w with bays := u, feed := { f with share := f.shareNow s.cfg }, plan := { w.plan with requested := true } }
    have hv : ({ w with feed := f } : State).recomputeShare = v := by
      rw [heq]
      refine Eq.trans ?_ hu
      rw [show ({ w with feed := f } : State).feed.shareNow ({ w with feed := f } : State).cfg = f.shareNow s.cfg from hnew,
        show ({ w with feed := f } : State).feed.share = s.feed.share from hshare]
    obtain ⟨t, ht, htv, hraised, -, hasked, -⟩ := State.finish_told (s := s) (v := v) (ns := ns) none hr.settled (hrun _ rfl)
    refine ⟨t, by rw [hv, ht], by rw [htv], ⟨?_, fun h => ?_, fun h => ?_, fun _ => ⟨?_, hasked ?_⟩⟩, hraised⟩
    · rw [htv]
    · omega
    · omega
    · have htbays : t.bays = u := congrArg State.bays htv
      rw [htbays, ← hplan, ← hbays]
      exact hclamped
    · rw [← hplan]

end

end Sys2Proof.Machine
end


section
/-! SUPPORT. The site feed, the draw claims and their ages (R121 to R129). -/

namespace Sys2Proof.Machine

open Sys2Proof.Machine.Safety

/-! ### The meter (R121 to R123) -/

theorem State.takeSiteFeed_eq (limit draw : Nat) (s : State) :
    let l := min 250000 limit
    let m := min 500000 draw
    s.takeSiteFeed limit draw =
      (({ s with feed := { s.feed with
          siteLimit := some l, measuredDraw := some m, meterAge := 0, meter := .present, trim := trimStep m l s.feed.trim
          limit := l - s.cfg.reserveMargin } } : State).told
        (if s.feed.meter = .lost then [.meterBack l] else [])).recomputeShare := by
  unfold State.takeSiteFeed
  dsimp only
  split_ifs <;> rfl

theorem State.loseMeter_eq {s : State} (hrun : s.part = .run) (hpresent : s.feed.meter ≠ .lost) (hage : 10000 < s.feed.meterAge) :
    s.loseMeter =
      (({ s with feed := { s.feed with meter := .lost, limit := s.cfg.meterLostLimit } } : State).told
        [.meterLost (s.feed.siteLimit.getD 0) s.cfg.meterLostLimit]).recomputeShare := by
  have hdue : (s.part == .run && s.feed.meterDue) = true := by
    simp [hrun, Feed.meterDue, meterMillis, hpresent, hage]
  unfold State.loseMeter
  rw [if_pos hdue]
  rfl

/-- Settles O51: new figures of the meter, and the share recomputed from them. -/
theorem siteFeedAndMeterLoss : Obligations.SiteFeedAndMeterLoss := by
  intro s hr hset hfeed hplan
  have hn : s.plan.lastOrder.Nodup := hplan.2.2.2
  refine ⟨fun src limit draw rest hq => ?feed, fun hpresent hage => ?lost⟩
  case feed =>
    intro l m trim
    have hexec : exec .siteFeed s = .next (State.finish none s ((popPeer s).quiet.takeSiteFeed limit draw)) :=
      event_fromPeer_inRun hr hq rfl
    obtain ⟨t, ht, heq, hfollows, hraised⟩ := finish_reshared (s := s) (w := (popPeer s).quiet)
      (f := { s.feed with siteLimit := some l, measuredDraw := some m, meterAge := 0, meter := .present, trim := trim
                          limit := l - s.cfg.reserveMargin })
      (if s.feed.meter = .lost then [.meterBack l] else []) hr hset hn rfl rfl rfl rfl hr.run
    refine ⟨t, ?_, heq, hfollows, hraised⟩
    rw [hexec, State.takeSiteFeed_eq]
    exact congrArg _ ht
  case lost =>
    have hexec : exec .meterLost s = .next (State.finish none s s.quiet.loseMeter) := event_live hr
    obtain ⟨t, ht, heq, hfollows, hraised⟩ := finish_reshared (s := s) (w := s.quiet)
      (f := { s.feed with meter := .lost, limit := s.cfg.meterLostLimit })
      [.meterLost (s.feed.siteLimit.getD 0) s.cfg.meterLostLimit] hr hset hn rfl rfl rfl rfl hr.run
    refine ⟨t, ?_, heq, hfollows, hraised⟩
    rw [hexec, State.loseMeter_eq (s := s.quiet) hr.run hpresent hage]
    exact congrArg _ ht

/-! ### The entry that gives up its place (R125) -/

/-- The order in which STALE entries give up their places. -/
def GivesUp (q p : Peer) : Prop := p.age < q.age ∨ (p.age = q.age ∧ q.station ≤ p.station)

theorem givesUpBefore_iff {q p : Peer} : givesUpBefore q p = true ↔ GivesUp q p := by
  unfold givesUpBefore GivesUp
  simp [eq_comm (a := q.age)]

theorem GivesUp.trans {a b c : Peer} (h : GivesUp a b) (h' : GivesUp b c) : GivesUp a c := by
  obtain h | ⟨h, hs⟩ := h
  · obtain h' | ⟨h', -⟩ := h'
    · exact .inl (h'.trans h)
    · exact .inl (h'.trans_lt h)
  · obtain h' | ⟨h', hs'⟩ := h'
    · exact .inl (h'.trans_eq h)
    · exact .inr ⟨h'.trans h, hs.trans hs'⟩

theorem givesUp_of_not {q p : Peer} (h : ¬ GivesUp q p) : GivesUp p q := by
  unfold GivesUp at *
  rw [not_or, not_lt, not_and, not_le] at h
  obtain ⟨hage, hstation⟩ := h
  obtain hlt | heq := hage.lt_or_eq
  · exact .inl hlt
  · exact .inr ⟨heq, (hstation heq.symm).le⟩

theorem displaced_none {l : List Peer} (h : ∀ p ∈ l, p.stale = false) : displaced l = none := by
  induction l with
  | nil => rfl
  | cons p ps ih =>
    obtain ⟨hp, hps⟩ := List.forall_mem_cons.1 h
    rw [displaced, ih hps]
    exact if_neg (by simp [hp])

/-- The entry found is STALE, and before every other STALE one. -/
theorem displaced_some {l : List Peer} (h : ∃ p ∈ l, p.stale = true) :
    ∃ q ∈ l, displaced l = some q ∧ q.stale = true ∧ ∀ p ∈ l, p.stale = true → GivesUp q p := by
  induction l with
  | nil => exact absurd h (by simp)
  | cons p ps ih =>
    by_cases hrest : ∃ q ∈ ps, q.stale = true
    · obtain ⟨q, hq, heq, hstale, hfirst⟩ := ih hrest
      rw [displaced, heq]
      dsimp only
      by_cases hp : (p.stale && givesUpBefore p q) = true
      · obtain ⟨hps, hbefore⟩ := Bool.and_eq_true_iff.1 hp
        refine ⟨p, List.mem_cons_self, if_pos hp, hps, fun r hr hrs => ?_⟩
        obtain rfl | hr := List.mem_cons.1 hr
        · exact .inr ⟨rfl, le_rfl⟩
        · exact (givesUpBefore_iff.1 hbefore).trans (hfirst r hr hrs)
      · refine ⟨q, List.mem_cons_of_mem _ hq, if_neg hp, hstale, fun r hr hrs => ?_⟩
        obtain rfl | hr := List.mem_cons.1 hr
        · exact givesUp_of_not fun hbefore => hp (by rw [hrs, givesUpBefore_iff.2 hbefore]; rfl)
        · exact hfirst r hr hrs
    · have hnone : displaced ps = none := displaced_none fun q hq => by
        by_contra hs
        exact hrest ⟨q, hq, by simpa using hs⟩
      obtain ⟨q, hq, hstale⟩ := h
      obtain rfl | hq := List.mem_cons.1 hq
      · rw [displaced, hnone]
        refine ⟨q, List.mem_cons_self, if_pos hstale, hstale, fun r hr hrs => ?_⟩
        obtain rfl | hr := List.mem_cons.1 hr
        · exact .inr ⟨rfl, le_rfl⟩
        · exact absurd ⟨r, hr, hrs⟩ hrest
      · exact absurd ⟨q, hq, hstale⟩ hrest

/-- With distinct stations it is the one that the rule names. -/
theorem displaced_eq {l : List Peer} {q : Peer} (hn : (l.map (·.station)).Nodup) (hq : q ∈ l) (hstale : q.stale = true)
    (hfirst : ∀ p ∈ l, p.stale = true → p.age < q.age ∨ (p.age = q.age ∧ q.station ≤ p.station)) : displaced l = some q := by
  obtain ⟨d, hd, heq, hdstale, hdfirst⟩ := displaced_some ⟨q, hq, hstale⟩
  have hqd := hfirst d hd hdstale
  have hdq := hdfirst q hq hstale
  have hstation : d.station = q.station := by
    unfold GivesUp at hdq
    refine le_antisymm ?_ ?_
    · exact (hdq.resolve_left (by omega)).2
    · exact (hqd.resolve_left (by omega)).2
  rw [heq, List.inj_on_of_nodup_map hn hd hq hstation]

/-! ### A draw claim (R124 to R126) -/

/-- A share that its figures give is not moved by being recomputed. -/
theorem State.recomputeShare_same {s : State} (h : s.feed.share = s.feed.shareNow s.cfg) : s.recomputeShare = s := if_pos h.symm

/-- The part with other entries, told notices and its share recomputed. -/
def State.reclaimed (ns : List Notice) (ps : List Peer) (s : State) : State :=
  (({ s with feed := { s.feed with peers := ps } } : State).told ns).recomputeShare

section
variable {s : State} {src : Station} (demand priority : Nat)

theorem any_station {ps : List Peer} : (ps.any fun p => decide (p.station = src)) = true ↔ src ∈ ps.map (·.station) := by
  simp [List.mem_map]

theorem State.reclaimed_same {ns : List Notice} (h : s.feed.share = s.feed.shareNow s.cfg) :
    s.reclaimed ns s.feed.peers = s.told ns := by
  rw [State.reclaimed, State.told_recomputeShare]
  exact congrArg (State.told ns) (State.recomputeShare_same h)

theorem State.takeDrawClaim_own (h : src = s.cfg.station) (hshare : s.feed.share = s.feed.shareNow s.cfg) :
    s.takeDrawClaim src demand priority = s.reclaimed [.stationClash demand priority] s.feed.peers := by
  rw [State.reclaimed_same hshare]
  exact if_pos h

variable (hown : src ≠ s.cfg.station)
include hown

theorem State.takeDrawClaim_refreshes (hin : src ∈ s.feed.peers.map (·.station)) :
    s.takeDrawClaim src demand priority =
      s.reclaimed [] (s.feed.peers.map fun p => if p.station = src then ⟨src, demand, min priority demand, 0, false⟩ else p) := by
  unfold State.takeDrawClaim
  rw [if_neg hown, if_pos (any_station.2 hin)]
  rfl

variable (hnew : src ∉ s.feed.peers.map (·.station))
include hnew

theorem State.takeDrawClaim_adds (hroom : s.feed.peers.length < 7) :
    s.takeDrawClaim src demand priority = s.reclaimed [] (s.feed.peers ++ [⟨src, demand, min priority demand, 0, false⟩]) := by
  unfold State.takeDrawClaim State.addPeer
  rw [if_neg hown, if_neg (any_station.not.2 hnew)]
  exact if_pos hroom

variable (hfull : s.feed.peers.length = 7)
include hfull

theorem State.takeDrawClaim_full (hshare : s.feed.share = s.feed.shareNow s.cfg) (h : ∀ p ∈ s.feed.peers, p.stale = false) :
    s.takeDrawClaim src demand priority = s.reclaimed [.peerTableFull src] s.feed.peers := by
  rw [State.reclaimed_same hshare]
  unfold State.takeDrawClaim State.addPeer
  rw [if_neg hown, if_neg (any_station.not.2 hnew)]
  dsimp only
  rw [if_neg (by simp [hfull, peerTableSize]), displaced_none h]
  rfl

theorem State.takeDrawClaim_displaces {q : Peer} (h : displaced s.feed.peers = some q) :
    s.takeDrawClaim src demand priority =
      s.reclaimed [.peerLost q.station]
        (s.feed.peers.filter (·.station ≠ q.station) ++ [⟨src, demand, min priority demand, 0, false⟩]) := by
  unfold State.takeDrawClaim State.addPeer
  rw [if_neg hown, if_neg (any_station.not.2 hnew)]
  dsimp only
  rw [if_neg (by simp [hfull, peerTableSize]), h]
  have haside : ∀ feed : Feed, State.raise (.peerLost q.station) { s with feed := feed } =
      { s.raise (.peerLost q.station) with feed := feed } := fun feed => by
    refine (State.raise_aside (.peerLost q.station) s s.bays s.book s.asks s.plan s.boost feed s.ts s.out).trans ?_
    apply State.eq_of_fields <;> simp
  refine congrArg State.recomputeShare ?_
  refine Eq.trans ?_ (haside _).symm
  rw [haside]
  apply State.eq_of_fields <;> simp [dropPeer, newPeer]

end

/-! ### The ages of the entries (R127) -/

section
variable {s : State} {q : Peer} (hq : q ∈ s.feed.peers)
include hq

theorem State.stalePeer_due (hage : 6000 < q.age) (hfresh : q.stale = false) :
    s.stalePeer q.station =
      s.reclaimed [] (s.feed.peers.map fun p => if p.station = q.station then { p with stale := true } else p) := by
  have hdue : (s.feed.peers.any fun p => p.station == q.station && p.staleDue) = true :=
    List.any_eq_true.2 ⟨q, hq, by simp [Peer.staleDue, hage, hfresh]⟩
  unfold State.stalePeer
  rw [if_pos hdue]
  rfl

theorem State.losePeer_due (hage : 30000 ≤ q.age) :
    s.losePeer q.station = s.reclaimed [.peerLost q.station] (s.feed.peers.filter (·.station ≠ q.station)) := by
  have hdue : (s.feed.peers.any fun p => p.station == q.station && p.lostDue) = true :=
    List.any_eq_true.2 ⟨q, hq, by simp [Peer.lostDue, hage]⟩
  unfold State.losePeer
  rw [if_pos hdue]
  rfl

end

/-- Settles O52: each change of the table, and the share recomputed from it. -/
theorem drawClaimsAndTheirAges : Obligations.DrawClaimsAndTheirAges := by
  intro s hr hset hfeed hplan ps claimed
  have hn : s.plan.lastOrder.Nodup := hplan.2.2.2
  have ⟨_, hshare, _, _, _, _, _, _, _, hstations⟩ := hfeed
  refine ⟨fun src demand priority rest hq => ?claims, fun q hq => ⟨fun hage hfresh => ?stale, fun hage => ?lost⟩, fun htimer => ?timer⟩
  case claims =>
    intro entry
    have hexec : exec .drawClaim s = .next (State.finish none s ((popPeer s).quiet.takeDrawClaim src demand priority)) :=
      event_fromPeer_inRun hr hq rfl
    have hclaimed : ∀ ns ps', (popPeer s).quiet.takeDrawClaim src demand priority = (popPeer s).quiet.reclaimed ns ps' →
        claimed ns ps' := fun ns ps' h => by
      obtain ⟨t, ht, heq, hfollows, hraised⟩ := finish_reshared (s := s) (w := (popPeer s).quiet)
        (f := { s.feed with peers := ps' }) ns hr hset hn rfl rfl rfl rfl hr.run
      refine ⟨t, ?_, heq, hfollows, hraised⟩
      rw [hexec, h]
      exact congrArg _ ht
    refine ⟨fun hown => ?own, fun hown hin => ?refreshed, fun hown hnew hroom => ?added,
      fun hown hnew hfull => ⟨fun hfresh => ?full, fun q hq hstale hfirst => ?displaced⟩⟩
    case own => exact hclaimed _ _ (State.takeDrawClaim_own (s := (popPeer s).quiet) demand priority hown hshare)
    case refreshed => exact hclaimed _ _ (State.takeDrawClaim_refreshes (s := (popPeer s).quiet) demand priority hown hin)
    case added => exact hclaimed _ _ (State.takeDrawClaim_adds (s := (popPeer s).quiet) demand priority hown hnew hroom)
    case full =>
      exact hclaimed _ _ (State.takeDrawClaim_full (s := (popPeer s).quiet) demand priority hown hnew hfull hshare hfresh)
    case displaced =>
      exact hclaimed _ _ (State.takeDrawClaim_displaces (s := (popPeer s).quiet) demand priority hown hnew hfull
        (displaced_eq hstations hq hstale hfirst))
  case stale =>
    have hexec : exec (.peerStale q.station) s = .next (State.finish none s (s.quiet.stalePeer q.station)) := event_live hr
    obtain ⟨t, ht, heq, hfollows, hflags, hline⟩ := finish_reshared (s := s) (w := s.quiet)
      (f := { s.feed with peers := ps.map fun p => if p.station = q.station then { p with stale := true } else p }) []
      hr hset hn rfl rfl rfl rfl hr.run
    refine ⟨t, ?_, ?_, hfollows⟩
    · rw [hexec, State.stalePeer_due (s := s.quiet) hq hage hfresh]
      exact congrArg _ ht
    · rw [heq, hflags, hline]
      rfl
  case lost =>
    have hexec : exec (.peerLost q.station) s = .next (State.finish none s (s.quiet.losePeer q.station)) := event_live hr
    obtain ⟨t, ht, heq, hfollows, hraised⟩ := finish_reshared (s := s) (w := s.quiet)
      (f := { s.feed with peers := ps.filter (·.station ≠ q.station) }) [.peerLost q.station] hr hset hn rfl rfl rfl rfl hr.run
    refine ⟨t, ?_, heq, hfollows, hraised⟩
    rw [hexec, State.losePeer_due (s := s.quiet) hq hage]
    exact congrArg _ ht
  case timer =>
    have hexec : exec .claimTimerExpiry s = .next (State.finish none s s.quiet.claimTimerEnds) := event_live hr
    have hbody : s.quiet.claimTimerEnds =
        { s with
          out := quietOut, line := s.line.post (.drawClaim s.feed.ownDemand s.feed.ownPriority)
          feed := { s.feed with claimTimer := some 2000 } } := by
      unfold State.claimTimerEnds
      rw [if_pos (by exact htimer), State.post_run (s := s.quiet) _ hr.run]
      rfl
    rw [hexec, hbody]
    exact congrArg _ (State.finish_unchanged hr.settled rfl (commandChanged_same rfl))

end Sys2Proof.Machine
end


section
/-! SUPPORT. Templates defined, dropped and come due (R150 to R157). -/

namespace Sys2Proof.Machine

open Sys2Proof.Machine.Safety

/-! ### An event that only tells notices -/

/-- The end of an event that leaves the bays and the planner as they were and tells notices. -/
theorem finish_told_quiet {s v : State} (ns : List Notice) (hr : Running s) (hplan : v.plan = s.plan) (hbays : v.bays = s.bays)
    (hout : v.out = quietOut) :
    ∃ t, State.finish none s (v.told ns) = t ∧ t = { v with flags := t.flags, line := t.line } ∧ Raised ns v t := by
  obtain ⟨t, ht, heq, hraised, hto, -, hkept⟩ := State.finish_told (s := s) (v := v) (ns := ns) none hr.settled fun h => by
    rw [hplan, hr.settled] at h
    exact absurd h (by simp)
  refine ⟨t, ht, ?_, hraised⟩
  rw [heq, hkept hplan, hto, ordersOf_same hbays, ← hplan]
  apply State.eq_of_fields <;> simp [hout, quietOut]

/-! ### Templates defined (R151 to R153) -/

theorem templateNo?_val (i : TemplateNo) : templateNo? (i.val + 1) = some i := by
  unfold templateNo?
  rw [dif_pos ⟨by omega, by omega⟩]
  rfl

theorem templateNo?_none {id : Nat} (h : id = 0 ∨ 8 < id) : templateNo? id = none := dif_neg (by omega)

/-- Settles O53: the context and the template by the fields of the frame. -/
theorem templatesAreDefined : Obligations.TemplatesAreDefined := by
  intro src rest s hr closed told
  have htold : ∀ (c : Instr) (ts : TemplateStore) (n : Notice),
      exec c s = .next (State.finish none s (({ (popAsk s).quiet with ts := ts } : State).told [n])) → told c ts n :=
    fun c ts n hexec => by
      obtain ⟨t, ht, heq, hraised⟩ := finish_told_quiet (s := s) (v := { (popAsk s).quiet with ts := ts }) [n] hr rfl rfl rfl
      exact ⟨t, by rw [hexec, ht], heq, hraised⟩
  refine ⟨fun id hq hc => ⟨fun i hid => ?opens, fun hid => ?badId⟩, fun token cls kept tod target window hq =>
    ⟨fun hc => ?noOpen, fun o ho => ⟨fun hbad => ?badField, fun htoken htod c hcls => ?set⟩⟩, fun o ho hdue => ?timeout⟩
  case opens =>
    have hexec : exec .templateOpen s = .next (State.finish none s ((popAsk s).quiet.openTemplate src id)) :=
      event_fromAsk_addressed hr hq hc rfl
    rw [hexec, hid, State.openTemplate, templateNo?_val]
    exact congrArg _ (State.finish_unchanged hr.settled rfl (commandChanged_same rfl))
  case badId =>
    have hexec : exec .templateOpen s = .next (State.finish none s ((popAsk s).quiet.openTemplate src id)) :=
      event_fromAsk_addressed hr hq hc rfl
    refine htold _ _ _ (hexec.trans ?_)
    rw [State.openTemplate, templateNo?_none hid]
    rfl
  case noOpen =>
    have hexec : exec .templateBody s =
        .next (State.finish none s ((popAsk s).quiet.templateBody src token cls kept tod target window)) :=
      event_fromAsk_inRun hr hq rfl
    refine htold _ _ _ (hexec.trans ?_)
    rw [State.templateBody, show (popAsk s).quiet.ts.contexts[src] = none from hc]
    rfl
  case badField =>
    have hexec : exec .templateBody s =
        .next (State.finish none s ((popAsk s).quiet.templateBody src token cls kept tod target window)) :=
      event_fromAsk_inRun hr hq rfl
    refine htold _ _ _ (hexec.trans ?_)
    rw [State.templateBody, show (popAsk s).quiet.ts.contexts[src] = some o from ho]
    dsimp only
    by_cases hfield : token = 0 ∨ tod ≥ daySeconds
    · rw [if_pos hfield]
      rfl
    · rw [if_neg hfield, dif_neg (by unfold daySeconds at hfield; omega)]
      rfl
  case set =>
    have hexec : exec .templateBody s =
        .next (State.finish none s ((popAsk s).quiet.templateBody src token cls kept tod target window)) :=
      event_fromAsk_inRun hr hq rfl
    refine htold _ _ _ (hexec.trans ?_)
    obtain rfl : c.val = cls := hcls
    rw [State.templateBody, show (popAsk s).quiet.ts.contexts[src] = some o from ho]
    dsimp only
    rw [if_neg (by unfold daySeconds; omega), dif_pos c.isLt]
    rfl
  case timeout =>
    have hexec : exec (.templateContextTimeout src) s = .next (State.finish none s (s.quiet.contextTimesOut src)) := event_live hr
    have hbody : s.quiet.contextTimesOut src =
        ({ s.quiet with ts := closed } : State).told [.templateCancelled src o.template .timeout] := by
      rw [State.contextTimesOut, show s.quiet.ts.contexts[src] = some o from ho]
      dsimp only
      rw [if_pos (by simp [Context.due, hdue]), State.cancelContext, show s.quiet.ts.contexts[src] = some o from ho]
      rfl
    obtain ⟨t, ht, heq, hraised⟩ := finish_told_quiet (s := s) (v := { s.quiet with ts := closed })
      [.templateCancelled src o.template .timeout] hr rfl rfl rfl
    exact ⟨t, by rw [hexec, hbody, ht], heq, hraised⟩

/-! ### Templates dropped (R154) -/

theorem State.emptySlots_slot (p : Template → Bool) (s : State) (i : TemplateNo) :
    (s.emptySlots p).ts.slots[i] = s.ts.slots[i].filter fun x => !p x := by
  simp [State.emptySlots, Fin.getElem_fin]

theorem State.setTemplate_slot (i j : TemplateNo) (x : Option Template) (s : State) :
    (s.setTemplate i x).ts.slots[j] = if i = j then x else s.ts.slots[j] := by
  by_cases h : i = j
  · subst h
    rw [if_pos rfl]
    exact Vector.getElem_set_self _
  · rw [if_neg h]
    exact Vector.getElem_set_ne i.isLt j.isLt fun he => h (Fin.ext he)

theorem State.withTemplate_named {id : Nat} {i : TemplateNo} (h : i.val + 1 = id) (src : Station)
    (f : Option Template → Option Template) (s : State) : s.withTemplate src id f = s.setTemplate i (f s.ts.slots[i]) := by
  subst h
  rw [State.withTemplate, templateNo?_val]

/-- Settles O54: the slots after each mode. -/
theorem templatesAreDropped : Obligations.TemplatesAreDropped := by
  intro src mode id rest s hr hq hc put refused named
  have hexec : ∀ m : DropMode, mode = m.code →
      event (State.fromAsk (takeDrop m)) s = .next (State.finish none s ((popAsk s).quiet.dropTemplates src m id)) :=
    fun m hm => event_fromAsk_addressed hr hq hc (if_pos hm)
  have hput : ∀ (f : Option Template → Option Template) (only : TemplateNo → Prop) (c : Instr) (slots : Vector (Option Template) 8),
      exec c s = .next (State.finish none s { (popAsk s).quiet with ts := { s.ts with slots := slots } }) →
      (∀ i : TemplateNo, only i → slots[i] = f s.ts.slots[i]) → (∀ i : TemplateNo, ¬ only i → slots[i] = s.ts.slots[i]) →
      put f only c := fun f only c slots h honly hother =>
    ⟨_, h.trans (congrArg _ (State.finish_unchanged hr.settled rfl (commandChanged_same rfl))), rfl, honly, hother⟩
  have hnamed : 1 ≤ id → id ≤ 8 → ∃ i : TemplateNo, i.val + 1 = id := fun hlow hhigh =>
    ⟨⟨id - 1, by omega⟩, by show id - 1 + 1 = id; omega⟩
  have hone : ∀ (f : Option Template → Option Template) (c : Instr), 1 ≤ id → id ≤ 8 →
      exec c s = .next (State.finish none s ((popAsk s).quiet.withTemplate src id f)) → put f named c := fun f c hlow hhigh h => by
    obtain ⟨i, hi⟩ := hnamed hlow hhigh
    rw [State.withTemplate_named hi] at h
    refine hput f named c _ h (fun j hj => ?_) fun j hj => ?_
    · obtain rfl : i = j := Fin.ext (by have : j.val + 1 = id := hj; omega)
      exact (State.setTemplate_slot i i _ s).trans (if_pos rfl)
    · exact (State.setTemplate_slot i j _ s).trans (if_neg fun hij => hj (by rw [← hij]; exact hi))
  have hbad : ∀ (f : Option Template → Option Template) (c : Instr), id = 0 ∨ 8 < id →
      exec c s = .next (State.finish none s ((popAsk s).quiet.withTemplate src id f)) → refused c .badId := fun f c hid h => by
    rw [State.withTemplate, templateNo?_none hid] at h
    exact exec_raises hr h
  refine ⟨fun hm => ?temporary, fun hm => ?all, fun hlow hhigh => ⟨fun hm => ?one, fun hm => ?makeTemporary, fun hm => ?makeKept⟩,
    fun hid => ⟨fun hm => ?badOne, fun hm => ?badTemporary, fun hm => ?badKept⟩, fun hm => ?badMode⟩
  case temporary =>
    refine hput (Option.filter fun x => x.kept) (fun _ => True) .templateDropAllTemporary ((popAsk s).quiet.emptySlots fun x => !x.kept).ts.slots (hexec .allTemporary hm) (fun i _ => ?_) fun i hi => absurd trivial hi
    exact (State.emptySlots_slot _ s i).trans (by simp only [Bool.not_not])
  case all =>
    refine hput (fun _ => none) (fun _ => True) .templateDropAll ((popAsk s).quiet.emptySlots fun _ => true).ts.slots (hexec .all hm) (fun i _ => ?_) fun i hi => absurd trivial hi
    exact (State.emptySlots_slot _ s i).trans (by simp)
  case one => exact hone _ .templateDropOne hlow hhigh (hexec .one hm)
  case makeTemporary => exact hone _ .templateDropMakeTemporary hlow hhigh (hexec .makeTemporary hm)
  case makeKept => exact hone _ .templateDropMakeKept hlow hhigh (hexec .makeKept hm)
  case badOne => exact hbad _ .templateDropOne hid (hexec .one hm)
  case badTemporary => exact hbad _ .templateDropMakeTemporary hid (hexec .makeTemporary hm)
  case badKept => exact hbad _ .templateDropMakeKept hid (hexec .makeKept hm)
  case badMode => exact exec_raises hr (event_fromAsk_addressed hr hq hc (if_pos hm))

end Sys2Proof.Machine
end


section
/-! SUPPORT. A template that comes due, and the day roll (R156, R157). -/

namespace Sys2Proof.Machine

open Sys2Proof.Machine.Safety

/-! ### One template come due (R157) -/

/-- The request that a template makes. -/
def Template.request (cfg : Setup) (now : Nat) (i : TemplateNo) (x : Template) : Request :=
  ⟨x.token, x.cls, x.target, now + cfg.templateLead, x.window, .standing i⟩

/-- The record that it makes under an id. -/
def Template.booked (cfg : Setup) (now : Nat) (i : TemplateNo) (x : Template) (id : Nat) : Reservation :=
  ⟨id, x.token, x.cls, max 500 (min 1000 x.target), now + cfg.templateLead,
    now + cfg.templateLead + max 120 (min 3600 x.window), .pending, .standing i, false, false⟩

theorem Template.request_record (cfg : Setup) (now : Nat) (i : TemplateNo) (x : Template) (id : Nat) :
    (x.request cfg now i).record id = x.booked cfg now i id := rfl

/-- What one template that comes due makes of the book, and the notices it brings: R157's cases. -/
structure DueOnce (cfg : Setup) (now : Nat) (i : TemplateNo) (x : Template) (k : Book) (ns : List Notice) (k' : Book) : Prop where
  held : ∀ r ∈ k.records, r.token = x.token →
    ns = [.templateMiss i x.token (if r.origin = .standing i then .previousHeld else .tokenHeld) r.id] ∧ k' = k
  full : (¬ ∃ r ∈ k.records, r.token = x.token) → 32 ≤ k.records.length → ns = [.templateMiss i x.token .bookFull 0] ∧ k' = k
  limit : (¬ ∃ r ∈ k.records, r.token = x.token) → k.records.length < 32 → cfg.commitLimit[x.cls] ≤ k.commit[x.cls] →
    ns = [.templateMiss i x.token .limit 0] ∧ k' = k
  booked : (¬ ∃ r ∈ k.records, r.token = x.token) → k.records.length < 32 → k.commit[x.cls] < cfg.commitLimit[x.cls] →
    ns = [] ∧ ∃ id, k' = k.insert id (x.request cfg now i) ∧ id = k.freeId (k.records.length + 1) k.nextId

/-- The part as a template that comes due for a day leaves it, but for its notices. -/
def State.dueTaken (i : TemplateNo) (x : Template) (k : Book) (s : State) : State :=
  { s with ts := { s.ts with slots := s.ts.slots.set i (some x) i.isLt }, book := k, plan := { s.plan with requested := true } }

theorem State.createRecord_bookFull {s : State} {q : Request} (htoken : q.token ≠ 0)
    (hheld : ¬ ∃ r ∈ s.book.records, r.token = q.token) (hfull : 32 ≤ s.book.records.length) :
    s.createRecord q = (.refused .bookFull, s) := by
  unfold State.createRecord Book.check
  rw [if_neg htoken, if_neg (Book.byToken_isSome.not.2 hheld), if_pos (by exact hfull)]

theorem State.createRecord_limit {s : State} {q : Request} (htoken : q.token ≠ 0)
    (hheld : ¬ ∃ r ∈ s.book.records, r.token = q.token) (hroom : s.book.records.length < 32)
    (hlimit : s.cfg.commitLimit[q.cls] ≤ s.book.commit[q.cls]) : s.createRecord q = (.refused .limit, s) := by
  unfold State.createRecord Book.check
  rw [if_neg htoken, if_neg (Book.byToken_isSome.not.2 hheld), if_neg (by unfold bookSize; omega), if_pos hlimit]

/-- A refusal raises TEMPLATE_MISS with R157's reason and record. -/
theorem State.missOf_tokenHeld {s : State} {i : TemplateNo} {r : Reservation} {token : Nat}
    (hn : (s.book.records.map (·.token)).Nodup) (hr : r ∈ s.book.records) (ht : r.token = token) :
    s.missOf i token .tokenHeld = (if r.origin = .standing i then .previousHeld else .tokenHeld, r.id) := by
  subst ht
  unfold State.missOf
  dsimp only
  cases hfound : s.book.byToken r.token with
  | none => exact absurd rfl (Book.byToken_none.1 hfound r hr)
  | some q =>
    obtain ⟨hq, hqt⟩ := Book.byToken_some hfound
    obtain rfl : q = r := List.inj_on_of_nodup_map hn hq hr hqt
    rfl

section
variable {s : State} {i : TemplateNo} {x : Template} {day : Int} (hi : s.ts.slots[i] = some x)
include hi

/-- A template that has come due for the day is left. -/
theorem State.instantiate_again (h : x.lastDay = some day) : s.instantiate i day = s := by
  rw [State.instantiate, hi]
  exact if_pos h

/-- Any other is taken for the day: the creation it requests, and TEMPLATE_MISS if that is refused. -/
theorem State.instantiate_asks {answer : Created} {u : State} (h : x.lastDay ≠ some day)
    (hc : (s.setTemplate i (some { x with lastDay := some day })).createRecord (x.request s.cfg s.clock.seconds i) = (answer, u)) :
    s.instantiate i day =
      (match answer with
      | .ok _ => u
      | .refused why => u.raise (.templateMiss i x.token (u.missOf i x.token why).1 (u.missOf i x.token why).2)).request := by
  rw [State.instantiate, hi]
  dsimp only
  rw [if_neg h]
  exact congrArg (fun p : Created × State =>
    (match p.1 with
    | .ok _ => p.2
    | .refused why =>
      p.2.raise (.templateMiss i x.token (p.2.missOf i x.token why).1 (p.2.missOf i x.token why).2)).request) hc

/-- A refused creation. -/
theorem State.instantiate_misses {why : CreateRefusal} (h : x.lastDay ≠ some day)
    (hc : (s.setTemplate i (some { x with lastDay := some day })).createRecord (x.request s.cfg s.clock.seconds i) =
      (.refused why, s.setTemplate i (some { x with lastDay := some day }))) :
    s.instantiate i day = (s.dueTaken i { x with lastDay := some day } s.book).told
      [.templateMiss i x.token (s.missOf i x.token why).1 (s.missOf i x.token why).2] := by
  rw [State.instantiate_asks hi h hc]
  exact State.told_request [_] _

/-- R157's cases. -/
theorem State.instantiate_due (hn : (s.book.records.map (·.token)).Nodup) (htoken : x.token ≠ 0) (h : x.lastDay ≠ some day) :
    ∃ ns k, s.instantiate i day = (s.dueTaken i { x with lastDay := some day } k).told ns ∧
      DueOnce s.cfg s.clock.seconds i x s.book ns k := by
  let w := s.setTemplate i (some { x with lastDay := some day })
  by_cases hheld : ∃ r ∈ s.book.records, r.token = x.token
  · obtain ⟨r, hr, ht⟩ := hheld
    have hmiss := State.instantiate_misses hi h (State.createRecord_tokenHeld (s := w) htoken ⟨r, hr, ht⟩)
    rw [State.missOf_tokenHeld hn hr ht] at hmiss
    refine ⟨_, _, hmiss, ⟨fun z hz hzt => ?_, fun hno => absurd ⟨r, hr, ht⟩ hno, fun hno => absurd ⟨r, hr, ht⟩ hno,
      fun hno => absurd ⟨r, hr, ht⟩ hno⟩⟩
    obtain rfl : r = z := List.inj_on_of_nodup_map hn hr hz (ht.trans hzt.symm)
    exact ⟨rfl, rfl⟩
  by_cases hfull : 32 ≤ s.book.records.length
  · have hmiss := State.instantiate_misses hi h (State.createRecord_bookFull (s := w) htoken hheld hfull)
    exact ⟨_, _, hmiss, ⟨fun z hz hzt => absurd ⟨z, hz, hzt⟩ hheld, fun _ _ => ⟨rfl, rfl⟩, fun _ hroom => absurd hroom (by omega),
      fun _ hroom => absurd hroom (by omega)⟩⟩
  by_cases hlimit : s.cfg.commitLimit[x.cls] ≤ s.book.commit[x.cls]
  · have hmiss := State.instantiate_misses hi h (State.createRecord_limit (s := w) htoken hheld (Nat.lt_of_not_le hfull) hlimit)
    exact ⟨_, _, hmiss, ⟨fun z hz hzt => absurd ⟨z, hz, hzt⟩ hheld, fun _ hmost => absurd hmost hfull, fun _ _ _ => ⟨rfl, rfl⟩,
      fun _ _ hroom => absurd hroom (Nat.not_lt.2 hlimit)⟩⟩
  have hgranted := State.createRecord_granted (s := w) (q := x.request s.cfg s.clock.seconds i) htoken hheld
    ⟨Nat.lt_of_not_le hfull, Nat.lt_of_not_le hlimit⟩
  have hmade := State.instantiate_asks hi h hgranted
  exact ⟨[], _, hmade, ⟨fun z hz hzt => absurd ⟨z, hz, hzt⟩ hheld, fun _ hmost => absurd hmost hfull,
    fun _ _ hmost => absurd hmost hlimit, fun _ _ _ => ⟨rfl, _, rfl, rfl⟩⟩⟩

end

/-- Settles O55: the instant taken by the case of R157 that applies, and the day roll. -/
theorem instantAndDayRoll : Obligations.InstantAndDayRoll := by
  intro s hr hbook
  have ⟨_, _, _, htokens, _⟩ := hbook
  refine ⟨?_, fun hdue => ?roll⟩
  case roll =>
    have hexec : exec .dayRoll s = .next (State.finish none s s.quiet.dayRolls) := event_live hr
    have hbody : s.quiet.dayRolls = ({ s.quiet with ts := { s.ts with rollDue := false } } : State).rollDay := if_pos hdue
    rw [hexec, hbody]
    refine ⟨_, congrArg _ (State.finish_unchanged hr.settled rfl (commandChanged_same rfl)), rfl, fun i => ?_⟩
    exact (State.emptySlots_slot _ { s.quiet with ts := { s.ts with rollDue := false } } i).trans (by simp only [Bool.not_not])
  intro i x hi day hpassed htoken taken missed held
  let y : Template := { x with passed := none }
  let z : Template := { x with passed := none, lastDay := some day }
  let w : State := s.quiet.setTemplate i (some y)
  have hexec : exec (.templateInstant i) s = .next (State.finish none s (s.quiet.instantPassed i)) := event_live hr
  have hbody : s.quiet.instantPassed i = w.instantiate i day := by
    rw [State.instantPassed, show s.quiet.ts.slots[i] = some x from hi]
    dsimp only
    rw [hpassed]
  have hslot : w.ts.slots[i] = some y := (State.setTemplate_slot i i _ s.quiet).trans (if_pos rfl)
  refine ⟨fun hagain => ?again, fun hfirst => ?_⟩
  case again =>
    have hsame : y = z := by
      show ({ x with passed := none } : Template) = { x with passed := none, lastDay := some day }
      rw [← hagain]
    rw [hexec, hbody, State.instantiate_again hslot hagain]
    refine congrArg _ (Eq.trans (State.finish_unchanged hr.settled rfl (commandChanged_same rfl)) ?_)
    show s.quiet.setTemplate i (some y) = s.quiet.setTemplate i (some z)
    rw [hsame]
  obtain ⟨ns, k, hdue, hcases⟩ := State.instantiate_due hslot htokens htoken hfirst
  have htaken : w.dueTaken i z k = { taken with book := k, plan := { s.plan with requested := true }, out := quietOut } := by
    have hset : w.ts.slots.set i (some z) i.isLt = taken.ts.slots := Vector.set_set ..
    unfold State.dueTaken
    rw [hset]
    rfl
  obtain ⟨t, ht, heq, hraised, hout, hasked, -⟩ := State.finish_told (s := s) (v := w.dueTaken i z k) (ns := ns) none hr.settled
    fun _ => hr.run
  have hends : exec (.templateInstant i) s = .next t := by rw [hexec, hbody, hdue, ht]
  have hquiet : t.out = quietOut := by
    rw [hout, ordersOf_same (by rfl)]
    rfl
  have ht' : t = { taken with book := k, plan := t.plan, flags := t.flags, line := t.line, out := quietOut } := by
    rw [heq, hquiet, htaken]
  have hmissed : ∀ why holder, ns = [.templateMiss i x.token why holder] ∧ k = s.book → missed why holder :=
    fun why holder ⟨hns, hk⟩ => by
      subst hns hk
      exact ⟨t, hends, ht', hasked rfl, hraised⟩
  refine ⟨fun r hrec hrt => hmissed _ _ (hcases.held r hrec hrt), fun hfree hfull => hmissed _ _ (hcases.full hfree hfull.ge),
    fun hfree hroom hlimit => hmissed _ _ (hcases.limit hfree hroom hlimit), fun hfree hroom => ?_⟩
  obtain ⟨rfl, id, rfl, hid⟩ := hcases.booked hfree hroom.1 hroom.2
  obtain ⟨hflags, hline⟩ := hraised
  refine ⟨t, hends, y.booked s.cfg s.clock.seconds i id, ?_, ?_, rfl, ?_, hasked rfl⟩
  · rw [ht']
    exact mem_insertRecord.2 (.inl rfl)
  · rw [ht', hflags, hline]
    rfl
  · have hgrown := bookGrown_insert (bookSound_iff.1 hbook) (y.request s.cfg s.clock.seconds i)
    rw [show t.book = s.book.insert id (y.request s.cfg s.clock.seconds i) from congrArg State.book ht', hid]
    exact hgrown

end Sys2Proof.Machine
end


section
/-! SUPPORT. The points that a forward jump of the day clock passes, in their order (R156). -/

namespace Sys2Proof.Machine

open Sys2Proof.Machine.Safety

/-! ### The order of the points -/

theorem pointBefore_trans {f : Bool} {a b c : Point} (hab : pointBefore f a b = true) (hbc : pointBefore f b c = true) :
    pointBefore f a c = true := by
  simp only [pointBefore, Bool.or_eq_true, Bool.and_eq_true, decide_eq_true_eq, beq_iff_eq] at *
  obtain hlt | ⟨heq, hab⟩ := hab
  · exact .inl (by omega)
  obtain hlt | ⟨heq', hbc⟩ := hbc
  · exact .inl (by omega)
  refine .inr ⟨heq.trans heq', ?_⟩
  cases a with
  | midnight x => cases b <;> simp_all
  | instant x t =>
    cases b with
    | midnight y => cases c <;> simp_all
    | instant y u =>
      cases c with
      | midnight z => simp_all
      | instant z w => exact decide_eq_true ((of_decide_eq_true hab).trans (of_decide_eq_true hbc))

theorem pointBefore_total {f : Bool} {x : Int} {t : TemplateNo} {b : Point} (h : pointBefore f (.instant x t) b ≠ true) :
    pointBefore f b (.instant x t) = true := by
  simp only [pointBefore, Bool.or_eq_true, Bool.and_eq_true, decide_eq_true_eq, beq_iff_eq, ne_eq, not_or, not_and] at *
  obtain ⟨hlt, heq⟩ := h
  by_cases hsame : b.second = (Point.instant x t).second
  · refine .inr ⟨hsame, ?_⟩
    have := heq hsame.symm
    cases b with
    | midnight y => simp_all
    | instant y u => exact decide_eq_true (le_of_not_ge fun h => this (decide_eq_true h))
  · exact .inl (by omega)

theorem insertPoint_perm (f : Bool) (x : Point) (l : List Point) : (insertPoint f x l).Perm (x :: l) := by
  induction l with
  | nil => exact .refl _
  | cons y ys ih =>
    unfold insertPoint
    split
    · exact .refl _
    · exact (ih.cons y).trans (.swap x y ys)

theorem insertPoint_pairwise {f : Bool} {x : Int} {t : TemplateNo} {l : List Point}
    (h : l.Pairwise fun a b => pointBefore f a b = true) :
    (insertPoint f (.instant x t) l).Pairwise fun a b => pointBefore f a b = true := by
  induction l with
  | nil => simp [insertPoint]
  | cons y ys ih =>
    obtain ⟨hy, hys⟩ := List.pairwise_cons.1 h
    unfold insertPoint
    split
    · next hbefore =>
      refine List.pairwise_cons.2 ⟨fun z hz => ?_, h⟩
      obtain rfl | hz := List.mem_cons.1 hz
      · exact hbefore
      · exact pointBefore_trans hbefore (hy z hz)
    · next hnot =>
      refine List.pairwise_cons.2 ⟨fun z hz => ?_, ih hys⟩
      obtain rfl | hz := List.mem_cons.1 ((insertPoint_perm f _ ys).mem_iff.1 hz)
      · exact pointBefore_total hnot
      · exact hy z hz

/-- Points in the order in which a jump takes them: by their seconds, and the instants of one second by their template ids, each
template having one instant at most. -/
def InOrder (p q : Point) : Prop :=
  p.second ≤ q.second ∧
  ∀ x t y u, p = .instant x t → q = .instant y u → t ≠ u ∧ (x < y ∨ (x = y ∧ t < u))

/-- Whether two points are not instants of one template. -/
def Apart (p q : Point) : Prop := ∀ x t y u, p = .instant x t → q = .instant y u → t ≠ u

theorem foldr_insertPoint {f : Bool} {l m : List Point} (hl : ∀ p ∈ l, ∃ x t, p = .instant x t)
    (hm : m.Pairwise fun a b => pointBefore f a b = true) :
    (l.foldr (insertPoint f) m).Perm (l ++ m) ∧ (l.foldr (insertPoint f) m).Pairwise fun a b => pointBefore f a b = true := by
  induction l with
  | nil => exact ⟨.refl _, hm⟩
  | cons p ps ih =>
    obtain ⟨hp, hps⟩ := List.forall_mem_cons.1 hl
    obtain ⟨x, t, rfl⟩ := hp
    obtain ⟨hperm, hsorted⟩ := ih hps
    exact ⟨(insertPoint_perm f _ _).trans (hperm.cons _), insertPoint_pairwise hsorted⟩

/-! ### The points of a jump -/

/-- A second is the next of a template's instant. -/
theorem nextAt_instant {cfg : Setup} {x : Template} {l k : Int} (hlow : l < k) (hhigh : k ≤ l + 86400)
    (hmod : (k - (x.todOpen - cfg.templateLead)) % 86400 = 0) : nextAt l (x.instant cfg) = k := by
  unfold nextAt Template.instant daySeconds
  omega

theorem nextAt_spec (cfg : Setup) (x : Template) (l : Int) :
    l < nextAt l (x.instant cfg) ∧ (nextAt l (x.instant cfg) - (x.todOpen - cfg.templateLead)) % 86400 = 0 := by
  unfold nextAt Template.instant daySeconds
  omega

theorem nextAt_midnight (l : Int) : nextAt l 0 = l / 86400 * 86400 + 86400 := by
  unfold nextAt daySeconds
  omega

/-- The instant of a template, if a jump from `l` by `d` passes it. -/
def State.instantPoint (l d : Int) (s : State) (t : TemplateNo) : Option Point :=
  (s.ts.slots[t]).bind fun x =>
    if nextAt l (x.instant s.cfg) ≤ l + d then some (Point.instant (nextAt l (x.instant s.cfg)) t) else none

theorem State.instantPoint_eq_some {l d : Int} {s : State} {t : TemplateNo} {p : Point} :
    s.instantPoint l d t = some p ↔
      ∃ x, s.ts.slots[t] = some x ∧ nextAt l (x.instant s.cfg) ≤ l + d ∧ p = .instant (nextAt l (x.instant s.cfg)) t := by
  unfold State.instantPoint
  rw [Option.bind_eq_some_iff]
  refine exists_congr fun x => and_congr_right fun _ => ?_
  rw [Option.ite_none_right_eq_some, Option.some_inj, eq_comm (a := p)]

/-- The points that a jump passes. -/
theorem State.jumpPoints_spec (l d : Int) (s : State) :
    (∀ p, p ∈ s.jumpPoints l d ↔ (∃ t, s.instantPoint l d t = some p) ∨ (p = .midnight (nextAt l 0) ∧ nextAt l 0 ≤ l + d)) ∧
    (s.jumpPoints l d).Pairwise InOrder := by
  let instants := allTemplates.filterMap (s.instantPoint l d)
  let midnights : List Point := if nextAt l 0 ≤ l + d then [.midnight (nextAt l 0)] else []
  have hjump : s.jumpPoints l d = instants.foldr (insertPoint (Config.rollFirst s.free))
      (midnights.foldr (insertPoint (Config.rollFirst s.free)) []) := List.foldr_append
  have hmid : midnights.foldr (insertPoint (Config.rollFirst s.free)) [] = midnights := by
    unfold midnights
    split_ifs <;> rfl
  have hinstants : ∀ p ∈ instants, ∃ x t, p = Point.instant x t := fun p hp => by
    obtain ⟨t, -, ht⟩ := List.mem_filterMap.1 hp
    obtain ⟨x, -, -, rfl⟩ := State.instantPoint_eq_some.1 ht
    exact ⟨_, _, rfl⟩
  obtain ⟨hperm, hsorted⟩ := foldr_insertPoint (f := Config.rollFirst s.free) (m := midnights) hinstants (by
    unfold midnights
    split_ifs <;> simp)
  rw [hjump, hmid]
  generalize instants.foldr (insertPoint (Config.rollFirst s.free)) midnights = pts at hperm hsorted
  refine ⟨fun p => ?_, ?_⟩
  · rw [hperm.mem_iff, List.mem_append, List.mem_filterMap]
    refine or_congr ⟨fun ⟨t, _, h⟩ => ⟨t, h⟩, fun ⟨t, h⟩ => ⟨t, List.mem_finRange t, h⟩⟩ ?_
    unfold midnights
    split_ifs with h <;> simp [h]
  · have hsymm : ∀ {p q : Point}, Apart p q → Apart q p := fun h x t y u hp hq => (h y u x t hq hp).symm
    have hone : instants.Pairwise Apart := by
      refine List.pairwise_filterMap.2 ((List.nodup_finRange 8).imp fun {t u} htu p hp q hq x t' y u' hpx hqy => ?_)
      obtain ⟨_, -, -, rfl⟩ := State.instantPoint_eq_some.1 hp
      obtain ⟨_, -, -, rfl⟩ := State.instantPoint_eq_some.1 hq
      obtain ⟨-, rfl⟩ := Point.instant.inj hpx
      obtain ⟨-, rfl⟩ := Point.instant.inj hqy
      exact htu
    have hapart : pts.Pairwise Apart := by
      refine (hperm.pairwise_iff hsymm).2 (List.pairwise_append.2 ⟨hone, ?_, fun p _ q hq x t y u _ hqy => ?_⟩)
      · unfold midnights
        split_ifs <;> simp
      · unfold midnights at hq
        split_ifs at hq
        · rw [List.mem_singleton.1 hq] at hqy
          exact absurd hqy (by simp)
        · exact absurd hq (by simp)
    refine hsorted.imp₂ (fun p q hbefore hap => ⟨?_, fun x t y u hp hq => ?_⟩) hapart
    · simp only [pointBefore, Bool.or_eq_true, Bool.and_eq_true, decide_eq_true_eq, beq_iff_eq] at hbefore
      omega
    · refine ⟨hap x t y u hp hq, ?_⟩
      subst hp hq
      have hne := hap x t y u rfl rfl
      simp only [pointBefore, Point.second, Bool.or_eq_true, Bool.and_eq_true, decide_eq_true_eq, beq_iff_eq] at hbefore
      exact hbefore.imp of_decide_eq_true fun ⟨heq, hle⟩ => ⟨heq, lt_of_le_of_ne hle hne⟩

end Sys2Proof.Machine
end


section
/-! SUPPORT. What a forward jump leaves of the templates, and those that come due in it (R156, R157). -/

namespace Sys2Proof.Machine

open Sys2Proof.Machine.Safety

/-- The content of the eight template slots. -/
abbrev Slots := Vector (Option Template) 8

/-! ### The slots after a jump (R156) -/

/-- The slots after the day roll. -/
def Slots.rolled (S : Slots) : Slots := Vector.ofFn fun i => S[i].filter fun x => x.kept

/-- The slots after an instant: its template notes the day. -/
def Slots.noted (i : TemplateNo) (day : Int) (S : Slots) : Slots :=
  S.set i (S[i].map fun x => { x with lastDay := some day }) i.isLt

/-- The slots after one point. -/
def Slots.passed (S : Slots) : Point → Slots
  | .instant k i => Slots.noted i (dayNumber k) S
  | .midnight _ => Slots.rolled S

/-- The slots after a jump. -/
def slotsAfter (pts : List Point) (S : Slots) : Slots := pts.foldl Slots.passed S

/-- The templates that come due in a jump, each with its second. -/
def duePoints : List Point → Slots → List (Int × TemplateNo × Template)
  | [], _ => []
  | .midnight m :: ps, S => duePoints ps (Slots.passed S (.midnight m))
  | .instant k i :: ps, S =>
    (match S[i] with
    | some x => if x.lastDay = some (dayNumber k) then [] else [(k, i, x)]
    | none => []) ++ duePoints ps (Slots.passed S (.instant k i))

theorem rolled_slot (S : Slots) (i : TemplateNo) : (Slots.rolled S)[i] = S[i].filter fun x => x.kept := by
  simp [Slots.rolled, Fin.getElem_fin]

theorem noted_slot (S : Slots) (i j : TemplateNo) (day : Int) :
    (Slots.noted i day S)[j] = if i = j then S[i].map (fun x => { x with lastDay := some day }) else S[j] := by
  by_cases h : i = j
  · subst h
    rw [if_pos rfl]
    exact Vector.getElem_set_self _
  · rw [if_neg h]
    exact Vector.getElem_set_ne i.isLt j.isLt fun he => h (Fin.ext he)

/-- A slot that holds a template which the jump neither drops nor passes keeps it. -/
theorem slotsAfter_keeps {pts : List Point} {S : Slots} {i : TemplateNo} {x : Template} (hi : S[i] = some x)
    (hkept : x.kept = true ∨ ∀ m, Point.midnight m ∉ pts) (hout : ∀ k, Point.instant k i ∉ pts) :
    (slotsAfter pts S)[i] = some x := by
  induction pts generalizing S with
  | nil => exact hi
  | cons p ps ih =>
    refine ih (S := Slots.passed S p) ?_ (hkept.imp_right fun h m hm => h m (List.mem_cons_of_mem _ hm)) fun k hk =>
      hout k (List.mem_cons_of_mem _ hk)
    cases p with
    | instant k j =>
      have hne : j ≠ i := fun h => hout k (by rw [h]; exact List.mem_cons_self)
      exact (noted_slot S j i _).trans ((if_neg hne).trans hi)
    | midnight m =>
      have hk : x.kept = true := hkept.resolve_right fun h => h m List.mem_cons_self
      exact (rolled_slot S i).trans (by rw [hi, Option.filter_some, if_pos hk])

/-- A slot that holds no template stays free. -/
theorem slotsAfter_none {pts : List Point} {S : Slots} {i : TemplateNo} (hi : S[i] = none) : (slotsAfter pts S)[i] = none := by
  induction pts generalizing S with
  | nil => exact hi
  | cons p ps ih =>
    refine ih (S := Slots.passed S p) ?_
    cases p with
    | instant k j =>
      refine (noted_slot S j i _).trans ?_
      split
      · next h => rw [h, hi]; rfl
      · exact hi
    | midnight m => exact (rolled_slot S i).trans (by rw [hi]; rfl)

/-- A TEMPORARY template is gone once a midnight is passed. -/
theorem slotsAfter_dropped {pts : List Point} {S : Slots} {i : TemplateNo} {x : Template} {m : Int} (hi : S[i] = some x)
    (hkept : x.kept = false) (hm : Point.midnight m ∈ pts) : (slotsAfter pts S)[i] = none := by
  induction pts generalizing S x with
  | nil => exact absurd hm (by simp)
  | cons p ps ih =>
    cases p with
    | midnight m' =>
      refine slotsAfter_none (S := Slots.rolled S) ((rolled_slot S i).trans ?_)
      rw [hi, Option.filter_some, if_neg (by simp [hkept])]
    | instant k j =>
      have hm' : Point.midnight m ∈ ps := (List.mem_cons.1 hm).resolve_left (by simp)
      by_cases h : j = i
      · subst h
        exact ih (S := Slots.noted j (dayNumber k) S) (x := { x with lastDay := some (dayNumber k) })
          ((noted_slot S j j _).trans (by rw [if_pos rfl, hi]; rfl)) hkept hm'
      · exact ih (S := Slots.noted j (dayNumber k) S) ((noted_slot S j i _).trans ((if_neg h).trans hi)) hkept hm'

/-- A template whose instant is passed, and which stays, notes the day. -/
theorem slotsAfter_noted {pts : List Point} {S : Slots} {i : TemplateNo} {x : Template} {k : Int} (hi : S[i] = some x)
    (hkept : x.kept = true ∨ ∀ m, Point.midnight m ∉ pts) (horder : pts.Pairwise InOrder) (hk : Point.instant k i ∈ pts) :
    (slotsAfter pts S)[i] = some { x with lastDay := some (dayNumber k) } := by
  induction pts generalizing S with
  | nil => exact absurd hk (by simp)
  | cons p ps ih =>
    obtain ⟨hp, hps⟩ := List.pairwise_cons.1 horder
    have hkept' : x.kept = true ∨ ∀ m, Point.midnight m ∉ ps := hkept.imp_right fun h m hm => h m (List.mem_cons_of_mem _ hm)
    obtain rfl | hin := List.mem_cons.1 hk
    · refine slotsAfter_keeps (S := Slots.noted i (dayNumber k) S) ((noted_slot S i i _).trans ?_) hkept' fun k' hk' =>
        (hp _ hk').2 k i k' i rfl rfl |>.1 rfl
      rw [if_pos rfl, hi]
      rfl
    · refine ih (S := Slots.passed S p) ?_ hkept' hps hin
      cases p with
      | instant k' j =>
        have hne : j ≠ i := ((hp _ hin).2 k' j k i rfl rfl).1
        exact (noted_slot S j i _).trans ((if_neg hne).trans hi)
      | midnight m =>
        have hx : x.kept = true := hkept.resolve_right fun h => h m List.mem_cons_self
        exact (rolled_slot S i).trans (by rw [hi, Option.filter_some, if_pos hx])

/-! ### The templates that come due (R157) -/

/-- A template that comes due is one of those before the jump, at its instant, with no midnight before it if it is TEMPORARY. -/
theorem duePoints_mem {pts : List Point} {S : Slots} {k : Int} {i : TemplateNo} {x : Template} (horder : pts.Pairwise InOrder)
    (h : (k, i, x) ∈ duePoints pts S) :
    Point.instant k i ∈ pts ∧ S[i] = some x ∧ x.lastDay ≠ some (dayNumber k) ∧
      (x.kept = true ∨ ∀ m, Point.midnight m ∈ pts → k ≤ m) := by
  induction pts generalizing S with
  | nil => exact absurd h (by simp [duePoints])
  | cons p ps ih =>
    obtain ⟨hp, hps⟩ := List.pairwise_cons.1 horder
    cases p with
    | midnight m =>
      obtain ⟨hk, hi, hday, -⟩ := ih hps h
      have hi' : S[i].filter (fun x => x.kept) = some x := (rolled_slot S i).symm.trans hi
      obtain ⟨hS, hkept⟩ := Option.filter_eq_some_iff.1 hi'
      exact ⟨List.mem_cons_of_mem _ hk, hS, hday, .inl hkept⟩
    | instant k' j =>
      have hrest : ∀ m, Point.midnight m ∈ Point.instant k' j :: ps → Point.midnight m ∈ ps := fun m hm =>
        (List.mem_cons.1 hm).resolve_left (by simp)
      obtain h | h := List.mem_append.1 h
      · cases hj : S[j] with
        | none =>
          rw [hj] at h
          exact absurd h (by simp)
        | some y =>
          rw [hj] at h
          dsimp only at h
          split_ifs at h with hday
          · exact absurd h (by simp)
          · obtain ⟨rfl, hix⟩ := Prod.mk.inj (List.mem_singleton.1 h)
            obtain ⟨rfl, rfl⟩ := Prod.mk.inj hix
            exact ⟨List.mem_cons_self, hj, hday, .inr fun m hm => (hp _ (hrest m hm)).1⟩
      · obtain ⟨hk, hi, hday, hkept⟩ := ih hps h
        have hne : j ≠ i := ((hp _ hk).2 k' j k i rfl rfl).1
        exact ⟨List.mem_cons_of_mem _ hk, (if_neg hne).symm.trans ((noted_slot S j i _).symm.trans hi), hday,
          hkept.imp_right fun hm m hmem => hm m (hrest m hmem)⟩

/-- Every template passed comes due but for those already due that day and those gone before. -/
theorem mem_duePoints {pts : List Point} {S : Slots} {k : Int} {i : TemplateNo} {x : Template} (horder : pts.Pairwise InOrder)
    (hk : Point.instant k i ∈ pts) (hi : S[i] = some x) (hday : x.lastDay ≠ some (dayNumber k))
    (hkept : x.kept = true ∨ ∀ m, Point.midnight m ∈ pts → k < m) : (k, i, x) ∈ duePoints pts S := by
  induction pts generalizing S with
  | nil => exact absurd hk (by simp)
  | cons p ps ih =>
    obtain ⟨hp, hps⟩ := List.pairwise_cons.1 horder
    have hkept' : x.kept = true ∨ ∀ m, Point.midnight m ∈ ps → k < m :=
      hkept.imp_right fun h m hm => h m (List.mem_cons_of_mem _ hm)
    obtain rfl | hin := List.mem_cons.1 hk
    · refine List.mem_append.2 (.inl ?_)
      rw [hi]
      dsimp only
      rw [if_neg hday]
      exact List.mem_singleton.2 rfl
    · cases p with
      | instant k' j =>
        have hne : j ≠ i := ((hp _ hin).2 k' j k i rfl rfl).1
        exact List.mem_append.2 (.inr (ih (S := Slots.noted j (dayNumber k') S) hps hin
          ((noted_slot S j i _).trans ((if_neg hne).trans hi)) hkept'))
      | midnight m =>
        have hx : x.kept = true := hkept.resolve_right fun h => by
          have hlt := h m List.mem_cons_self
          have hle : (Point.midnight m).second ≤ (Point.instant k i).second := (hp _ hin).1
          simp only [Point.second] at hle
          omega
        exact ih (S := Slots.rolled S) hps hin ((rolled_slot S i).trans (by rw [hi, Option.filter_some, if_pos hx])) hkept'

/-- They come due in the order of their instants and then of their ids. -/
theorem duePoints_pairwise {pts : List Point} {S : Slots} (horder : pts.Pairwise InOrder) :
    (duePoints pts S).Pairwise fun p q => p.1 < q.1 ∨ (p.1 = q.1 ∧ p.2.1 < q.2.1) := by
  induction pts generalizing S with
  | nil => exact .nil
  | cons p ps ih =>
    obtain ⟨hp, hps⟩ := List.pairwise_cons.1 horder
    cases p with
    | midnight m => exact ih hps
    | instant k j =>
      refine List.pairwise_append.2 ⟨?_, ih hps, fun a ha b hb => ?_⟩
      · split
        · split_ifs <;> simp
        · exact .nil
      · obtain ⟨hkb, -⟩ := duePoints_mem hps hb
        have hka : a.1 = k ∧ a.2.1 = j := by
          split at ha
          · split_ifs at ha
            · exact absurd ha (by simp)
            · rw [List.mem_singleton.1 ha]
              exact ⟨rfl, rfl⟩
          · exact absurd ha (by simp)
        obtain ⟨hak, haj⟩ := hka
        rw [hak, haj]
        exact ((hp _ hkb).2 k j b.1 b.2.1 rfl rfl).2

end Sys2Proof.Machine
end


section
/-! SUPPORT. The points of a forward jump taken one after another: the slots, and the records and notices of the templates that
come due (R156, R157). -/

namespace Sys2Proof.Machine

open Sys2Proof.Machine.Safety

/-! ### The book as templates come due (R157) -/

/-- A template that comes due leaves the book sound. -/
theorem DueOnce.bookOk {cfg : Setup} {now : Nat} {i : TemplateNo} {x : Template} {k k' : Book} {ns : List Notice}
    (h : DueOnce cfg now i x k ns k') (htoken : x.token ≠ 0) (hk : BookOk cfg k) : BookOk cfg k' := by
  by_cases hheld : ∃ r ∈ k.records, r.token = x.token
  · obtain ⟨r, hr, ht⟩ := hheld
    rw [(h.held r hr ht).2]
    exact hk
  by_cases hfull : 32 ≤ k.records.length
  · rw [(h.full hheld hfull).2]
    exact hk
  by_cases hlimit : cfg.commitLimit[x.cls] ≤ k.commit[x.cls]
  · rw [(h.limit hheld (Nat.lt_of_not_le hfull) hlimit).2]
    exact hk
  obtain ⟨-, id, rfl, rfl⟩ := h.booked hheld (Nat.lt_of_not_le hfull) (Nat.lt_of_not_le hlimit)
  exact bookOk_insert (Book.check_none.2 ⟨htoken, fun r hr ht => hheld ⟨r, hr, ht⟩, Nat.lt_of_not_le hfull,
    Nat.lt_of_not_le hlimit⟩) hk

/-- A template that comes due before others. -/
theorem comeDue_cons {cfg : Setup} {now : Nat} {i : TemplateNo} {x : Template} {rest : List (TemplateNo × Template)}
    {k k' k'' : Book} {ns ms : List Notice} (h : DueOnce cfg now i x k ns k') (hk : BookOk cfg k)
    (hrest : ComeDue cfg now rest k' ms k'') : ComeDue cfg now ((i, x) :: rest) k (ns ++ ms) k'' := by
  have hmissed : ∀ n, ns = [n] ∧ k' = k → (ns ++ ms).head? = some n ∧ ComeDue cfg now rest k (ns ++ ms).tail k'' :=
    fun n ⟨hns, hk'⟩ => by
      subst hns hk'
      exact ⟨rfl, hrest⟩
  refine ⟨fun r hr ht => hmissed _ (h.held r hr ht), fun hheld hfull => hmissed _ (h.full hheld hfull),
    fun hheld hlen hroom => hmissed _ (h.limit hheld hlen (Nat.le_of_not_lt fun hlt => hroom ⟨hlen, hlt⟩)),
    fun hheld ⟨hlen, hlimit⟩ => ?_⟩
  obtain ⟨rfl, id, rfl, hid⟩ := h.booked hheld hlen hlimit
  refine ⟨_, hrest, x.booked cfg now i id, mem_insertRecord.2 (.inl rfl), rfl, ?_⟩
  rw [hid]
  exact bookGrown_insert hk (x.request cfg now i)

/-- Templates that come due keep the records of the book, and add one each at most. -/
theorem comeDue_records {cfg : Setup} {now : Nat} {due : List (TemplateNo × Template)} {k k' : Book} {ns : List Notice}
    (h : ComeDue cfg now due k ns k') :
    (∀ r ∈ k.records, r ∈ k'.records) ∧
    ∀ r ∈ k'.records, r ∉ k.records → ∃ i x, (i, x) ∈ due ∧ r = Template.booked cfg now i x r.id := by
  induction due generalizing k ns with
  | nil =>
    obtain ⟨-, rfl⟩ := h
    exact ⟨fun _ hr => hr, fun r hr hnew => absurd hr hnew⟩
  | cons p rest ih =>
    obtain ⟨i, x⟩ := p
    obtain ⟨hheld, hfull, hlimit, hmade⟩ := h
    have hmissed : ∀ {ms}, ComeDue cfg now rest k ms k' → (∀ r ∈ k.records, r ∈ k'.records) ∧
        ∀ r ∈ k'.records, r ∉ k.records → ∃ j y, (j, y) ∈ (i, x) :: rest ∧ r = Template.booked cfg now j y r.id := fun hd => by
      obtain ⟨hkeep, hnew⟩ := ih hd
      refine ⟨hkeep, fun r hr hr' => ?_⟩
      obtain ⟨j, y, hmem, heq⟩ := hnew r hr hr'
      exact ⟨j, y, List.mem_cons_of_mem _ hmem, heq⟩
    by_cases hh : ∃ r ∈ k.records, r.token = x.token
    · obtain ⟨r, hr, ht⟩ := hh
      exact hmissed (hheld r hr ht).2
    by_cases hf : 32 ≤ k.records.length
    · exact hmissed (hfull hh hf).2
    by_cases hroom : k.records.length < 32 ∧ k.commit[x.cls] < cfg.commitLimit[x.cls]
    · obtain ⟨k1, hd, rec, -, hrec, -, hperm, -⟩ := hmade hh hroom
      obtain ⟨hkeep, hnew⟩ := ih hd
      refine ⟨fun r hr => hkeep r (hperm.mem_iff.2 (List.mem_cons_of_mem _ hr)), fun r hr hr' => ?_⟩
      by_cases hmem : r ∈ k1.records
      · obtain rfl : r = rec := (List.mem_cons.1 (hperm.mem_iff.1 hmem)).resolve_right hr'
        exact ⟨i, x, List.mem_cons_self, hrec⟩
      · obtain ⟨j, y, hin, heq⟩ := hnew r hr hmem
        exact ⟨j, y, List.mem_cons_of_mem _ hin, heq⟩
    · exact hmissed (hlimit hh (Nat.lt_of_not_le hf) hroom).2

/-! ### The points taken one after another (R156) -/

/-- The part after the points of a jump, but for its notices. -/
def State.jumped (pts : List Point) (k : Book) (u : State) : State :=
  { u with
    ts := { u.ts with slots := slotsAfter pts u.ts.slots }, book := k
    plan := if duePoints pts u.ts.slots = [] then u.plan else { u.plan with requested := true } }

theorem State.rollDay_eq (u : State) : u.rollDay = { u with ts := { u.ts with slots := Slots.rolled u.ts.slots } } := by
  simp [State.rollDay, State.emptySlots, Slots.rolled]

theorem State.told_rollDay (ns : List Notice) (u : State) : (u.told ns).rollDay = u.rollDay.told ns := by
  rw [State.rollDay_eq, State.rollDay_eq]
  refine Eq.trans ?_ (State.told_aside ns u u.bays u.book u.asks u.plan u.boost u.feed _ u.out).symm
  apply State.eq_of_fields <;> simp

theorem State.told_dueTaken (ns : List Notice) (i : TemplateNo) (x : Template) (k : Book) (u : State) :
    (u.told ns).dueTaken i x k = (u.dueTaken i x k).told ns := by
  refine Eq.trans ?_ (State.told_aside ns u u.bays k u.asks _ u.boost u.feed _ u.out).symm
  apply State.eq_of_fields <;> simp [State.dueTaken]

/-- An instant of a free slot, or of a template that has come due that day, changes no slot. -/
theorem noted_same {S : Slots} {i : TemplateNo} {day : Int} (h : ∀ x, S[i] = some x → x.lastDay = some day) :
    Slots.noted i day S = S := by
  have hsame : S[i].map (fun x => ({ x with lastDay := some day } : Template)) = S[i] := by
    cases hi : S[i] with
    | none => rfl
    | some x =>
      have hx := h x hi
      show some { x with lastDay := some day } = some x
      rw [← hx]
  unfold Slots.noted
  rw [hsame]
  exact Vector.set_getElem_self _

/-- The points of a jump, taken one after another. -/
theorem State.passPoints {pts : List Point} {u : State} (ms : List Notice) (hbook : BookOk u.cfg u.book)
    (htokens : ∀ (i : TemplateNo) (x : Template), u.ts.slots[i] = some x → x.token ≠ 0) :
    ∃ ns k, pts.foldl State.passPoint (u.told ms) = (u.jumped pts k).told (ms ++ ns) ∧
      ComeDue u.cfg u.clock.seconds ((duePoints pts u.ts.slots).map (·.2)) u.book ns k := by
  induction pts generalizing u ms with
  | nil => exact ⟨[], u.book, by rw [List.append_nil]; rfl, rfl, rfl⟩
  | cons p ps ih =>
    cases p with
    | midnight m =>
      let v : State := { u with ts := { u.ts with slots := Slots.rolled u.ts.slots } }
      obtain ⟨ns, k, hfold, hdue⟩ := ih (u := v) ms hbook fun i x hi =>
        htokens i x (Option.filter_eq_some_iff.1 ((rolled_slot u.ts.slots i).symm.trans hi)).1
      refine ⟨ns, k, Eq.trans ?_ hfold, hdue⟩
      show ps.foldl State.passPoint (u.told ms).rollDay = _
      rw [State.told_rollDay, State.rollDay_eq]
    | instant sec i =>
      have hskip : (∀ x, u.ts.slots[i] = some x → x.lastDay = some (dayNumber sec)) →
          (u.told ms).instantiate i (dayNumber sec) = u.told ms →
          ∃ ns k, (Point.instant sec i :: ps).foldl State.passPoint (u.told ms) =
              (u.jumped (.instant sec i :: ps) k).told (ms ++ ns) ∧
            ComeDue u.cfg u.clock.seconds ((duePoints (.instant sec i :: ps) u.ts.slots).map (·.2)) u.book ns k :=
        fun hx hsame => by
          have hS : Slots.passed u.ts.slots (.instant sec i) = u.ts.slots := noted_same hx
          have hslots : slotsAfter (.instant sec i :: ps) u.ts.slots = slotsAfter ps u.ts.slots := by
            show slotsAfter ps (Slots.passed u.ts.slots (.instant sec i)) = _
            rw [hS]
          have hnone : duePoints (.instant sec i :: ps) u.ts.slots = duePoints ps u.ts.slots := by
            rw [duePoints, hS]
            cases hi : u.ts.slots[i] with
            | none => rfl
            | some x =>
              dsimp only
              rw [if_pos (hx x hi)]
              rfl
          obtain ⟨ns, k, hfold, hdue⟩ := ih ms hbook htokens
          refine ⟨ns, k, ?_, by rw [hnone]; exact hdue⟩
          show ps.foldl State.passPoint ((u.told ms).instantiate i (dayNumber sec)) = _
          rw [hsame, hfold]
          unfold State.jumped
          rw [hslots, hnone]
      obtain hi | ⟨x, hi⟩ := Option.eq_none_or_eq_some u.ts.slots[i]
      · refine hskip (fun x hx => absurd (hi.symm.trans hx) (by simp)) ?_
        rw [State.instantiate, show (u.told ms).ts.slots[i] = none by simpa using hi]
      have hi' : (u.told ms).ts.slots[i] = some x := by simpa using hi
      by_cases hday : x.lastDay = some (dayNumber sec)
      · exact hskip (fun y hy => by rwa [← Option.some.inj (hi.symm.trans hy)]) (State.instantiate_again hi' hday)
      let y : Template := { x with lastDay := some (dayNumber sec) }
      obtain ⟨n1, k1, hinst, honce⟩ := State.instantiate_due hi'
        (by obtain ⟨-, -, -, htok, -⟩ := hbook; simpa using htok) (htokens i x hi) hday
      simp only [State.told_cfg, State.told_clock, State.told_book] at honce
      have hS : (u.dueTaken i y k1).ts.slots = Slots.passed u.ts.slots (.instant sec i) := by
        show u.ts.slots.set i (some y) i.isLt = u.ts.slots.set i (u.ts.slots[i].map _) i.isLt
        rw [hi]
        rfl
      have hslot : ∀ j : TemplateNo, (u.dueTaken i y k1).ts.slots[j] = if i = j then some y else u.ts.slots[j] := fun j =>
        State.setTemplate_slot i j (some y) u
      obtain ⟨ns, k, hfold, hdue⟩ := ih (u := u.dueTaken i y k1) (ms ++ n1) (honce.bookOk (htokens i x hi) hbook) fun j z hj => by
        rw [hslot] at hj
        split at hj
        · rw [← Option.some.inj hj]
          exact htokens i x hi
        · exact htokens j z hj
      have hdues : duePoints (.instant sec i :: ps) u.ts.slots =
          (sec, i, x) :: duePoints ps (Slots.passed u.ts.slots (.instant sec i)) := by
        rw [duePoints, hi]
        dsimp only
        rw [if_neg hday]
        rfl
      refine ⟨n1 ++ ns, k, ?_, ?_⟩
      · show ps.foldl State.passPoint ((u.told ms).instantiate i (dayNumber sec)) = _
        rw [hinst, State.told_dueTaken, State.told_append, hfold, List.append_assoc]
        refine congrArg (State.told _) ?_
        unfold State.jumped
        rw [hdues, hS, if_neg (List.cons_ne_nil _ _)]
        have hplan : (u.dueTaken i y k1).plan = { u.plan with requested := true } := rfl
        rw [hplan, ite_self]
        rfl
      · rw [hdues]
        rw [hS] at hdue
        exact comeDue_cons honce hbook hdue

end Sys2Proof.Machine
end


section
/-! SUPPORT. A DAY TIME taken (R155). -/

namespace Sys2Proof.Machine

open Sys2Proof.Machine.Safety

/-! ### Which points a jump passes -/

theorem State.instant_of_mem_jump {s : State} {l d k : Int} {i : TemplateNo} (h : Point.instant k i ∈ s.jumpPoints l d) :
    ∃ x, s.ts.slots[i] = some x ∧ l < k ∧ k ≤ l + d ∧ (k - (x.todOpen - s.cfg.templateLead)) % 86400 = 0 := by
  obtain ⟨t, ht⟩ | ⟨hmid, -⟩ := (State.jumpPoints_spec l d s).1 _ |>.1 h
  · obtain ⟨x, hx, hle, hp⟩ := State.instantPoint_eq_some.1 ht
    obtain ⟨rfl, rfl⟩ := Point.instant.inj hp
    obtain ⟨hlow, hmod⟩ := nextAt_spec s.cfg x l
    exact ⟨x, hx, hlow, hle, hmod⟩
  · exact absurd hmid (by simp)

theorem State.mem_jump_instant {s : State} {l d k : Int} {i : TemplateNo} {x : Template} (hi : s.ts.slots[i] = some x)
    (hlow : l < k) (hhigh : k ≤ l + 86400) (hmod : (k - (x.todOpen - s.cfg.templateLead)) % 86400 = 0) (hle : k ≤ l + d) :
    Point.instant k i ∈ s.jumpPoints l d := by
  refine ((State.jumpPoints_spec l d s).1 _).2 (.inl ⟨i, State.instantPoint_eq_some.2 ⟨x, hi, ?_⟩⟩)
  rw [nextAt_instant hlow hhigh hmod]
  exact ⟨hle, rfl⟩

theorem State.mem_jump_midnight {s : State} {l d m : Int} :
    Point.midnight m ∈ s.jumpPoints l d ↔ m = l / 86400 * 86400 + 86400 ∧ m ≤ l + d := by
  rw [(State.jumpPoints_spec l d s).1, nextAt_midnight]
  refine ⟨fun h => ?_, fun ⟨hm, hle⟩ => .inr ⟨by rw [hm], hm ▸ hle⟩⟩
  obtain ⟨t, ht⟩ | ⟨hmid, hle⟩ := h
  · obtain ⟨x, -, -, hp⟩ := State.instantPoint_eq_some.1 ht
    exact absurd hp (by simp)
  · obtain rfl := Point.midnight.inj hmid
    exact ⟨rfl, hle⟩

/-! ### The difference of a DAY TIME (R155) -/

theorem dayDifference_eq {v : Nat} {l d : Int} (hlow : -43200 ≤ d) (hhigh : d ≤ 43199) (h : (d - (v - l)) % 86400 = 0) :
    dayDifference v (timeOfDay l) = d := by
  unfold dayDifference timeOfDay daySeconds
  omega

section
variable {v : Nat} {s : State} {o d : Int} (ho : s.ts.dayOffset = some o) (hv : v ≤ 86399)
  (hlow : -43200 ≤ d) (hhigh : d ≤ 43199) (hd : (d - (v - (s.clock.seconds + o))) % 86400 = 0)
include ho hv hlow hhigh hd

/-- A DAY TIME of 2 s or less moves nothing. -/
theorem State.takeDayTime_small (hd1 : -2 ≤ d) (hd2 : d ≤ 2) : s.takeDayTime v = s := by
  rw [State.takeDayTime, if_neg (by unfold daySeconds; omega), ho]
  dsimp only
  rw [dayDifference_eq hlow hhigh hd, if_pos ⟨hd1, hd2⟩]

/-- A greater one moves the clock, forward through the points on its way. -/
theorem State.takeDayTime_moves (hd1 : ¬ (-2 ≤ d ∧ d ≤ 2)) :
    s.takeDayTime v =
      ((if d > 0 then s.jumpPoints (s.clock.seconds + o) d else []).foldl State.passPoint
        { s with ts := { s.ts with dayOffset := some (o + d) }, free := s.free + 1 }).raise
          (.dayClockSet (some ((s.clock.seconds + o) % 86400).toNat) v ((s.clock.seconds + o + d) / 86400)) := by
  rw [State.takeDayTime, if_neg (by unfold daySeconds; omega), ho]
  dsimp only
  rw [dayDifference_eq hlow hhigh hd, if_neg hd1]
  rfl

end

/-- Settles O56: each DAY TIME by the difference that it makes, a forward one through the points on its way. -/
theorem dayTimeSetsOrMovesClock : Obligations.DayTimeSetsOrMovesClock := by
  intro src v rest s hr hbook htemplates hq now
  let w := (popPeer s).quiet
  have hexec : exec .dayTime s = .next (State.finish none s (w.takeDayTime v)) := event_fromPeer_inRun hr hq rfl
  have hstill : State.finish none s w = { popPeer s with out := quietOut } :=
    State.finish_unchanged hr.settled rfl (commandChanged_same rfl)
  refine ⟨fun hv => ?_, fun hv hfirst => ?first, ?_⟩
  · rw [hexec, State.takeDayTime, if_pos (by unfold daySeconds; omega), hstill]
  case first =>
    have hbody : w.takeDayTime v =
        State.told [.dayClockSet none v 0] { w with ts := { s.ts with dayOffset := some ((v : Int) - now) } } := by
      rw [State.takeDayTime, if_neg (by unfold daySeconds; omega), show w.ts.dayOffset = none from hfirst]
      rfl
    obtain ⟨t, ht, heq, hraised⟩ := finish_told_quiet (v := { w with ts := { s.ts with dayOffset := some ((v : Int) - now) } })
      [.dayClockSet none v 0] hr rfl rfl rfl
    exact ⟨t, by rw [hexec, hbody, ht], heq, hraised⟩
  intro o ho hv d hlow hhigh hd old said
  refine ⟨fun hd1 hd2 => ?_, fun hback => ?back, fun hforward => ?forward⟩
  · rw [hexec, State.takeDayTime_small (s := w) ho hv hlow hhigh hd hd1 hd2, hstill]
  all_goals
    have hbody := State.takeDayTime_moves (s := w) ho hv hlow hhigh hd (by omega)
  case back =>
    rw [if_neg (by omega)] at hbody
    obtain ⟨t, ht, heq, hraised⟩ := finish_told_quiet
      (v := { w with ts := { s.ts with dayOffset := some (o + d) }, free := s.free + 1 }) [said] hr rfl rfl rfl
    refine ⟨t, by rw [hexec, hbody, ← ht]; rfl, ?_, hraised⟩
    rw [heq]
    rfl
  case forward =>
    rw [if_pos (by omega)] at hbody
    have hpoints : (∀ k i, Point.instant k i ∈ w.jumpPoints old d →
          ∃ x, s.ts.slots[i] = some x ∧ old < k ∧ k ≤ old + d ∧ (k - (x.todOpen - s.cfg.templateLead)) % 86400 = 0) ∧
        (∀ k i x, s.ts.slots[i] = some x → old < k → k ≤ old + 86400 →
          (k - (x.todOpen - s.cfg.templateLead)) % 86400 = 0 → k ≤ old + d → Point.instant k i ∈ w.jumpPoints old d) ∧
        (∀ m, Point.midnight m ∈ w.jumpPoints old d ↔ m = old / 86400 * 86400 + 86400 ∧ m ≤ old + d) ∧
        (w.jumpPoints old d).Pairwise InOrder :=
      ⟨fun k i h => State.instant_of_mem_jump (s := w) h,
        fun k i x hi h1 h2 h3 h4 => State.mem_jump_instant (s := w) hi h1 h2 h3 h4,
        fun m => State.mem_jump_midnight (s := w), (State.jumpPoints_spec old d w).2⟩
    change w.takeDayTime v = ((w.jumpPoints old d).foldl State.passPoint _).raise said at hbody
    generalize w.jumpPoints old d = pts at hbody hpoints
    obtain ⟨hinstant, hpassed, hmidnight, horder⟩ := hpoints
    let u : State := { w with ts := { s.ts with dayOffset := some (o + d) }, free := s.free + 1 }
    obtain ⟨ns, k', hfold, hdue⟩ := State.passPoints (pts := pts) (u := u) [] hbook fun i x hi => (htemplates i x hi).1
    have hdues : ∀ k i x, (k, i, x) ∈ duePoints pts s.ts.slots → s.ts.slots[i] = some x ∧ old < k ∧ k ≤ old + d ∧
        (k - (x.todOpen - s.cfg.templateLead)) % 86400 = 0 ∧ x.lastDay ≠ some (k / 86400) ∧
        (x.kept = true ∨ ∀ m, Point.midnight m ∈ pts → k ≤ m) := fun k i x hmem => by
      obtain ⟨hpt, hi, hday, hkept⟩ := duePoints_mem horder hmem
      obtain ⟨y, hy, h1, h2, h3⟩ := hinstant k i hpt
      obtain rfl : y = x := Option.some.inj (hy.symm.trans hi)
      exact ⟨hi, h1, h2, h3, hday, hkept⟩
    obtain ⟨t, ht, heq, hraised, hout, hasked, hplan⟩ := State.finish_told (s := s) (v := u.jumped pts k') (ns := ns ++ [said]) none
      hr.settled fun _ => hr.run
    have hquiet : t.out = quietOut := by
      rw [hout, ordersOf_same (by rfl)]
      rfl
    have hslots : t.ts.slots = slotsAfter pts s.ts.slots := congrArg (fun t : State => t.ts.slots) heq
    have hbook' : t.book = k' := congrArg State.book heq
    have hpass : duePoints pts s.ts.slots ≠ [] → PassAsked s t := fun hne => hasked (if_neg hne)
    obtain ⟨hkeep, hnew⟩ := comeDue_records hdue
    have hborn : ∀ r ∈ k'.records, r ∉ s.book.records → ∃ k i x, (k, i, x) ∈ duePoints pts s.ts.slots ∧
        r = Template.booked s.cfg s.clock.seconds i x r.id := fun r hrec hfresh => by
      obtain ⟨i, x, hmem, hmade⟩ := hnew r hrec hfresh
      obtain ⟨⟨k, _⟩, hin, heq'⟩ := List.mem_map.1 hmem
      subst heq'
      exact ⟨k, i, x, hin, hmade⟩
    refine ⟨t, ?_, ns, ?_, hraised, ?_⟩
    · rw [hexec, hbody, ← ht, ← State.told_raise]
      exact congrArg (fun x : State => Host.Outcome.next (State.finish none s (x.raise said))) hfold
    · rw [heq, hquiet]
      rfl
    refine ⟨fun i x hi k h1 h2 h3 => ?slots, fun hnone => ?nothing, fun i hi => ?_, fun r hrec => ?_, fun r hrec hfresh => ?record,
      fun hne => hpass fun hnil => hne ?_, ?due⟩
    case slots =>
      have hkeeps : ¬ (x.kept = false ∧ old / 86400 * 86400 + 86400 ≤ old + d) →
          x.kept = true ∨ ∀ m, Point.midnight m ∉ pts := fun hno => by
        cases hx : x.kept with
        | true => exact .inl rfl
        | false =>
          refine .inr fun m hm => hno ⟨hx, ?_⟩
          obtain ⟨rfl, hle⟩ := (hmidnight m).1 hm
          exact hle
      rw [hslots, hbook']
      refine ⟨fun ⟨hx, hrolled⟩ => slotsAfter_dropped hi hx ((hmidnight _).2 ⟨rfl, hrolled⟩), fun hno hle =>
        slotsAfter_noted hi (hkeeps hno) horder (hpassed k i x hi h1 h2 h3 hle), fun hno hlt =>
        slotsAfter_keeps hi (hkeeps hno) fun k' hk' => ?_, fun ⟨r, hr', horigin, hfresh⟩ => ?_⟩
      · obtain ⟨y, hy, h1', h2', h3'⟩ := hinstant k' i hk'
        obtain rfl : y = x := Option.some.inj (hy.symm.trans hi)
        omega
      · obtain ⟨k1, j, y, hmem, hmade⟩ := hborn r hr' hfresh
        obtain rfl : j = i := by
          rw [hmade] at horigin
          exact Origin.standing.inj horigin
        obtain ⟨hy, h1', h2', h3', hday, hkept⟩ := hdues k1 j y hmem
        obtain rfl : y = x := Option.some.inj (hy.symm.trans hi)
        obtain rfl : k1 = k := by omega
        exact ⟨h2', fun hx hrolled => hkept.resolve_left (by simp [hx]) _ ((hmidnight _).2 ⟨rfl, hrolled⟩), hday⟩
    case nothing =>
      have hnil : duePoints pts s.ts.slots = [] := List.eq_nil_iff_forall_not_mem.2 fun ⟨k, i, x⟩ hmem => by
        obtain ⟨hx, h1, h2, h3, -, -⟩ := hdues k i x hmem
        have := hnone i x hx
        omega
      obtain ⟨hns, hk⟩ : ns = [] ∧ k' = s.book := by
        rw [show duePoints pts u.ts.slots = [] from hnil] at hdue
        exact hdue
      exact ⟨hns, hbook'.trans hk, hplan (if_pos hnil)⟩
    case record =>
      obtain ⟨k, i, x, hmem, hmade⟩ := hborn r (hbook' ▸ hrec) hfresh
      obtain ⟨hx, -⟩ := hdues k i x hmem
      obtain ⟨-, htarget, htarget', -, hwindow, hwindow'⟩ := htemplates i x hx
      refine ⟨i, x, hx, ?_⟩
      rw [hmade]
      refine ⟨rfl, rfl, rfl, rfl, ?_, rfl, ?_⟩ <;> simp only [Template.booked] <;> omega
    case due =>
      refine ⟨duePoints pts s.ts.slots, duePoints_pairwise horder, fun ⟨k, i, x⟩ hmem => ?_, fun i x hi k h1 h2 h3 h4 hday hkept =>
        mem_duePoints horder (hpassed k i x hi h1 h2 h3 h4) hi hday (hkept.imp_right fun hlt m hm => ?_), hbook' ▸ hdue, hpass,
        fun hnil => hplan (if_pos hnil)⟩
      · obtain ⟨hx, h1, h2, h3, hday, hkept⟩ := hdues k i x hmem
        refine ⟨hx, h1, h2, h3, hday, hkept.imp_right fun hle => ?_⟩
        by_cases hrolled : old / 86400 * 86400 + 86400 ≤ old + d
        · exact hle _ ((hmidnight _).2 ⟨rfl, hrolled⟩)
        · show k ≤ old / 86400 * 86400 + 86400
          have : k ≤ old + d := h2
          omega
      · obtain ⟨rfl, -⟩ := (hmidnight m).1 hm
        exact hlt
    · rw [hslots]
      exact slotsAfter_none hi
    · rw [hbook']
      exact hkeep r hrec
    · rw [show duePoints pts u.ts.slots = [] from hnil] at hdue
      rw [hbook', hdue.2]
      rfl

end Sys2Proof.Machine
end


section
/-! SUPPORT. Numbers as bytes, read back from where they stand; then STATUS ASK and STATUS CLEAR (R171, R180, R181). -/

namespace Sys2Proof.Machine

open Sys2Proof.Machine.Safety

/-! ### Numbers as bytes (R171) -/

@[simp] theorem bytesOf_length (w n : Nat) : (bytesOf w n).length = w := by
  induction w with
  | zero => rfl
  | succ w ih => exact congrArg (· + 1) ih

theorem bytesOf_one (n : Nat) : bytesOf 1 n = [BitVec.ofNat 8 n] := by
  rw [bytesOf, pow_zero, Nat.div_one]
  rfl

theorem ofBytes_from (bs : List Byte) (n : Nat) :
    bs.foldl (fun acc b => acc * 256 + b.toNat) n = n * 256 ^ bs.length + ofBytes bs := by
  unfold ofBytes
  induction bs generalizing n with
  | nil => simp
  | cons b bs ih =>
    rw [List.foldl_cons, List.foldl_cons, ih, ih (0 * 256 + b.toNat), List.length_cons, pow_succ]
    ring

/-- The first byte counts most. -/
theorem ofBytes_cons (b : Byte) (bs : List Byte) : ofBytes (b :: bs) = b.toNat * 256 ^ bs.length + ofBytes bs := by
  show bs.foldl (fun acc b => acc * 256 + b.toNat) (0 * 256 + b.toNat) = _
  rw [ofBytes_from, Nat.zero_mul, Nat.zero_add]

/-- A field holds the low bytes of its number. -/
theorem ofBytes_bytesOf (w n : Nat) : ofBytes (bytesOf w n) = n % 256 ^ w := by
  induction w with
  | zero => rw [pow_zero, Nat.mod_one]; rfl
  | succ w ih =>
    rw [bytesOf, ofBytes_cons, bytesOf_length, ih, Nat.mod_pow_succ, BitVec.toNat_ofNat]
    ring

@[simp] theorem field_bytesOf (w n : Nat) : field (bytesOf w n) 0 w = n % 256 ^ w := by
  rw [field, List.drop_zero, List.take_of_length_le (bytesOf_length w n).le, ofBytes_bytesOf]

@[simp] theorem field_front (w n : Nat) (rest : List Byte) : field (bytesOf w n ++ rest) 0 w = n % 256 ^ w := by
  rw [field, List.drop_zero, List.take_left' (bytesOf_length w n), ofBytes_bytesOf]

/-- A field after others. -/
@[simp] theorem field_after {front rest : List Byte} {i w : Nat} (h : front.length ≤ i) :
    field (front ++ rest) i w = field rest (i - front.length) w := by
  rw [field, List.drop_append, List.drop_of_length_le h, List.nil_append, field]

/-! ### The flags as bytes (R180, R181) -/

theorem maskOfBytes_getLsbD (mask : List Byte) {n : Nat} (hn : n < 34) :
    (maskOfBytes mask).getLsbD n = (mask.getD (n / 8) 0).getLsbD (n % 8) := by
  induction mask generalizing n with
  | nil => simp [maskOfBytes]
  | cons b bs ih =>
    rw [maskOfBytes, BitVec.getLsbD_or, BitVec.getLsbD_setWidth, BitVec.getLsbD_shiftLeft]
    by_cases h : n < 8
    · rw [Nat.div_eq_of_lt h, Nat.mod_eq_of_lt h]
      simp [h, hn]
    · obtain ⟨m, rfl⟩ := Nat.exists_eq_add_of_le' (Nat.le_of_not_lt h)
      rw [BitVec.getLsbD_of_ge b _ (by omega), Nat.add_sub_cancel, ih (by omega), Nat.add_div_right _ (by omega),
        Nat.add_mod_right]
      simp [hn]

theorem flagBytes_getLsbD (flags : BitVec 34) {n : Nat} (hn : n < 34) :
    ((flagBytes flags).getD (n / 8) 0).getLsbD (n % 8) = flags.getLsbD n := by
  have hk : n / 8 < (List.range 5).length := by rw [List.length_range]; omega
  rw [flagBytes, List.getD_eq_getElem?_getD, List.getElem?_map, List.getElem?_eq_getElem hk, List.getElem_range]
  show ((flags >>> (8 * (n / 8))).setWidth 8).getLsbD (n % 8) = _
  rw [BitVec.getLsbD_setWidth, BitVec.getLsbD_ushiftRight, Nat.div_add_mod, decide_eq_true (Nat.mod_lt n (by omega)),
    Bool.true_and]

/-! ### The pages (R180) -/

theorem timeOfDayBytes_length (t : Option Nat) : (timeOfDayBytes t).length = 3 := by cases t <;> rfl

/-- The figures of page 3 by the widths of its fields. -/
theorem State.pageFigures_day (s : State) :
    ∃ day : List Byte, day.length = 2 ∧
      s.pageFigures 3 =
        bytesOf 1 (boolByte s.ts.dayOffset.isSome) ++ timeOfDayBytes (s.localSecond.map timeOfDay) ++ day ++ bytesOf 4 s.clock.seconds ∧
      ∀ l, s.localSecond = some l → day = dayBytes (dayNumber l) := by
  refine ⟨_, ?_, rfl, fun l hl => by rw [hl]⟩
  cases s.localSecond <;> simp [dayBytes]

theorem State.pageFigures_length (s : State) {page : Nat} (h : page ≤ 3) : (s.pageFigures page).length = 10 := by
  obtain rfl | rfl | rfl | rfl : page = 0 ∨ page = 1 ∨ page = 2 ∨ page = 3 := by omega
  · simp [State.pageFigures]
  · simp [State.pageFigures]
  · simp [State.pageFigures]
  · obtain ⟨day, hday, heq, -⟩ := s.pageFigures_day
    simp [heq, hday, timeOfDayBytes_length]

theorem State.pageFigures_none (s : State) {page : Nat} (h : 4 < page) : s.pageFigures page = [] := by
  match page, h with
  | n + 5, _ => rfl

theorem State.pageFigures_feed (s : State) :
    field (s.pageFigures 1) 0 3 = s.feed.share % 2 ^ 24 ∧ field (s.pageFigures 1) 3 3 = s.feed.limit % 2 ^ 24 ∧
      field (s.pageFigures 1) 6 2 = s.feed.trim % 2 ^ 16 ∧ field (s.pageFigures 1) 8 1 = s.feed.meter.code ∧
      field (s.pageFigures 1) 9 1 = s.templatesHeld := by
  have hheld : s.templatesHeld ≤ 8 := (List.length_filter_le _ _).trans (List.length_finRange ..).le
  have hmeter : s.feed.meter.code ≤ 2 := by cases s.feed.meter <;> simp [MeterState.code]
  simp only [State.pageFigures, List.append_assoc]
  refine ⟨field_front 3 _ _, ?_, ?_, ?_, ?_⟩
  · simp [field_after, field_front]
  · simp [field_after, field_front]
  · simp only [field_after, bytesOf_length, Nat.reduceLeDiff, Nat.reduceSub, field_front]
    omega
  · simp only [field_after, bytesOf_length, Nat.reduceLeDiff, Nat.reduceSub, field_bytesOf]
    omega

theorem State.pageFigures_clock (s : State) :
    field (s.pageFigures 3) 6 4 = s.clock.seconds % 2 ^ 32 ∧
      (s.ts.dayOffset = none → field (s.pageFigures 3) 0 1 = 0 ∧ field (s.pageFigures 3) 1 3 = 2 ^ 24 - 1) ∧
      (∀ o, s.ts.dayOffset = some o → field (s.pageFigures 3) 0 1 = 1 ∧
        (field (s.pageFigures 3) 1 3 : Int) = (s.clock.seconds + o) % 86400 ∧
        (field (s.pageFigures 3) 4 2 : Int) = ((s.clock.seconds + o) / 86400) % 2 ^ 16) := by
  obtain ⟨day, hday, heq, hsome⟩ := s.pageFigures_day
  rw [heq]
  simp only [List.append_assoc]
  refine ⟨?_, fun hnone => ⟨?_, ?_⟩, fun o ho => ⟨?_, ?_, ?_⟩⟩
  · simp [field_after, timeOfDayBytes_length, hday, field_bytesOf]
  · rw [field_front, hnone]
    rfl
  · rw [field_after (by simp), State.localSecond, hnone]
    rfl
  · rw [field_front, ho]
    rfl
  · rw [field_after (by simp), State.localSecond, ho]
    simp only [Option.map_some, timeOfDayBytes, bytesOf_length, Nat.sub_self, field_front]
    unfold timeOfDay daySeconds
    omega
  · rw [field_after (by simp), field_after (by simp [timeOfDayBytes_length]), hsome (s.clock.seconds + o) (by
      rw [State.localSecond, ho]
      rfl)]
    simp only [dayBytes, bytesOf_length, timeOfDayBytes_length, Nat.reduceSub, field_front, BitVec.toNat_ofInt]
    unfold dayNumber daySeconds
    omega

/-- Settles O60: the figures page by page, and the flags bit by bit. -/
theorem statusIsToldAndCleared : Obligations.StatusIsToldAndCleared := by
  intro src rest s hr hc
  let w := (popAsk s).quiet
  refine ⟨fun page hq => ?ask, fun mask hq => ?clear⟩
  case ask =>
    have hexec : exec .statusAsk s = .next (State.finish none s (w.answerStatus src page)) := event_fromAsk_addressed hr hq hc rfl
    have hbody : w.answerStatus src page =
        { w with
          line := { w.line.post (.statusReply src page (w.pageFigures page)) with lastError := .noChange }, free := w.free + 1 } := by
      rw [State.answerStatus, State.post_run _ (show w.part = .run from hr.run)]
      rfl
    rw [hexec, hbody]
    refine ⟨_, congrArg _ (State.finish_unchanged hr.settled rfl (commandChanged_same rfl)), w.pageFigures page, rfl,
      w.pageFigures_length, w.pageFigures_none, ?_, ?_, ?_, ?_, ?_⟩
    · rintro rfl
      exact ⟨rfl, fun n _ hn => flagBytes_getLsbD w.flags (by omega)⟩
    · rintro rfl
      have hrun : w.part = .run := hr.run
      simp only [State.pageFigures, bytesOf_one, hrun]
      cases hholder : s.boost.converter.holder <;> simp [hholder, holderByte, Part.code, w, popAsk, State.quiet]
    · rintro rfl
      exact w.pageFigures_feed
    · rintro rfl
      simp only [State.pageFigures, bytesOf_one]
      rfl
    · rintro rfl
      exact w.pageFigures_clock
  case clear =>
    intro named
    have hexec : exec .statusClear s = .next (State.finish none s (w.clearFlags mask)) := event_fromAsk_addressed hr hq hc rfl
    have hnamed : ∀ n < 34, (maskOfBytes mask).getLsbD n = named n := fun n hn => maskOfBytes_getLsbD mask hn
    have hbody : w.clearFlags mask =
        { w with
          flags := w.flags &&& ~~~ maskOfBytes mask
          line := if named 25 = true then { w.line with errorLog := 0, overflowReported := false } else w.line } := by
      rw [State.clearFlags, ← hnamed 25 (by omega)]
      dsimp only
      by_cases h : (maskOfBytes mask).getLsbD 25 = true
      · rw [if_pos h]
        exact if_pos h
      · rw [if_neg h]
        exact if_neg h
    rw [hexec, hbody]
    refine ⟨_, congrArg _ (State.finish_unchanged hr.settled rfl (commandChanged_same rfl)), rfl, fun n hn => ?_⟩
    show (s.flags &&& ~~~ maskOfBytes mask).getLsbD n = _
    rw [BitVec.getLsbD_and, BitVec.getLsbD_not, hnamed n hn, decide_eq_true hn, Bool.true_and]

end Sys2Proof.Machine
end


section
/-! SUPPORT. The counts, the line state, caution and the error log as changes of the Line Controller with the notices they bring;
then the frames received (R162 to R167). -/

namespace Sys2Proof.Machine

open Sys2Proof.Machine.Safety

/-! ### Posting and the rest of the Line Controller -/

/-- A change of the Line Controller that neither reads nor writes what a posting changes. -/
def BesidePosts (f : LineController → LineController) : Prop :=
  ∀ l q n d, f { l with outQueue := q, noticesLost := n, sendsDropped := d } =
    { f l with outQueue := q, noticesLost := n, sendsDropped := d }

/-- A posting depends on the Outbound queue and its two lost counts alone. -/
theorem LineController.post_congr {l m : LineController} (x : OutFrame) (hq : m.outQueue = l.outQueue)
    (hn : m.noticesLost = l.noticesLost) (hd : m.sendsDropped = l.sendsDropped) :
    m.post x = { m with
      outQueue := (l.post x).outQueue, noticesLost := (l.post x).noticesLost, sendsDropped := (l.post x).sendsDropped } := by
  unfold LineController.post LineController.postNoticeFull LineController.postOtherFull
  rw [hq, hn, hd]
  cases l.outQueue.find? OutEntry.idleNotice <;> dsimp only <;> split_ifs <;> simp [hq, hn, hd]

theorem BesidePosts.post {f : LineController → LineController} (hf : BesidePosts f) (l : LineController) (x : OutFrame) :
    (f l).post x = f (l.post x) := by
  have hsame : f l = { f l with outQueue := l.outQueue, noticesLost := l.noticesLost, sendsDropped := l.sendsDropped } :=
    hf l l.outQueue l.noticesLost l.sendsDropped
  have hpost := LineController.post_congr (l := l) (m := f l) x (by rw [hsame]) (by rw [hsame]) (by rw [hsame])
  rw [hpost, ← hf]
  exact congrArg f (LineController.post_eq l x).symm

theorem BesidePosts.told {f : LineController → LineController} (hf : BesidePosts f) (ns : List Notice) (s : State) :
    State.told ns { s with line := f s.line } = { s.told ns with line := f (s.told ns).line } := by
  induction ns generalizing s with
  | nil => rfl
  | cons n ns ih =>
    have hraise : State.raise n { s with line := f s.line } = { s.raise n with line := f (s.raise n).line } := by
      by_cases h : s.cfg.disableMask.getLsbD (groupOfCode n.code) = true
      · simp [State.raise, State.silenced, h]
      · cases hp : s.part <;> simp [State.raise, State.silenced, State.post, h, hp, hf.post]
    rw [State.told_cons, State.told_cons, hraise, ih]

/-- Notices change the Outbound queue and its two lost counts alone. -/
theorem State.told_line (ns : List Notice) (s : State) :
    (s.told ns).line = { s.line with
      outQueue := (s.told ns).line.outQueue, noticesLost := (s.told ns).line.noticesLost
      sendsDropped := (s.told ns).line.sendsDropped } := by
  induction ns generalizing s with
  | nil => rfl
  | cons n ns ih =>
    rw [State.told_cons, ih, State.raise_line_eq]

/-! ### Caution, the counts and the error log (R163, R165) -/

/-- The caution that the counts give. -/
def LineController.cautioned (l : LineController) : LineController :=
  { l with caution := decide (80 ≤ l.sendCount ∨ 80 ≤ l.recvCount) }

/-- CAUTION, when caution becomes yes. -/
def cautionNotices (l : LineController) : List Notice :=
  if l.cautioned.caution = true ∧ l.caution = false then [.caution l.sendCount l.recvCount] else []

theorem besidePosts_cautioned : BesidePosts LineController.cautioned := fun _ _ _ _ => rfl

theorem besidePosts_logged (e : LineError) : BesidePosts (logged e) := fun _ _ _ _ => rfl

theorem State.setCaution_told (ns : List Notice) (s : State) :
    (s.told ns).setCaution = ({ s with line := s.line.cautioned } : State).told (ns ++ cautionNotices s.line) := by
  have hset : ∀ u : State, u.setCaution = ({ u with line := u.line.cautioned } : State).told (cautionNotices u.line) := fun u => by
    unfold State.setCaution cautionNotices LineController.cautioned cautionCount
    dsimp only
    rw [← Bool.decide_or]
    by_cases h : 80 ≤ u.line.sendCount ∨ 80 ≤ u.line.recvCount
    · cases hc : u.line.caution <;> simp [h, State.raise_eq_told]
    · simp [h]
  have hnotices : cautionNotices (s.told ns).line = cautionNotices s.line := by rw [State.told_line]; rfl
  rw [hset, hnotices, ← besidePosts_cautioned.told, State.told_append]

theorem State.logError_told (e : LineError) (ns : List Notice) {s : State} (h : s.line.errorLog ≤ 255) :
    (s.told ns).logError e = ({ s with line := logged e s.line } : State).told (ns ++ logNotices s.line) := by
  have hlog : ∀ u : State, u.line.errorLog ≤ 255 →
      u.logError e = ({ u with line := logged e u.line } : State).told (logNotices u.line) := fun u hu => by
    obtain ⟨hlt, heq⟩ | ⟨hfull, hover, heq⟩ | ⟨hfull, hover, heq⟩ := State.logError_cases e u
    · have hmin : min 255 (u.line.errorLog + 1) = u.line.errorLog + 1 := by omega
      simp [heq, logged, logNotices, hmin, hlt.ne]
    · have hlast : u.line.errorLog = 255 := by omega
      simp [heq, logged, logNotices, hlast, hover]
    · have hlast : u.line.errorLog = 255 := by omega
      simp [heq, logged, logNotices, hlast, hover, State.raise_eq_told]
  have hlog' : (s.told ns).line.errorLog = s.line.errorLog := by rw [State.told_line]
  have hnotices : logNotices (s.told ns).line = logNotices s.line := by rw [State.told_line]; rfl
  rw [hlog _ (hlog'.le.trans h), hnotices, ← (besidePosts_logged e).told, State.told_append]

/-- The counts, the line state and the gaps written. -/
def LineController.moved (send recv : Nat) (state : LineState) (gaps : Option Nat) (l : LineController) : LineController :=
  { l with sendCount := send, recvCount := recv, state := state, gaps := gaps }

/-- LINE_STATE, when the line state changes. -/
def stateNotices (l l' : LineController) : List Notice :=
  if l'.state = l.state then [] else [.lineState l.state l'.state l'.sendCount l'.recvCount]

theorem State.setLine_told (send recv : Nat) (state : LineState) (gaps : Option Nat) (s : State) :
    s.setLine send recv state gaps =
      (if s.line.state = state then { s with line := s.line.moved send recv state gaps }
        else State.tellLineState state { s with line := s.line.moved send recv state gaps }).told
        (stateNotices s.line (s.line.moved send recv state gaps)) := by
  unfold State.setLine stateNotices LineController.moved
  dsimp only
  by_cases h : s.line.state = state
  · simp [h]
  · simp [h, Ne.symm h, State.raise_eq_told]

/-- The counts set while not DETACHED. -/
theorem State.setCounts_told {s : State} (send recv : Nat) (hdet : s.part = .run → s.feed.detached = false) :
    s.setCounts send recv =
      ({ s with line := counted send recv s.line } : State).told (countNotices s.line (counted send recv s.line)) := by
  have htell : State.tellLineState (stateOfCounts send recv)
      { s with line := s.line.moved send recv (stateOfCounts send recv) none } =
        { s with line := s.line.moved send recv (stateOfCounts send recv) none } := by
    have hstate : (stateOfCounts send recv == .detached) = false := by
      unfold stateOfCounts
      split_ifs <;> rfl
    unfold State.tellLineState
    cases hp : s.part with
    | unset => rfl
    | run => exact if_pos ((hdet hp).trans hstate.symm)
  rw [State.setCounts, State.setLine_told, htell, ite_self, State.setCaution_told]
  rfl

/-- Counts that stay bring no notice. -/
theorem countNotices_same (l : LineController) : countNotices l l = [] := by
  unfold countNotices
  rw [if_pos rfl, if_neg fun h => absurd (h.1.symm.trans h.2) (by simp)]
  rfl

/-! ### Frames received (R162, R166, R167) -/

/-- The end of an event of the line that changes no block beside it. -/
theorem finish_line {s v : State} (ns : List Notice) (hs : s.plan.requested = false) (hplan : v.plan = s.plan)
    (hbays : v.bays = s.bays) (horders : v.out.orders = []) :
    ∃ t, State.finish none s (v.told ns) = t ∧ t = { v with flags := t.flags, line := t.line } ∧ Raised ns v t := by
  obtain ⟨t, ht, heq, hraised, hto, -, hkept⟩ := State.finish_told (s := s) (v := v) (ns := ns) none hs fun h => by
    rw [hplan, hs] at h
    exact absurd h (by simp)
  refine ⟨t, ht, ?_, hraised⟩
  rw [heq, hkept hplan, hto, ordersOf_same hbays, ← hplan, ← horders]

theorem LineController.storeAsk_eq (a : AskFrame) (l : LineController) :
    l.storeAsk a = if l.askQueue.length < 8 then { l with askQueue := l.askQueue ++ [a] }
      else { l with asksLost := min 255 (l.asksLost + 1) } := rfl

theorem LineController.storePeer_eq (a : PeerFrame) (l : LineController) :
    l.storePeer a = if l.peerQueue.length < 16 then { l with peerQueue := l.peerQueue ++ [a] }
      else { l with peerQueue := l.peerQueue.tail ++ [a], peerLost := min 255 (l.peerLost + 1) } := by
  rw [LineController.storePeer, List.drop_one]
  rfl

/-- A good frame stored as its kind and destination give. -/
def LineController.stored (l : LineController) : Sorted → LineController
  | .ask a => l.storeAsk a
  | .peer a => l.storePeer a
  | .notStored => l

theorem besidePosts_stored (x : Sorted) : BesidePosts fun l => l.stored x := fun l q n d => by
  cases x with
  | ask a =>
    simp only [LineController.stored, LineController.storeAsk_eq]
    split_ifs <;> rfl
  | peer a =>
    simp only [LineController.stored, LineController.storePeer_eq]
    split_ifs <;> rfl
  | notStored => rfl

/-- Notices take no free value. -/
theorem State.told_useFree (n : Nat) (ns : List Notice) (s : State) :
    State.told ns { s with free := s.free + n } = { s.told ns with free := (s.told ns).free + n } := by
  induction ns generalizing s with
  | nil => rfl
  | cons m ns ih =>
    have hraise : State.raise m { s with free := s.free + n } = { s.raise m with free := (s.raise m).free + n } := by
      by_cases h : s.cfg.disableMask.getLsbD (groupOfCode m.code) = true
      · simp [State.raise, State.silenced, h]
      · cases hp : s.part <;> simp [State.raise, State.silenced, State.post, h, hp]
    rw [State.told_cons, State.told_cons, hraise, ih]

/-- A good frame sorted, after notices. -/
theorem State.sortGood_told (f : RawFrame) (ns : List Notice) (s : State) :
    (s.told ns).sortGood f =
      ({ s with line := s.line.stored (sortFrame s.part s.cfg.station s.free f), free := s.free + missingBytes f } : State).told ns := by
  have hsort : ∀ u : State, u.sortGood f =
      { u with line := u.line.stored (sortFrame u.part u.cfg.station u.free f), free := u.free + missingBytes f } := fun u => by
    rw [State.sortGood]
    cases sortFrame u.part u.cfg.station u.free f <;> rfl
  let x := sortFrame s.part s.cfg.station s.free f
  refine Eq.trans ?_ ((besidePosts_stored x).told ns { s with free := s.free + missingBytes f }).symm
  rw [hsort, State.told_useFree (missingBytes f) ns s]
  apply State.eq_of_fields <;> simp [x]

/-- Settles O58: a bad frame and a good one, each in DETACHED and out of it. -/
theorem framesAreReceived : Obligations.FramesAreReceived := by
  intro e f s hlive hline hfeed l up down flagged acked e'
  obtain ⟨hreleased, hsettled⟩ : s.pins.restart = false ∧ s.plan.requested = false := by
    obtain hr | hw := hlive
    · exact ⟨hr.released, hr.settled⟩
    · exact ⟨hw.released, hw.settled⟩
  obtain ⟨-, -, -, -, hdetached, -⟩ := hfeed
  obtain ⟨⟨-, -, hlog⟩, -⟩ := hline
  have hexec : ∀ r, exec (.frameReceive r) s = .next (State.finish none s (s.quiet.receive r)) := fun r =>
    congrArg _ (State.take_live hreleased none (State.receive r))
  refine ⟨?bad, fun hlong => ?_, fun hshort => ?good⟩
  case bad =>
    let v : State := { s with line := logged e' up, out := flagged }
    let u : State := { s with out := flagged }
    have hflag : (if s.quiet.line.state = .full then { s.quiet with out.flagged := true } else s.quiet) = u := by
      by_cases h : s.line.state = .full
      · exact (if_pos h).trans (by simp [u, flagged, l, h, State.quiet, Outputs.quiet, quietOut])
      · exact (if_neg h).trans (by simp [u, flagged, l, h, State.quiet, Outputs.quiet, quietOut])
    have hcount : (if u.line.state = .detached then u else u.setCounts u.line.sendCount (min 127 (u.line.recvCount + 1))) =
        ({ u with line := up } : State).told (countNotices l up) := by
      by_cases h : s.line.state = .detached
      · rw [if_pos (show u.line.state = .detached from h), show up = l from if_pos h, countNotices_same]
        rfl
      · rw [if_neg (show u.line.state ≠ .detached from h), show up = _ from if_neg h, State.setCounts_told (s := u) _ _ fun hrun =>
          (hdetached hrun).trans (decide_eq_false h)]
    have hup : up.errorLog = l.errorLog ∧ logNotices up = logNotices l := by
      unfold up
      split <;> exact ⟨rfl, rfl⟩
    have hbody : s.quiet.receive (.bad e) = v.told (countNotices l up ++ logNotices l) := by
      show State.logError (lineErrorOf e) _ = _
      rw [hflag, hcount, State.logError_told _ _ (hup.1.le.trans hlog), hup.2]
      cases e <;> rfl
    obtain ⟨t, ht, heq, hraised⟩ := finish_line (s := s) (v := v) (countNotices l up ++ logNotices l) hsettled rfl rfl rfl
    exact ⟨t, by rw [hexec, hbody, ht], heq, hraised⟩
  · rw [hexec, hexec]
    exact congrArg (fun u => Host.Outcome.next (State.finish none s u)) (if_pos hlong)
  case good =>
    let v : State := { s with
      line := down.stored (sortFrame s.part s.cfg.station s.free f), out := acked, free := s.free + missingBytes f }
    have hcount : (if s.quiet.line.state = .detached then s.quiet
          else State.setCounts s.quiet.line.sendCount (s.quiet.line.recvCount - 1) { s.quiet with out.acknowledged := true }) =
        ({ s with line := down, out := acked } : State).told (countNotices l down) := by
      by_cases h : s.line.state = .detached
      · rw [if_pos (show s.quiet.line.state = .detached from h), show down = l from if_pos h, countNotices_same]
        simp [acked, l, h, State.quiet, Outputs.quiet, quietOut]
      · rw [if_neg (show s.quiet.line.state ≠ .detached from h), show down = _ from if_neg h,
          State.setCounts_told (s := { s.quiet with out.acknowledged := true }) _ _ fun hrun =>
            (hdetached hrun).trans (decide_eq_false h)]
        simp [acked, l, h, State.quiet, Outputs.quiet, quietOut]
    have hbody : s.quiet.receive (.whole f) = v.told (countNotices l down) := by
      rw [State.receive, if_neg (by omega)]
      show State.sortGood f _ = _
      rw [hcount, State.sortGood_told]
    obtain ⟨t, ht, heq, hraised⟩ := finish_line (s := s) (v := v) (countNotices l down) hsettled rfl rfl rfl
    refine ⟨t, by rw [hexec, hbody, ht], by rw [heq], hraised.1, hraised.2.trans ?_⟩
    refine congrArg (List.foldl _ · _) ?_
    have hdown : down = l ∨ down = counted l.sendCount (l.recvCount - 1) l := by
      unfold down
      split
      · exact .inl rfl
      · exact .inr rfl
    show down.stored (sortFrame s.part s.cfg.station s.free f) = _
    obtain hdown | hdown := hdown
    all_goals
      rw [hdown]
      cases sortFrame s.part s.cfg.station s.free f with
      | ask a => rfl
      | peer a => exact LineController.storePeer_eq a _
      | notStored => rfl

end Sys2Proof.Machine
end


section
/-! SUPPORT. The start and the end of a send, and rejoining (R161, R163, R164, R168). -/

namespace Sys2Proof.Machine

open Sys2Proof.Machine.Safety

/-! ### The frame that is sent (R168) -/

/-- The first member that meets a test is the one changed. -/
theorem changeFirst_split {α : Type} {p : α → Bool} (f : α → α) {pre post : List α} {x : α} (hpre : ∀ y ∈ pre, p y = false)
    (hx : p x = true) : changeFirst p f (pre ++ x :: post) = pre ++ f x :: post := by
  induction pre with
  | nil => exact if_pos hx
  | cons y ys ih =>
    obtain ⟨hy, hys⟩ := List.forall_mem_cons.1 hpre
    rw [List.cons_append, changeFirst, hy, ih hys]
    rfl

/-- The oldest frame of the lowest precedence goes first. -/
theorem firstToSend_split {pre post : List OutEntry} {e : OutEntry} (hpre : ∀ x ∈ pre, e.frame.precedence < x.frame.precedence)
    (hpost : ∀ x ∈ post, e.frame.precedence ≤ x.frame.precedence) : firstToSend (pre ++ e :: post) = some e := by
  induction pre with
  | nil =>
    rw [List.nil_append, firstToSend]
    cases hf : firstToSend post with
    | none => rfl
    | some f => exact if_pos (hpost f (firstToSend_mem hf))
  | cons y ys ih =>
    obtain ⟨hy, hys⟩ := List.forall_mem_cons.1 hpre
    rw [List.cons_append, firstToSend, ih hys]
    exact if_neg (Nat.not_le.2 hy)

theorem idleGap_eq (st : LineState) : idleGap st = if st = .guarded then 20 else 12 := by cases st <;> rfl

theorem State.maySend_iff {idle : Nat} {s : State} (hrun : s.part = .run) :
    s.maySend idle = true ↔
      s.line.state ≠ .detached ∧ s.line.sending = none ∧ (if s.line.state = .guarded then 20 else 12) ≤ idle := by
  simp [State.maySend, hrun, idleGap_eq, and_assoc]

/-! ### The line state as it changes to or from DETACHED (R131, R163, R164) -/

/-- The share follows its figures whatever the Line Controller holds. -/
theorem State.recomputeShare_with_line (l : LineController) (s : State) :
    State.recomputeShare { s with line := l } = { s.recomputeShare with line := l } := by
  have hclamp : ∀ (old new : Nat) (u : State), State.clampShare old new { u with line := l } = { u.clampShare old new with line := l } :=
    fun old new u => by
      unfold State.clampShare State.request
      dsimp only
  unfold State.recomputeShare
  dsimp only
  by_cases hsame : s.feed.shareNow s.cfg = s.feed.share
  · rw [if_pos hsame, if_pos hsame]
  · rw [if_neg hsame, if_neg hsame]
    by_cases hfall : s.feed.shareNow s.cfg < s.feed.share
    · rw [if_pos hfall, if_pos hfall]
      exact hclamp _ _ { s with feed := { s.feed with share := s.feed.shareNow s.cfg } }
    · rw [if_neg hfall, if_neg hfall]
      rfl

/-- The end of an event that asks for no pass and changes no bay. -/
theorem State.finish_silent {s u : State} (hs : s.plan.requested = false) (hplan : u.plan = s.plan) (hbays : u.bays = s.bays)
    (horders : u.out.orders = []) : State.finish none s u = u := by
  rw [State.finish_none none (by rw [hplan, hs]), ordersOf_same hbays, ← horders]

/-- The Feed Share Unit told of a change to or from DETACHED. -/
theorem State.setLine_reshares {s : State} {send recv : Nat} {state : LineState} {gaps : Option Nat} (hrun : s.part = .run)
    (hstate : s.line.state ≠ state) (hdet : s.feed.detached ≠ decide (state = .detached)) :
    (s.setLine send recv state gaps).setCaution =
      ((({ s with
        line := (s.line.moved send recv state gaps).cautioned
        feed := { s.feed with detached := decide (state = .detached) } } : State).recomputeShare).told
          (countNotices s.line (s.line.moved send recv state gaps).cautioned)) := by
  have hdec : (state == .detached) = decide (state = .detached) := by cases state <;> rfl
  have htell : State.tellLineState state { s with line := s.line.moved send recv state gaps } =
      ({ s with
        line := s.line.moved send recv state gaps
        feed := { s.feed with detached := decide (state = .detached) } } : State).recomputeShare := by
    rw [State.tellLineState, hrun]
    dsimp only
    rw [hdec, if_neg hdet]
  rw [State.setLine_told, if_neg hstate, htell, State.setCaution_told, State.recomputeShare_line]
  exact congrArg (State.told _) (State.recomputeShare_with_line _ _).symm

/-- Settles O59: the start of a send, its ends one by one, and the gaps that let the part rejoin. -/
theorem framesAreSentAndPartRejoins : Obligations.FramesAreSentAndPartRejoins := by
  intro idle n s hr hset hfeed hline hplan l
  obtain ⟨-, -, -, -, hdetached, -⟩ := hfeed
  have hdet := hdetached hr.run
  obtain ⟨⟨-, -, hlog⟩, -, hoff, hgaps, -⟩ := hline
  obtain ⟨-, -, -, hn⟩ := hplan
  have hstill : State.finish none s s.quiet = { s with out := quietOut } :=
    State.finish_unchanged hr.settled rfl (commandChanged_same rfl)
  have hmay := State.maySend_iff (idle := idle) (s := s.quiet) hr.run
  refine ⟨fun pre post e hq hidle hstate hgap hpre hpost => ?start, fun hno => ?stay, fun f hf => ?ends, fun hstate => ?_,
    fun g hg => ?rejoin⟩
  case start =>
    have hexec : exec (.sendStart idle) s = .next (State.finish none s (s.quiet.startSend idle)) := event_live hr
    have hfirst : firstToSend s.quiet.line.outQueue = some e := by
      rw [show s.quiet.line.outQueue = pre ++ e :: post from hq]
      exact firstToSend_split hpre hpost
    have hmark : markSending e.frame.precedence s.quiet.line.outQueue = pre ++ { e with sending := true } :: post := by
      rw [show s.quiet.line.outQueue = pre ++ e :: post from hq]
      exact changeFirst_split _ (fun y hy => beq_eq_false_iff_ne.2 (hpre y hy).ne') (beq_self_eq_true _)
    rw [hexec, State.startSend, if_pos (hmay.2 ⟨hstate, hidle, hgap⟩), hfirst]
    dsimp only
    rw [hmark]
    exact ⟨_, congrArg _ (State.finish_silent hr.settled rfl rfl rfl), rfl⟩
  case stay =>
    have hexec : exec (.sendStart idle) s = .next (State.finish none s (s.quiet.startSend idle)) := event_live hr
    have hbody : s.quiet.startSend idle = s.quiet := by
      rw [State.startSend]
      split
      · next hm =>
        obtain ⟨hstate, hidle, hgap⟩ := hmay.1 hm
        obtain hempty | hbusy | hoff | hshort := hno
        · rw [show s.quiet.line.outQueue = [] from hempty]
          rfl
        · exact absurd hidle hbusy
        · exact absurd hoff hstate
        · exact absurd hgap (Nat.not_le.2 hshort)
      · rfl
    rw [hexec, hbody, hstill]
  case ends =>
    intro kept sent done more off
    have hexec : ∀ x, exec (.sendEnd x) s = .next (State.finish none s (s.quiet.endSend x)) := fun x => event_live hr
    have hon : l.state ≠ .detached := fun h => absurd (hf.symm.trans (hoff h).2) (by simp)
    have hattached : s.feed.detached = false := hdet.trans (decide_eq_false hon)
    have hsending : s.quiet.line.sending = some f := hf
    let u : State := { s.quiet with line := kept }
    refine ⟨?_, ?_, fun x hx => ?_⟩
    · rw [hexec, State.endSend, hsending]
      exact congrArg _ (State.finish_unchanged hr.settled rfl (commandChanged_same rfl))
    · have hbody : s.quiet.endSend .good = ({ s.quiet with line := done } : State).told (countNotices l done) := by
        rw [State.endSend, hsending]
        exact State.setCounts_told (s := { s.quiet with line := sent }) _ _ fun _ => hattached
      obtain ⟨t, ht, heq, hraised⟩ := finish_line (s := s) (v := { s.quiet with line := done }) (countNotices l done) hr.settled
        rfl rfl rfl
      exact ⟨t, by rw [hexec, hbody, ht], heq, hraised⟩
    · have hfails : s.quiet.endSend x.1 =
          (if u.line.sendCount > 247 then u.detach else u.setCounts (u.line.sendCount + 8) u.line.recvCount).logError x.2 := by
        obtain rfl | hx := List.mem_cons.1 hx
        · rw [State.endSend, hsending]
          rfl
        obtain rfl | hx := List.mem_cons.1 hx
        · rw [State.endSend, hsending]
          rfl
        obtain rfl := List.mem_singleton.1 hx
        rw [State.endSend, hsending]
        rfl
      refine ⟨fun hfew => ?_, fun hmany => ?_⟩
      · have hbody : s.quiet.endSend x.1 =
            ({ s.quiet with line := logged x.2 more } : State).told (countNotices l more ++ logNotices l) := by
          rw [hfails, if_neg (Nat.not_lt.2 hfew), State.setCounts_told (s := u) _ _ fun _ => hattached,
            State.logError_told (s := { u with line := counted (u.line.sendCount + 8) u.line.recvCount u.line }) x.2 _ hlog]
          rfl
        obtain ⟨t, ht, heq, hraised⟩ := finish_line (s := s) (v := { s.quiet with line := logged x.2 more })
          (countNotices l more ++ logNotices l) hr.settled rfl rfl rfl
        exact ⟨t, by rw [hexec, hbody, ht], heq, hraised⟩
      · let v : State := { s.quiet with line := logged x.2 off }
        have hmoved : (u.line.moved 255 u.line.recvCount .detached (some 0)).cautioned = off := by
          simp [LineController.moved, LineController.cautioned, off, u]
        have hdetach : u.detach = (State.recomputeShare
            { u with line := off, feed := { s.feed with detached := true } }).told (countNotices l off) := by
          rw [State.detach, State.setLine_reshares (s := u) hr.run hon (by simp [u, State.quiet, hattached]), hmoved]
          rfl
        have hbody : s.quiet.endSend x.1 =
            (({ v with feed := { s.feed with detached := true } } : State).told
              (countNotices l off ++ logNotices l)).recomputeShare := by
          rw [hfails, if_pos hmany, hdetach, State.logError_told x.2 _ (by rw [State.recomputeShare_line]; exact hlog),
            State.recomputeShare_line, ← State.recomputeShare_with_line, State.told_recomputeShare]
          rfl
        obtain ⟨t, ht, heq, hshare, hraised⟩ := finish_reshared (s := s) (w := v) (f := { s.feed with detached := true })
          (countNotices l off ++ logNotices l) hr hset hn rfl rfl rfl rfl hr.run
        exact ⟨t, by rw [hexec, hbody, ht], heq, hshare, hraised⟩
  case rejoin =>
    have hexec : exec (.rejoin n) s = .next (State.finish none s (s.quiet.countGaps n)) := event_live hr
    have hoffline : l.state = .detached := of_decide_eq_true (hgaps.symm.trans (Option.isSome_iff_exists.2 ⟨g, hg⟩))
    have hgone : s.feed.detached = true := hdet.trans (decide_eq_true hoffline)
    obtain ⟨hnone, -⟩ | ⟨g', hg', hcases⟩ := State.countGaps_cases n s.quiet
    · exact absurd (hg.symm.trans hnone) (by simp)
    obtain rfl : g = g' := Option.some.inj (hg.symm.trans hg')
    refine ⟨fun hfew => ?_, fun hmany => ?_⟩
    · obtain ⟨-, heq⟩ | ⟨hmany, -⟩ := hcases
      · rw [hexec, heq]
        exact congrArg _ (State.finish_unchanged hr.settled rfl (commandChanged_same rfl))
      · omega
    · obtain ⟨hfew, -⟩ | ⟨-, heq⟩ := hcases
      · omega
      let m : LineController := { l with state := .full, sendCount := 0, recvCount := 0, gaps := none, caution := false }
      have hmoved : (s.quiet.line.moved 0 0 .full none).cautioned = m := by
        simp [LineController.moved, LineController.cautioned, m, l, State.quiet]
      have hnotices : countNotices s.quiet.line m = [.lineState .detached .full 0 0] := by
        simp [countNotices, m, State.quiet, show s.line.state = .detached from hoffline]
      have hbody : s.quiet.countGaps n = (({ s.quiet with line := m, feed := { s.feed with detached := false } } : State).told
          [.lineState .detached .full 0 0]).recomputeShare := by
        rw [heq, State.setLine_reshares (s := s.quiet) hr.run (by simp [State.quiet, show s.line.state = .detached from hoffline])
          (by simp [State.quiet, hgone]), hmoved, hnotices, State.told_recomputeShare]
        rfl
      obtain ⟨t, ht, heq, hshare, hraised⟩ := finish_reshared (s := s) (w := { s.quiet with line := m })
        (f := { s.feed with detached := false }) [.lineState .detached .full 0 0] hr hset hn rfl rfl rfl rfl hr.run
      exact ⟨t, by rw [hexec, hbody, ht], heq, hshare, hraised⟩
  · have hexec : exec (.rejoin n) s = .next (State.finish none s (s.quiet.countGaps n)) := event_live hr
    have hnone : s.quiet.line.gaps = none := by
      rw [← Option.not_isSome_iff_eq_none]
      exact fun h => hstate (of_decide_eq_true (hgaps.symm.trans h))
    rw [hexec, State.countGaps, hnone, hstill]

end Sys2Proof.Machine
end


section
/-! SUPPORT. The bytes of the frames received and sent, and what a posting makes of the Outbound queue (R160, R168, R169, R171,
R178). -/

namespace Sys2Proof.Machine

open Sys2Proof.Machine.Safety

/-! ### Received frames (R160, R171) -/

/-- A payload that carries the whole of its layout is read as it is. -/
@[simp] theorem filledPayload_whole {free : Nat} {f : RawFrame} (h : layoutLength f.kind.toNat ≤ f.payload.length) :
    filledPayload free f = f.payload := by
  rw [filledPayload, missingBytes, Nat.sub_eq_zero_of_le h, List.range_zero, List.map_nil, List.append_nil]

/-- A frame with a destination is the part's in RUN and under its own station. -/
theorem mine_iff {part : Part} {me dest : Station} {p : List Byte} :
    (part == .run && field (bytesOf 1 dest ++ p) 0 1 == me.val) = true ↔ part = .run ∧ dest = me := by
  have hdest : dest.val % 256 ^ 1 = dest.val := Nat.mod_eq_of_lt (dest.isLt.trans (by decide))
  rw [field_front, hdest, Bool.and_eq_true, beq_iff_eq, beq_iff_eq, Fin.ext_iff]

/-- A whole frame with a destination. -/
theorem sortFrame_addressed {src me dest : Station} {part : Part} {free kind : Nat} {p : List Byte} {x : AskBody}
    (hkind : isAddressed (BitVec.ofNat 8 kind).toNat = true)
    (hlen : layoutLength (BitVec.ofNat 8 kind).toNat ≤ (bytesOf 1 dest ++ p).length)
    (hrow : sortFrame .run dest free ⟨src, BitVec.ofNat 8 kind, bytesOf 1 dest ++ p⟩ = .ask ⟨src, x⟩) :
    sortFrame part me free ⟨src, BitVec.ofNat 8 kind, bytesOf 1 dest ++ p⟩ =
      if part = .run ∧ dest = me then .ask ⟨src, x⟩ else .notStored := by
  by_cases h : part = .run ∧ dest = me
  · obtain ⟨rfl, rfl⟩ := h
    rw [if_pos ⟨rfl, rfl⟩, hrow]
  · have hnot : (part == .run && field (bytesOf 1 dest ++ p) 0 1 == me.val) = false := Bool.eq_false_iff.2 (mine_iff.not.2 h)
    rw [if_neg h, sortFrame, filledPayload_whole hlen]
    dsimp only
    rw [hkind, hnot]
    rfl

@[simp] theorem tail_bytesOf_one (n : Nat) (p : List Byte) : (bytesOf 1 n ++ p).tail = p := rfl

/-- The persistence of a TEMPLATE BODY, over its time of day. -/
theorem persistence_bit {c : Nat} (kept : Bool) (hc : c < 2 ^ 17) :
    (BitVec.ofNat 8 (((if kept = true then 2 ^ 23 else 0) + c) / 256 ^ 2)).getLsbD 7 = kept := by
  have hcases : c / 65536 = 0 ∨ c / 65536 = 1 := by omega
  cases kept with
  | false =>
    rw [if_neg Bool.false_ne_true, Nat.zero_add]
    obtain h | h := hcases <;> rw [show c / 256 ^ 2 = c / 65536 from rfl, h] <;> rfl
  | true =>
    have hadd : (2 ^ 23 + c) / 256 ^ 2 = 128 + c / 65536 := by omega
    rw [if_pos rfl, hadd]
    obtain h | h := hcases <;> rw [h] <;> rfl

/-- The existing flag of an OFFER. -/
theorem existingFlag_bytesOf (kept : Bool) : existingFlag (BitVec.ofNat 8 (if kept = true then 1 else 0)) = kept := by
  cases kept <;> rfl

section
variable (src me dest : Station) (part : Part) (a b c d e f : Nat) (kept : Bool) (free : Nat) (content : List Byte)

/-- The fields of the kinds without a destination. -/
theorem sortFrame_open :
    let rd (kind : Nat) (payload : List Byte) := sortFrame part me free ⟨src, BitVec.ofNat 8 kind, payload⟩
    (a < 2 ^ 24 → b < 2 ^ 24 → rd 0 (bytesOf 3 a ++ bytesOf 3 b) = .peer ⟨src, .siteFeed a b⟩) ∧
    (a < 2 ^ 32 → rd 1 (bytesOf 4 a) = .ask ⟨src, .claim a⟩) ∧
    (a < 2 ^ 16 → b < 2 ^ 16 → rd 3 (bytesOf 2 a ++ bytesOf 2 b) = .peer ⟨src, .drawClaim a b⟩) ∧
    (a < 2 ^ 8 → b < 2 ^ 8 → c < 2 ^ 16 →
      rd 4 (bytesOf 1 a ++ bytesOf 1 b ++ bytesOf 2 c ++ bytesOf 1 (if kept = true then 1 else 0)) =
        .peer ⟨src, .offer a b c kept⟩) ∧
    (a < 2 ^ 8 → b < 2 ^ 32 → c < 2 ^ 8 → d < 2 ^ 16 → e < 2 ^ 16 → f < 2 ^ 16 →
      rd 5 (bytesOf 1 a ++ bytesOf 4 b ++ bytesOf 1 c ++ bytesOf 2 d ++ bytesOf 2 e ++ bytesOf 2 f) =
        .ask ⟨src, .swapAsk a b c d e f⟩) ∧
    (a < 2 ^ 24 → rd 12 (bytesOf 3 a) = .peer ⟨src, .dayTime a⟩) ∧
    (a < 2 ^ 8 → rd 17 (bytesOf 1 a ++ content) = .ask ⟨src, .setup a content⟩) := by
  intro rd
  refine ⟨fun ha hb => ?_, fun ha => ?_, fun ha hb => ?_, fun ha hb hc => ?_, fun ha hb hc hd he hf => ?_, fun ha => ?_,
    fun ha => ?_⟩
  · simp [rd, sortFrame, isAddressed, layoutLength]
    omega
  · simp [rd, sortFrame, isAddressed, layoutLength]
    omega
  · simp [rd, sortFrame, isAddressed, layoutLength]
    omega
  · simp [rd, sortFrame, isAddressed, layoutLength, bytesOf_one (if kept = true then 1 else 0), existingFlag_bytesOf]
    omega
  · simp [rd, sortFrame, isAddressed, layoutLength]
    omega
  · simp [rd, sortFrame, isAddressed, layoutLength]
    omega
  · simp [rd, sortFrame, isAddressed, layoutLength]
    omega

/-- The fields of the kinds with one. -/
theorem sortFrame_mine :
    let rd (kind : Nat) (payload : List Byte) := sortFrame part me free ⟨src, BitVec.ofNat 8 kind, bytesOf 1 dest ++ payload⟩
    let mine (x : AskBody) : Sorted := if part = .run ∧ dest = me then .ask ⟨src, x⟩ else .notStored
    (a < 2 ^ 16 → rd 7 (bytesOf 2 a) = mine (.release a)) ∧
    (a < 2 ^ 8 → b < 2 ^ 8 → rd 8 (bytesOf 1 a ++ bytesOf 1 b) = mine (.service a b)) ∧
    (a < 2 ^ 8 → rd 9 (bytesOf 1 a) = mine (.templateOpen a)) ∧
    (a < 2 ^ 32 → b < 2 ^ 8 → c < 2 ^ 17 → d < 2 ^ 12 → e < 2 ^ 12 →
      rd 10 (bytesOf 4 a ++ bytesOf 1 b ++ bytesOf 3 ((if kept = true then 2 ^ 23 else 0) + c) ++
        bytesOf 3 (d * 2 ^ 12 + e)) = mine (.templateBody a b kept c d e)) ∧
    (a < 2 ^ 8 → b < 2 ^ 8 → rd 11 (bytesOf 1 a ++ bytesOf 1 b) = mine (.templateDrop a b)) ∧
    (a < 2 ^ 8 → rd 14 (bytesOf 1 a) = mine (.statusAsk a)) ∧
    rd 15 content = mine (.statusClear content) := by
  intro rd mine
  have hdest : dest.val < 256 := dest.isLt.trans (by decide)
  refine ⟨fun ha => sortFrame_addressed rfl ?_ ?_, fun ha hb => sortFrame_addressed rfl ?_ ?_,
    fun ha => sortFrame_addressed rfl ?_ ?_, fun ha hb hc hd he => sortFrame_addressed rfl ?_ ?_,
    fun ha hb => sortFrame_addressed rfl ?_ ?_, fun ha => sortFrame_addressed rfl ?_ ?_, sortFrame_addressed rfl ?_ ?_⟩
  · simp [layoutLength]
  · simp [sortFrame, isAddressed, layoutLength, hdest, Nat.not_le.2 hdest]
    omega
  · simp [layoutLength]
  · simp [sortFrame, isAddressed, layoutLength, hdest, Nat.not_le.2 hdest]
    omega
  · simp [layoutLength]
  · simp [sortFrame, isAddressed, layoutLength, hdest, Nat.not_le.2 hdest]
    omega
  · simp [layoutLength]
  · simp [sortFrame, isAddressed, layoutLength, hdest, Nat.not_le.2 hdest]
    refine ⟨ha, hb, persistence_bit kept hc, ?_, by omega, he⟩
    split <;> omega
  · simp [layoutLength]
  · simp [sortFrame, isAddressed, layoutLength, hdest, Nat.not_le.2 hdest]
    omega
  · simp [layoutLength]
  · simp [sortFrame, isAddressed, layoutLength, hdest, Nat.not_le.2 hdest]
    omega
  · simp [layoutLength]
  · simp [sortFrame, isAddressed, layoutLength, hdest, Nat.not_le.2 hdest]

end

/-! ### Sent frames (R171, R178) -/

/-- Fields written one after another. -/
def flatBytes (l : List (Nat × Nat)) : List Byte := l.flatMap fun x => bytesOf x.1 x.2

theorem spelt_field {w n : Nat} {v : Option Nat} {fields : List (Nat × Option Nat)} {p : List Byte}
    (hv : ∀ m, v = some m → n = m) (h : Spelt fields p) : Spelt ((w, v) :: fields) (bytesOf w n ++ p) := by
  refine ⟨by simp, fun m hm => ?_, ?_⟩
  · rw [List.take_left' (bytesOf_length w n), ofBytes_bytesOf, hv m hm]
  · rw [List.drop_left' (bytesOf_length w n)]
    exact h

/-- Fields whose numbers are all given, and others after them. -/
theorem spelt_given {l : List (Nat × Nat)} {fields : List (Nat × Option Nat)} {p : List Byte} (h : Spelt fields p) :
    Spelt (given l ++ fields) (flatBytes l ++ p) := by
  induction l with
  | nil => exact h
  | cons x l ih =>
    have hflat : flatBytes (x :: l) ++ p = bytesOf x.1 x.2 ++ (flatBytes l ++ p) := List.append_assoc ..
    rw [hflat]
    exact spelt_field (fun m hm => Option.some.inj hm) ih

theorem spelt_all (l : List (Nat × Nat)) : Spelt (given l) (flatBytes l) := by
  have h := spelt_given (l := l) (fields := []) (p := []) rfl
  rwa [List.append_nil, List.append_nil] at h

/-- The fields of an ANSWER that its code gives no content. -/
theorem spelt_unused (w v n : Nat) (x : Option Nat) (hv : ∀ m, x = some m → n = m) :
    Spelt [(1, none), (w, x)] (bytesOf 1 v ++ bytesOf w n) := by
  have h := spelt_field (w := 1) (n := v) (v := none) (fields := [(w, x)]) (p := bytesOf w n ++ []) (fun m hm => nomatch hm)
    (spelt_field hv rfl)
  rwa [List.append_nil] at h

/-- The code, group and arguments of each notice. -/
theorem notice_row (n : Notice) :
    n.code = (noticeRow n).1 ∧ groupOfCode n.code = (noticeRow n).2.1 ∧ n.args = flatBytes (noticeRow n).2.2 := by
  cases n with
  | doorForced b door present => cases door <;> cases present <;> exact ⟨rfl, rfl, rfl⟩
  | serviceRefused b action st => cases st <;> exact ⟨rfl, rfl, rfl⟩
  | templateSet i token kept => cases kept <;> exact ⟨rfl, rfl, rfl⟩
  | dayClockSet o n day =>
    have hday : dayBytes day = bytesOf 2 (day % 65536).toNat := by rw [dayBytes, BitVec.toNat_ofInt]; rfl
    refine ⟨rfl, rfl, ?_⟩
    rw [Notice.args, hday]
    cases o <;> rfl
  | boostFault b c holder => cases holder <;> exact ⟨rfl, rfl, rfl⟩
  | _ => exact ⟨rfl, rfl, rfl⟩

theorem outFrame_sentAs (me : Station) (free : Nat) (x : OutFrame) :
    x.precedence = (sentAs me x).1 ∧ x.kind = (sentAs me x).2.1 ∧ Spelt (sentAs me x).2.2 (x.payload me free) := by
  cases x with
  | claimReply d token r =>
    refine ⟨rfl, rfl, ?_⟩
    cases r with
    | go id b => exact spelt_all [(1, d.val), (4, token), (1, 0), (2, id), (1, me), (2, b)]
    | busy id b => exact spelt_all [(1, d.val), (4, token), (1, 1), (2, id), (1, me), (2, b)]
    | wait id e => exact spelt_all [(1, d.val), (4, token), (1, 2), (2, id), (1, me), (2, e)]
    | notReady id => exact spelt_all [(1, d.val), (4, token), (1, 3), (2, id), (1, me), (2, 0)]
    | tooLate => exact spelt_all [(1, d.val), (4, token), (1, 4), (2, 0), (1, me), (2, 0)]
  | drawClaim demand priority => exact ⟨rfl, rfl, spelt_all [(2, demand), (2, priority)]⟩
  | offer t a off e => exact ⟨rfl, rfl, spelt_all [(1, t), (1, a), (2, off), (1, boolByte e)]⟩
  | answer d a =>
    refine ⟨rfl, rfl, ?_⟩
    cases a with
    | hold n =>
      exact spelt_given (l := [(1, d.val), (1, n), (1, 0), (2, 0)]) (spelt_unused 2 (Config.unusedAnswerField free)
        (Config.unusedAnswerField (free + 1)) none fun m hm => nomatch hm)
    | granted n id off => exact spelt_all [(1, d.val), (1, n), (1, 1), (2, id), (1, me), (2, off)]
    | none n r =>
      exact spelt_given (l := [(1, d.val), (1, n), (1, 2), (2, 0)]) (spelt_unused 2 (Config.unusedAnswerField free) r.code
        (some r.code) fun m hm => Option.some.inj hm)
    | busy id =>
      exact spelt_given (l := [(1, d.val), (1, 0), (1, 3), (2, id)]) (spelt_unused 2 (Config.unusedAnswerField free)
        (Config.unusedAnswerField (free + 1)) none fun m hm => nomatch hm)
  | notice n =>
    obtain ⟨hcode, -, hargs⟩ := notice_row n
    refine ⟨rfl, rfl, ?_⟩
    rw [OutFrame.payload, hcode, hargs]
    exact spelt_all ((1, (noticeRow n).1) :: (noticeRow n).2.2)
  | overrun c => exact ⟨rfl, rfl, spelt_all [(1, 40), (1, c)]⟩
  | statusReply d page figures =>
    refine ⟨rfl, rfl, ?_⟩
    have hfigures : figures = flatBytes (figures.map fun x => (1, x.toNat)) := by
      induction figures with
      | nil => rfl
      | cons b bs ih =>
        have hflat : flatBytes ((b :: bs).map fun x => (1, x.toNat)) =
            bytesOf 1 b.toNat ++ flatBytes (bs.map fun x => (1, x.toNat)) := rfl
        rw [hflat, ← ih, bytesOf_one, BitVec.ofNat_toNat, BitVec.setWidth_eq]
        rfl
    have h := spelt_all ((1, d.val) :: (1, page) :: figures.map fun x => (1, x.toNat))
    change Spelt _ (bytesOf 1 d ++ (bytesOf 1 page ++ flatBytes (figures.map fun x => (1, x.toNat)))) at h
    rw [← hfigures, ← List.append_assoc] at h
    exact h

/-! ### Postings (R168, R169) -/

theorem OutFrame.isDrawClaim_iff {x : OutFrame} : x.isDrawClaim = true ↔ ∃ d p, x = .drawClaim d p := by
  cases x <;> simp [OutFrame.isDrawClaim]

theorem OutFrame.isNotice_iff {x : OutFrame} : x.isNotice = true ↔ (∃ n, x = .notice n) ∨ ∃ c, x = .overrun c := by
  cases x <;> simp [OutFrame.isNotice]

theorem OutEntry.idleNotice_iff {e : OutEntry} : e.idleNotice = true ↔ IdleNotice e := by
  rw [OutEntry.idleNotice, IdleNotice, Bool.and_eq_true, OutFrame.isNotice_iff, Bool.not_eq_true', and_comm]

theorem OutEntry.idleOverrun_iff {e : OutEntry} : e.idleOverrun = true ↔ ∃ k, e = ⟨.overrun k, false⟩ := by
  obtain ⟨x, sending⟩ := e
  cases x <;> cases sending <;> simp [OutEntry.idleOverrun]

theorem OutFrame.noticesHeld_eq (x : OutFrame) : x.noticesHeld = match x with | .overrun c => c | _ => 1 := by
  cases x <;> rfl

section
variable {l : LineController} {x : OutFrame}

/-- A DRAW CLAIM takes the place of the one queued. -/
theorem LineController.post_replaces {pre post : List OutEntry} {e : OutEntry} (hq : l.outQueue = pre ++ e :: post)
    (hx : x.isDrawClaim = true) (he : e.frame.isDrawClaim = true) (hpre : ∀ y ∈ pre, y.frame.isDrawClaim = false) :
    l.post x = { l with outQueue := pre ++ post ++ [⟨x, false⟩] } := by
  have hany : (l.outQueue.any fun y => y.frame.isDrawClaim) = true := by
    rw [hq]
    exact List.any_eq_true.2 ⟨e, by simp, he⟩
  rw [LineController.post, hx, hany]
  refine (if_pos rfl).trans ?_
  rw [hq, List.eraseP_append_right _ fun y hy => by simp [hpre y hy],
    List.eraseP_cons_of_pos (p := fun y : OutEntry => y.frame.isDrawClaim) he]

/-- Where it takes no queued claim's place, a frame goes by the length of the queue. -/
theorem LineController.post_other (hno : ¬ (x.isDrawClaim = true ∧ ∃ e ∈ l.outQueue, e.frame.isDrawClaim = true)) :
    l.post x =
      if l.outQueue.length < 8 then { l with outQueue := l.outQueue ++ [⟨x, false⟩] }
      else if x.isNotice = true then l.postNoticeFull else l.postOtherFull x := by
  refine if_neg fun h => hno ?_
  rw [Bool.and_eq_true, List.any_eq_true] at h
  exact h

/-- A NOTICE that finds an OVERRUN in a full queue is counted there. -/
theorem LineController.postNoticeFull_counts {pre post : List OutEntry} {c : Nat}
    (hq : l.outQueue = pre ++ ⟨.overrun c, false⟩ :: post) (hpre : ∀ y ∈ pre, y.idleOverrun = false) :
    l.postNoticeFull =
      { l with outQueue := pre ++ ⟨.overrun (min 255 (c + 1)), false⟩ :: post, noticesLost := min 255 (l.noticesLost + 1) } := by
  have hany : l.outQueue.any OutEntry.idleOverrun = true := by
    rw [hq]
    exact List.any_eq_true.2 ⟨⟨.overrun c, false⟩, by simp, rfl⟩
  rw [LineController.postNoticeFull, if_pos hany, hq, changeFirst_split _ hpre rfl]
  rfl

/-- One that finds no OVERRUN makes one of the newest notice. -/
theorem LineController.postNoticeFull_makes {pre post : List OutEntry} {e : OutEntry} (hq : l.outQueue = pre ++ e :: post)
    (hno : ∀ y ∈ l.outQueue, y.idleOverrun = false) (he : e.idleNotice = true) (hpost : ∀ y ∈ post, y.idleNotice = false) :
    l.postNoticeFull =
      { l with outQueue := pre ++ ⟨.overrun 2, false⟩ :: post, noticesLost := min 255 (l.noticesLost + 2) } := by
  have hnone : ¬ l.outQueue.any OutEntry.idleOverrun = true := by
    rw [List.any_eq_true]
    exact fun ⟨y, hy, h⟩ => absurd ((hno y hy).symm.trans h) (by simp)
  have hany : l.outQueue.any OutEntry.idleNotice = true := by
    rw [hq]
    exact List.any_eq_true.2 ⟨e, by simp, he⟩
  have hsending : e.sending = false := (OutEntry.idleNotice_iff.1 he).1
  rw [LineController.postNoticeFull, if_neg hnone, if_pos hany, hq, List.reverse_append, List.reverse_cons, List.append_assoc,
    List.singleton_append, changeFirst_split _ (fun y hy => hpost y (List.mem_reverse.1 hy)) he, hsending]
  simp [addTo255]

/-- One that finds no notice is lost. -/
theorem LineController.postNoticeFull_loses (hno : ∀ y ∈ l.outQueue, y.idleOverrun = false)
    (hnotice : ∀ y ∈ l.outQueue, y.idleNotice = false) :
    l.postNoticeFull = { l with noticesLost := min 255 (l.noticesLost + 1) } := by
  have hnone : ∀ p : OutEntry → Bool, (∀ y ∈ l.outQueue, p y = false) → ¬ l.outQueue.any p = true := fun p hp => by
    rw [List.any_eq_true]
    exact fun ⟨y, hy, h⟩ => absurd ((hp y hy).symm.trans h) (by simp)
  rw [LineController.postNoticeFull, if_neg (hnone _ hno), if_neg (hnone _ hnotice)]
  rfl

/-- Any other frame drops the oldest notice of a full queue. -/
theorem LineController.postOtherFull_drops {pre post : List OutEntry} {e : OutEntry} (hq : l.outQueue = pre ++ e :: post)
    (he : e.idleNotice = true) (hpre : ∀ y ∈ pre, y.idleNotice = false) :
    l.postOtherFull x =
      { l with
        outQueue := pre ++ post ++ [⟨x, false⟩]
        noticesLost := min 255 (l.noticesLost + (match e.frame with | .overrun c => c | _ => 1)) } := by
  have hfind : l.outQueue.find? OutEntry.idleNotice = some e := by
    rw [hq]
    exact List.find?_eq_some_iff_append.2 ⟨he, pre, post, rfl, fun y hy => by simp [hpre y hy]⟩
  rw [LineController.postOtherFull, hfind]
  dsimp only
  rw [hq, List.eraseP_append_right _ fun y hy => by simp [hpre y hy], List.eraseP_cons_of_pos he, OutFrame.noticesHeld_eq]
  rfl

/-- One that finds no notice is lost. -/
theorem LineController.postOtherFull_loses (hno : ∀ y ∈ l.outQueue, y.idleNotice = false) :
    l.postOtherFull x = { l with sendsDropped := min 255 (l.sendsDropped + 1) } := by
  have hfind : l.outQueue.find? OutEntry.idleNotice = none := List.find?_eq_none.2 fun y hy => by simp [hno y hy]
  rw [LineController.postOtherFull, hfind]
  rfl

end

/-- Settles O57: the layouts both ways, the codes, and the cases of a posting. -/
theorem receivedFieldsAreThoseSent : Obligations.ReceivedFieldsAreThoseSent := by
  refine ⟨fun src me dest part a b c d e f kept free content => ?_, ofBytes_cons, outFrame_sentAs, fun n => ?_, rfl, rfl,
    fun _ => rfl, fun _ => rfl, rfl, rfl, rfl, rfl, rfl, rfl, rfl, rfl, fun l x => ?posts⟩
  · obtain ⟨h0, h1, h3, h4, h5, h12, h17⟩ := sortFrame_open src me part a b c d e f kept free content
    obtain ⟨h7, h8, h9, h10, h11, h14, h15⟩ := sortFrame_mine src me dest part a b c d e kept free content
    exact ⟨h0, h1, h3, h4, h5, h7, h8, h9, h10, h11, h12, h14, h15, h17⟩
  · obtain ⟨hcode, hgroup, -⟩ := notice_row n
    exact ⟨hcode, hgroup⟩
  case posts =>
    intro claim replaces full lost
    have hclaim : ∀ y : OutFrame, claim y ↔ y.isDrawClaim = true := fun y => OutFrame.isDrawClaim_iff.symm
    have hreplaces : replaces ↔ x.isDrawClaim = true ∧ ∃ e ∈ l.outQueue, e.frame.isDrawClaim = true := by
      unfold replaces
      simp only [hclaim]
    have hidle : ∀ y : OutEntry, ¬ IdleNotice y → y.idleNotice = false := fun y hy =>
      Bool.eq_false_iff.2 (OutEntry.idleNotice_iff.not.2 hy)
    have hover : ∀ y : OutEntry, (∀ k, y ≠ ⟨.overrun k, false⟩) → y.idleOverrun = false := fun y hy =>
      Bool.eq_false_iff.2 fun h => by
        obtain ⟨k, hk⟩ := OutEntry.idleOverrun_iff.1 h
        exact hy k hk
    refine ⟨fun pre post e hq hx he hpre => ?_, fun hlen hno => ?_, fun ⟨hfull, hno⟩ ⟨n, hn⟩ => ?notice,
      fun ⟨hfull, hno⟩ hnotice hoverrun => ?other⟩
    · exact LineController.post_replaces hq ((hclaim x).1 hx) ((hclaim _).1 he) fun y hy =>
        Bool.eq_false_iff.2 fun h => hpre y hy ((hclaim _).2 h)
    · rw [LineController.post_other (hreplaces.not.1 hno), if_pos hlen]
    case notice =>
      rw [LineController.post_other (hreplaces.not.1 hno), if_neg (Nat.not_lt.2 hfull),
        if_pos (OutFrame.isNotice_iff.2 (.inl ⟨n, hn⟩))]
      exact ⟨fun pre post c hq hpre => LineController.postNoticeFull_counts hq fun y hy => hover y (hpre y hy),
        fun hnone => ⟨fun pre post e hq he hpost => LineController.postNoticeFull_makes hq (fun y hy => hover y (hnone y hy))
          (OutEntry.idleNotice_iff.2 he) fun y hy => hidle y (hpost y hy),
        fun hidles => LineController.postNoticeFull_loses (fun y hy => hover y (hnone y hy)) fun y hy => hidle y (hidles y hy)⟩⟩
    case other =>
      have hnot : ¬ x.isNotice = true := OutFrame.isNotice_iff.not.2 fun h =>
        h.elim (fun ⟨n, hn⟩ => hnotice n hn) fun ⟨c, hc⟩ => hoverrun c hc
      rw [LineController.post_other (hreplaces.not.1 hno), if_neg (Nat.not_lt.2 hfull), if_neg hnot]
      exact ⟨fun pre post e hq he hpre => LineController.postOtherFull_drops hq (OutEntry.idleNotice_iff.2 he) fun y hy =>
        hidle y (hpre y hy), fun hidles => LineController.postOtherFull_loses fun y hy => hidle y (hidles y hy)⟩

end Sys2Proof.Machine
end


section
/-! SUPPORT. The moves of a pass: no two of them are about one record or touch one bay (R86, R87). -/

namespace Sys2Proof.Machine

open Sys2Proof.Machine.Safety

/-- The bays that a move takes from the pass: the one bound, and the one freed. -/
def Move.touched : Move → List BayNo
  | .bind _ b => [b]
  | .rebind _ old new => [new, old]

/-- The moves of a view are about distinct records and distinct bays, and no other bay has been changed. -/
structure DistinctMoves (n : Snapshot) (v : View) : Prop where
  ids : (v.moves.map moveId).Nodup
  touched : (v.moves.flatMap Move.touched).Nodup
  chosen : ∀ b, b ∈ v.chosen ↔ b ∈ v.moves.flatMap Move.touched
  bays : ∀ b, b ∉ v.chosen → v.bays[b] = n.bays[b]

/-- A view has moved neither a record nor the bay that a rebinding of it would free. -/
def FreshTo (n : Snapshot) (v : View) (r : Reservation) : Prop :=
  (∀ m ∈ v.moves, moveId m ≠ r.id) ∧ ∀ old, r.state = .bound old → n.bays[old].state = .held → old ∉ v.chosen

section
variable {cfg : Setup} {n : Snapshot} {v w : View} {m : Move} {r : Reservation}

/-- One more move. -/
theorem DistinctMoves.extend (h : DistinctMoves n v) (hmoves : w.moves = v.moves ++ [m]) (hchosen : w.chosen = m.touched ++ v.chosen)
    (hbays : ∀ b, b ∉ m.touched → w.bays[b] = v.bays[b]) (hid : ∀ k ∈ v.moves, moveId k ≠ moveId m) (hnodup : m.touched.Nodup)
    (hfresh : ∀ b ∈ m.touched, b ∉ v.chosen) : DistinctMoves n w := by
  refine ⟨?_, ?_, fun b => ?_, fun b hb => ?_⟩
  · rw [hmoves, List.map_append, List.nodup_append]
    refine ⟨h.ids, List.nodup_singleton _, fun a ha b hb => ?_⟩
    obtain ⟨k, hk, rfl⟩ := List.mem_map.1 ha
    rw [List.mem_singleton.1 hb]
    exact hid k hk
  · rw [hmoves, List.flatMap_append, List.flatMap_singleton, List.nodup_append]
    refine ⟨h.touched, hnodup, fun a ha b hb hab => ?_⟩
    subst hab
    exact hfresh a hb ((h.chosen a).2 ha)
  · rw [hmoves, hchosen, List.flatMap_append, List.flatMap_singleton, List.mem_append, List.mem_append, h.chosen, or_comm]
  · rw [hchosen, List.mem_append, not_or] at hb
    exact (hbays b hb.1).trans (h.bays b hb.2)

theorem FreshTo.extend (h : FreshTo n v r) (hmoves : w.moves = v.moves ++ [m]) (hchosen : w.chosen = m.touched ++ v.chosen)
    (hid : moveId m ≠ r.id) (hold : ∀ old, r.state = .bound old → n.bays[old].state = .held → old ∉ m.touched) :
    FreshTo n w r := by
  obtain ⟨hids, hbays⟩ := h
  refine ⟨fun k hk => ?_, fun old hr hheld hmem => ?_⟩
  · rw [hmoves] at hk
    obtain hk | hk := List.mem_append.1 hk
    · exact hids k hk
    · rw [List.mem_singleton.1 hk]
      exact hid
  · rw [hchosen] at hmem
    obtain hmem | hmem := List.mem_append.1 hmem
    · exact hold old hr hheld hmem
    · exact hbays old hr hheld hmem

/-! ### The stages (R86, R87) -/

theorem View.bindOne_cases (cfg : Setup) (v : View) (r : Reservation) :
    v.bindOne cfg r = v ∨
    ∃ b, r.state = .pending ∧ v.candidate r b = true ∧
      v.bindOne cfg r = { v.hold r.id b with chosen := b :: v.chosen, moves := v.moves ++ [.bind r.id b] } := by
  unfold View.bindOne
  split
  · next hpending =>
    split
    · next b hb => exact .inr ⟨b, hpending, (leastBy_baysWhere_iff.1 hb).1, rfl⟩
    · exact .inl rfl
  · exact .inl rfl

theorem View.rebindOne_cases (cfg : Setup) (n : Snapshot) (v : View) (r : Reservation) :
    v.rebindOne cfg n r = v ∨
    ∃ old b, r.state = .bound old ∧ n.bays[old].state = .held ∧ v.candidate r b = true ∧
      v.rebindOne cfg n r =
        { (v.free old).hold r.id b with chosen := b :: old :: v.chosen, moves := v.moves ++ [.rebind r.id old b] } := by
  unfold View.rebindOne
  split
  · next old hbound =>
    dsimp only
    split
    · next hbehind =>
      split
      · next b hb =>
        obtain ⟨hcand, -⟩ := (Bool.and_eq_true _ _).mp (leastBy_baysWhere_iff.1 hb).1
        exact .inr ⟨old, b, hbound, hbehind.1, hcand, rfl⟩
      · exact .inl rfl
    · exact .inl rfl
  · exact .inl rfl

/-- A candidate has not been chosen, and stands in STOCK in the snapshot. -/
theorem DistinctMoves.candidate (h : DistinctMoves n v) {b : BayNo} (hc : v.candidate r b = true) :
    b ∉ v.chosen ∧ n.bays[b].state = .stock := by
  obtain ⟨hstock, hfree, -⟩ := View.candidate_iff.1 hc
  exact ⟨hfree, (congrArg Bay.state (h.bays b hfree)).symm.trans hstock⟩

theorem stock_ne_held {b old : BayNo} (hstock : n.bays[b].state = .stock) (hheld : n.bays[old].state = .held) : old ≠ b := by
  rintro rfl
  exact absurd (hstock.symm.trans hheld) (by simp)

/-- The binding stage for the records of a list. -/
theorem DistinctMoves.bindStage (hids : (n.records.map (·.id)).Nodup) {l : List Reservation} (hl : l.Sublist n.records)
    (h : DistinctMoves n v) (hfresh : ∀ r ∈ n.records, (r ∈ l ∨ r.state ≠ .pending) → FreshTo n v r) :
    DistinctMoves n (l.foldl (View.bindOne cfg) v) ∧
      ∀ r ∈ n.records, r.state ≠ .pending → FreshTo n (l.foldl (View.bindOne cfg) v) r := by
  induction l generalizing v with
  | nil => exact ⟨h, fun r hr hp => hfresh r hr (.inr hp)⟩
  | cons x xs ih =>
    have hx : x ∈ n.records := hl.subset List.mem_cons_self
    have hxs : x ∉ xs := (List.nodup_cons.1 (List.Nodup.of_map _ (hids.sublist (hl.map _)))).1
    refine ih ((List.sublist_cons_self x xs).trans hl) ?_ fun r hr hr' => ?_
    · obtain heq | ⟨b, hpending, hcand, heq⟩ := View.bindOne_cases cfg v x
      · rw [heq]
        exact h
      · obtain ⟨hfree, -⟩ := h.candidate hcand
        rw [heq]
        refine h.extend (m := .bind x.id b) rfl rfl (fun c hc => ?_) (hfresh x hx (.inl List.mem_cons_self)).1
          (List.nodup_singleton b) fun c hc => List.mem_singleton.1 hc ▸ hfree
        exact Vector.getElem_set_ne b.isLt c.isLt fun he => hc (List.mem_singleton.2 (Fin.ext he).symm)
    · have hold : FreshTo n v r := hfresh r hr (hr'.imp_left (List.mem_cons_of_mem x))
      obtain heq | ⟨b, hpending, hcand, heq⟩ := View.bindOne_cases cfg v x
      · rw [heq]
        exact hold
      · obtain ⟨-, hstock⟩ := h.candidate hcand
        have hne : x ≠ r := by
          rintro rfl
          exact hr'.elim hxs fun hp => hp hpending
        rw [heq]
        refine hold.extend (m := .bind x.id b) rfl rfl (fun he => hne (List.inj_on_of_nodup_map hids hx hr he)) fun old _ hheld hmem => ?_
        exact stock_ne_held hstock hheld (List.mem_singleton.1 hmem)

/-- The rebinding stage for the records of a list. -/
theorem DistinctMoves.rebindStage (hids : (n.records.map (·.id)).Nodup)
    (hnames : ∀ r ∈ n.records, ∀ b, r.state = .bound b → n.bays[b].state = .held → n.bays[b].reservation = some r.id)
    {l : List Reservation} (hl : l.Sublist n.records) (h : DistinctMoves n v)
    (hfresh : ∀ r ∈ l, r.state ≠ .pending → FreshTo n v r) : DistinctMoves n (l.foldl (View.rebindOne cfg n) v) := by
  induction l generalizing v with
  | nil => exact h
  | cons x xs ih =>
    have hx : x ∈ n.records := hl.subset List.mem_cons_self
    have hxs : x ∉ xs := (List.nodup_cons.1 (List.Nodup.of_map _ (hids.sublist (hl.map _)))).1
    have hrest : ∀ r ∈ xs, x.id ≠ r.id := fun r hr he =>
      hxs (List.inj_on_of_nodup_map hids hx (hl.subset (List.mem_cons_of_mem x hr)) he ▸ hr)
    refine ih ((List.sublist_cons_self x xs).trans hl) ?_ fun r hr hp => ?_
    · obtain heq | ⟨old, b, hbound, hheld, hcand, heq⟩ := View.rebindOne_cases cfg n v x
      · rw [heq]
        exact h
      · obtain ⟨hfree, hstock⟩ := h.candidate hcand
        have hne := stock_ne_held hstock hheld
        obtain ⟨hmoves, hfrees⟩ := hfresh x List.mem_cons_self (by rw [hbound]; simp)
        rw [heq]
        refine h.extend (m := .rebind x.id old b) rfl rfl (fun c hc => ?_) hmoves (by simp [Move.touched, hne.symm]) fun c hc => ?_
        · have hcb : c ≠ b := fun he => hc (by simp [Move.touched, he])
          have hco : c ≠ old := fun he => hc (by simp [Move.touched, he])
          refine (Vector.getElem_set_ne b.isLt c.isLt fun he => hcb (Fin.ext he).symm).trans ?_
          exact Vector.getElem_set_ne old.isLt c.isLt fun he => hco (Fin.ext he).symm
        · obtain rfl | hc := List.mem_cons.1 hc
          · exact hfree
          · rw [List.mem_singleton.1 hc]
            exact hfrees old hbound hheld
    · have hold : FreshTo n v r := hfresh r (List.mem_cons_of_mem x hr) hp
      obtain heq | ⟨old, b, hbound, hheld, hcand, heq⟩ := View.rebindOne_cases cfg n v x
      · rw [heq]
        exact hold
      · obtain ⟨-, hstock⟩ := h.candidate hcand
        rw [heq]
        refine hold.extend (m := .rebind x.id old b) rfl rfl (hrest r hr) fun old' hr' hheld' hmem => ?_
        obtain rfl | hmem := List.mem_cons.1 hmem
        · exact stock_ne_held hstock hheld' rfl
        · obtain rfl := List.mem_singleton.1 hmem
          have hnamed := hnames x hx old' hbound hheld
          have hnamed' := hnames r (hl.subset (List.mem_cons_of_mem x hr)) old' hr' hheld
          exact hrest r hr (Option.some.inj (hnamed.symm.trans hnamed'))

/-- The moves of a pass are about distinct records and distinct bays. -/
theorem Snapshot.distinctMoves (hids : (n.records.map (·.id)).Nodup)
    (hnames : ∀ r ∈ n.records, ∀ b, r.state = .bound b → n.bays[b].state = .held → n.bays[b].reservation = some r.id) :
    DistinctMoves n (n.finalView cfg) := by
  have hstart : DistinctMoves n n.view := ⟨List.nodup_nil, List.nodup_nil, fun b => Iff.rfl, fun b _ => rfl⟩
  have hfresh : ∀ r ∈ n.records, FreshTo n n.view r := fun r _ => ⟨fun m hm => absurd hm (by simp [Snapshot.view]),
    fun old _ _ hmem => absurd hmem (by simp [Snapshot.view])⟩
  obtain ⟨hbind, hleft⟩ := hstart.bindStage (cfg := cfg) hids (List.Sublist.refl _) fun r hr _ => hfresh r hr
  exact hbind.rebindStage hids hnames (List.Sublist.refl _) hleft

end

end Sys2Proof.Machine
end


section
/-! SUPPORT. The moves of a pass as its completion makes them: each that fits the part as the completion finds it, the others
refused (R97). -/

namespace Sys2Proof.Machine

open Sys2Proof.Machine.Safety

/-! ### One bay bound or freed (R16) -/

/-- A STOCK or HELD bay that enters HELD or STOCK keeps all but its state, its reservation and its setpoint. -/
theorem State.enterBay_calm {s : State} {b : BayNo} {new : BayState} (hnew : new = .held ∨ new = .stock)
    (hold : (s.bay b).state = .held ∨ (s.bay b).state = .stock) (hfault : (s.bay b).pendingFault = none)
    (hhandover : (s.bay b).handover = none) (heligible : s.boost.eligible[b] = true) :
    ∃ p, s.enterBay b new =
      { s with
        bays := s.bays.set b
          { s.bay b with state := new, reservation := if new = .held then (s.bay b).reservation else none, setpoint := p } b.isLt
        plan := { s.plan with requested := true } } := by
  have hnewEligible : new.eligible = true := by obtain rfl | rfl := hnew <;> rfl
  have hends : endsGrant b new s.boost = false := by simp [endsGrant, hnewEligible]
  have hset : s.boost.eligible.set b new.eligible b.isLt = s.boost.eligible := by
    rw [hnewEligible, ← heligible]
    exact Vector.set_getElem_self _
  have hentering : ∃ p, (s.bay b).entering s.cfg new =
      { s.bay b with state := new, reservation := if new = .held then (s.bay b).reservation else none, setpoint := p } := by
    refine ⟨((s.bay b).entering s.cfg new).setpoint, ?_⟩
    obtain rfl | rfl := hnew <;> obtain hold | hold := hold <;>
      simp [Bay.entering, Bay.writeSetpoint, hold, hfault, hhandover, BayState.atDoor, BayState.dropsPack, BayState.reserved,
        BayState.isOff, BayState.outOfUse, timerEntering, lockEntering, BayState.accepted]
  obtain ⟨p, hp⟩ := hentering
  refine ⟨p, ?_⟩
  rw [State.enterBay_eq, hends, hset, hp]
  simp

/-! ### The moves that fit (R97) -/

/-- The bay that the moves of a list bind a record to. -/
def boundIn (s : State) (ms : List Move) (id : Nat) : Option BayNo :=
  (ms.filter fun m => moveId m = id).findSome? (moveFits s)

/-- A record after the moves of a list. -/
def movedRecord (s : State) (ms : List Move) (r : Reservation) : Reservation :=
  match boundIn s ms r.id with
  | some b => { r with state := .bound b }
  | none => r

@[simp] theorem movedRecord_id (s : State) (ms : List Move) (r : Reservation) : (movedRecord s ms r).id = r.id := by
  unfold movedRecord
  split <;> rfl

@[simp] theorem movedRecord_late (s : State) (ms : List Move) (r : Reservation) : (movedRecord s ms r).late = r.late := by
  unfold movedRecord
  split <;> rfl

/-- What the moves of a list need of the part: its records and bays in agreement, its flags those of the bays' states. -/
structure MoveReady (s : State) : Prop where
  ids : (s.book.records.map (·.id)).Nodup
  late : ∀ r ∈ s.book.records, r.state = .pending → r.late = false
  held : ∀ r ∈ s.book.records, ∀ b, r.state = .bound b → r.atDoor = false → (s.bay b).state = .held
  calm : ∀ b, (s.bay b).state = .held ∨ (s.bay b).state = .stock →
    (s.bay b).pendingFault = none ∧ (s.bay b).handover = none ∧ s.boost.eligible[b] = true

theorem moveReady_of_sound {s : State} (h : Sound s) : MoveReady s := by
  obtain ⟨-, -, hids, -, hrecords, -⟩ := h.book
  refine ⟨hids, fun r hr hp => ?_, fun r hr b hb hd => ?_, fun b hb => ?_⟩
  · obtain ⟨-, -, -, -, -, -, -, hlate⟩ := hrecords r hr
    refine Bool.eq_false_iff.2 fun hl => ?_
    obtain ⟨b, hb⟩ := hlate hl
    exact absurd (hp.symm.trans hb) (by simp)
  · have hagrees := h.bindings.1 r hr
    rw [RecordAgrees, hb] at hagrees
    dsimp only at hagrees
    rw [hd] at hagrees
    exact hagrees.2
  · obtain ⟨⟨hfault, -, -, -, hhandover, -⟩, -⟩ := h.bays b
    have hdoor : (s.bay b).state.atDoor = false := by obtain hb | hb := hb <;> rw [hb] <;> rfl
    refine ⟨Option.eq_none_iff_forall_ne_some.2 fun k hk => ?_, ?_, ?_⟩
    · exact absurd (hdoor.symm.trans (hfault k hk).1) (by simp)
    · rw [← Option.not_isSome_iff_eq_none, hhandover, hdoor]
      simp
    · rw [h.boost.2.1 b]
      obtain hb | hb := hb <;> rw [hb] <;> rfl

/-- The part after the moves of a list. -/
structure MovedBy (s : State) (ms : List Move) (u : State) : Prop where
  rest : u = { s with
    bays := u.bays, book := { s.book with records := s.book.records.map (movedRecord s ms) }
    plan := { s.plan with requested := s.plan.requested || ms.any fun m => (moveFits s m).isSome } }
  fields : ∀ b, u.bay b =
    { s.bay b with state := (u.bay b).state, reservation := (u.bay b).reservation, setpoint := (u.bay b).setpoint }
  bound : ∀ m ∈ ms, ∀ b, moveFits s m = some b → (u.bay b).state = .held ∧ (u.bay b).reservation = some (moveId m)
  freed : ∀ m ∈ ms, (moveFits s m).isSome = true → ∀ b, moveFrom m = some b →
    (u.bay b).state = .stock ∧ (u.bay b).reservation = none
  others : ∀ b, (∀ m ∈ ms, (moveFits s m).isSome = true → moveFits s m ≠ some b ∧ moveFrom m ≠ some b) → u.bay b = s.bay b

section
variable {s u : State} {ms : List Move} {m : Move}

theorem MovedBy.boost (h : MovedBy s ms u) : u.boost = s.boost := by rw [h.rest]

/-- The bays of a move are those it takes from the pass. -/
theorem touched_of_fits {b : BayNo} (h : moveFits s m = some b) : b ∈ m.touched := by
  unfold moveFits at h
  cases m with
  | bind id c =>
    dsimp only at h
    split at h
    · exact List.mem_singleton.2 (Option.some.inj h).symm
    · exact absurd h (by simp)
  | rebind id old new =>
    dsimp only at h
    split at h
    · exact List.mem_cons.2 (.inl (Option.some.inj h).symm)
    · exact absurd h (by simp)

theorem touched_of_from {b : BayNo} (h : moveFrom m = some b) : b ∈ m.touched := by
  cases m with
  | bind id c => exact absurd h (by simp [moveFrom])
  | rebind id old new =>
    rw [← Option.some.inj h]
    simp [Move.touched]

/-- A move that fits touches the bay it binds and the one it frees. -/
theorem touched_cases {b c : BayNo} (hc : c ∈ m.touched) (hfits : moveFits s m = some b) : b = c ∨ moveFrom m = some c := by
  unfold moveFits at hfits
  cases m with
  | bind id d =>
    dsimp only at hfits
    split at hfits
    · exact .inl ((Option.some.inj hfits).symm.trans (List.mem_singleton.1 hc).symm)
    · exact absurd hfits (by simp)
  | rebind id old new =>
    dsimp only at hfits
    split at hfits
    · obtain hc | hc := List.mem_cons.1 hc
      · exact .inl ((Option.some.inj hfits).symm.trans hc.symm)
      · exact .inr (congrArg some (List.mem_singleton.1 hc).symm)
    · exact absurd hfits (by simp)

theorem boundIn_snoc (id : Nat) :
    boundIn s (ms ++ [m]) id = (boundIn s ms id).or (if moveId m = id then moveFits s m else none) := by
  unfold boundIn
  rw [List.filter_append, List.findSome?_append]
  by_cases h : moveId m = id <;> simp [h]

theorem boundIn_fresh {id : Nat} (h : ∀ k ∈ ms, moveId k ≠ id) : boundIn s ms id = none := by
  unfold boundIn
  rw [List.filter_eq_nil_iff.2 fun k hk => by simpa using h k hk]
  rfl

theorem movedRecord_other {r : Reservation} (h : moveId m ≠ r.id ∨ moveFits s m = none) :
    movedRecord s (ms ++ [m]) r = movedRecord s ms r := by
  have hnone : (if moveId m = r.id then moveFits s m else none) = none := by
    split
    · next he => exact h.resolve_left fun hne => hne he
    · rfl
  unfold movedRecord
  rw [boundIn_snoc, hnone, Option.or_none]

theorem movedRecord_same {r : Reservation} {b : BayNo} (hfresh : ∀ k ∈ ms, moveId k ≠ moveId m) (hid : moveId m = r.id)
    (hfits : moveFits s m = some b) :
    movedRecord s ms r = r ∧ movedRecord s (ms ++ [m]) r = { r with state := .bound b } := by
  have hnone : boundIn s ms r.id = none := boundIn_fresh (hid ▸ hfresh)
  unfold movedRecord
  rw [boundIn_snoc, hnone, if_pos hid, hfits]
  exact ⟨rfl, rfl⟩

/-- The record that a later move is about is as it was before the moves. -/
theorem MovedBy.byId (h : MovedBy s ms u) (hfresh : ∀ k ∈ ms, moveId k ≠ moveId m) :
    u.book.byId (moveId m) = s.book.byId (moveId m) := by
  rw [h.rest]
  unfold Book.byId
  dsimp only
  rw [List.find?_map]
  have hsame : (fun r : Reservation => r.id == moveId m) ∘ movedRecord s ms = fun r => r.id == moveId m := by
    funext r
    simp
  rw [hsame]
  cases hfound : s.book.records.find? fun r => r.id == moveId m with
  | none => rfl
  | some r =>
    have hid : r.id = moveId m := by simpa using List.find?_some hfound
    rw [Option.map_some, movedRecord, hid, boundIn_fresh hfresh]

/-- The bays that a later move touches are as they were. -/
theorem MovedBy.bay (h : MovedBy s ms u) {b : BayNo} (hfresh : b ∉ ms.flatMap Move.touched) : u.bay b = s.bay b :=
  h.others b fun k hk _ => ⟨fun hf => hfresh (List.mem_flatMap.2 ⟨k, hk, touched_of_fits hf⟩),
    fun hf => hfresh (List.mem_flatMap.2 ⟨k, hk, touched_of_from hf⟩)⟩

/-- A move that does not fit changes nothing. -/
theorem MovedBy.refused (h : MovedBy s ms u) (hfits : moveFits s m = none) : MovedBy s (ms ++ [m]) u := by
  have hsplit : ∀ {P : Move → Prop}, (∀ k ∈ ms, P k) → P m → ∀ k ∈ ms ++ [m], P k := fun hms hm k hk => by
    obtain hk | hk := List.mem_append.1 hk
    · exact hms k hk
    · exact List.mem_singleton.1 hk ▸ hm
  refine ⟨?_, h.fields, hsplit h.bound fun b hb => absurd (hfits.symm.trans hb) (by simp),
    hsplit h.freed fun hs => absurd hs (by simp [hfits]), fun b hb => h.others b fun k hk => hb k (List.mem_append_left _ hk)⟩
  have hrecords : movedRecord s (ms ++ [m]) = movedRecord s ms := funext fun r => movedRecord_other (.inr hfits)
  have hany : ((ms ++ [m]).any fun m => (moveFits s m).isSome) = ms.any fun m => (moveFits s m).isSome := by simp [hfits]
  rw [hrecords, hany]
  exact h.rest

/-- A move that fits, from what it makes of the part. -/
theorem MovedBy.made (h : MovedBy s ms u) {w : State} {b : BayNo} {f : Reservation → Reservation}
    (hfresh : ∀ k ∈ ms, moveId k ≠ moveId m) (hbays : ∀ c ∈ m.touched, c ∉ ms.flatMap Move.touched)
    (hfits : moveFits s m = some b) (hf : ∀ r ∈ s.book.records, r.id = moveId m → f r = { r with state := .bound b })
    (hrest : w = { u with
      bays := w.bays
      book := { u.book with records := u.book.records.map fun r => if r.id == moveId m then f r else r }
      plan := { u.plan with requested := true } })
    (hfields : ∀ c, w.bay c =
      { u.bay c with state := (w.bay c).state, reservation := (w.bay c).reservation, setpoint := (w.bay c).setpoint })
    (hbound : (w.bay b).state = .held ∧ (w.bay b).reservation = some (moveId m))
    (hfreed : ∀ c, moveFrom m = some c → (w.bay c).state = .stock ∧ (w.bay c).reservation = none)
    (hothers : ∀ c, c ∉ m.touched → w.bay c = u.bay c) : MovedBy s (ms ++ [m]) w := by
  have hapart : ∀ k ∈ ms, ∀ c ∈ k.touched, w.bay c = u.bay c := fun k hk c hc => hothers c fun hcm =>
    hbays c hcm (List.mem_flatMap.2 ⟨k, hk, hc⟩)
  refine ⟨?_, fun c => ?_, fun k hk c hkc => ?_, fun k hk hs c hkc => ?_, fun c hc => ?_⟩
  · have hrecords : (s.book.records.map (movedRecord s ms)).map (fun r => if r.id == moveId m then f r else r) =
        s.book.records.map (movedRecord s (ms ++ [m])) := by
      rw [List.map_map]
      refine List.map_congr_left fun r hr => ?_
      rw [Function.comp_apply, movedRecord_id]
      by_cases hid : r.id = moveId m
      · obtain ⟨hbefore, hafter⟩ := movedRecord_same hfresh hid.symm hfits
        rw [hbefore, hafter, if_pos (beq_iff_eq.2 hid), hf r hr hid]
      · rw [if_neg (by simpa using hid), movedRecord_other (.inl (Ne.symm hid))]
    have hany : ((ms ++ [m]).any fun m => (moveFits s m).isSome) = true := by simp [hfits]
    rw [hany, ← hrecords, hrest, h.rest]
    simp
  · have hu := h.fields c
    have hw := hfields c
    generalize u.bay c = x at hu hw
    rw [hu] at hw
    exact hw
  · obtain hk | hk := List.mem_append.1 hk
    · rw [hapart k hk c (touched_of_fits hkc)]
      exact h.bound k hk c hkc
    · obtain rfl := List.mem_singleton.1 hk
      obtain rfl := Option.some.inj (hfits.symm.trans hkc)
      exact hbound
  · obtain hk | hk := List.mem_append.1 hk
    · rw [hapart k hk c (touched_of_from hkc)]
      exact h.freed k hk hs c hkc
    · obtain rfl := List.mem_singleton.1 hk
      exact hfreed c hkc
  · have hm := hc m (List.mem_append_right _ List.mem_cons_self) (by simp [hfits])
    have huntouched : c ∉ m.touched := fun hmem => by
      obtain rfl | hfrom := touched_cases hmem hfits
      · exact hm.1 hfits
      · exact hm.2 hfrom
    exact (hothers c huntouched).trans (h.others c fun k hk => hc k (List.mem_append_left _ hk))

/-- A bind request of a move. -/
theorem MovedBy.bind (h : MovedBy s ms u) (hready : MoveReady s) {id : Nat} {b : BayNo} (hfresh : ∀ k ∈ ms, moveId k ≠ id)
    (hbay : b ∉ ms.flatMap Move.touched) : MovedBy s (ms ++ [.bind id b]) (u.bindRecord id b) := by
  have hbyId : u.book.byId id = s.book.byId id := h.byId (m := .bind id b) hfresh
  have hub : u.bay b = s.bay b := h.bay hbay
  by_cases hfits : (s.book.byId id).map (·.state) = some .pending ∧ (s.bay b).state = .stock
  · obtain ⟨hpending, hstock⟩ := hfits
    obtain ⟨r, hr, hrp⟩ := Option.map_eq_some_iff.1 hpending
    obtain ⟨hmem, hid⟩ := Book.byId_some hr
    obtain ⟨hfault, hhandover, heligible⟩ := hready.calm b (.inr hstock)
    let v := u.setBay b { u.bay b with reservation := some id }
    have hvb : v.bay b = { s.bay b with reservation := some id } := by simp [v, hub]
    have hboost : v.boost = s.boost := h.boost
    obtain ⟨p, hp⟩ := State.enterBay_calm (s := v) (b := b) (.inl rfl) (.inr (by rw [hvb]; exact hstock)) (by rw [hvb]; exact hfault)
      (by rw [hvb]; exact hhandover) (by rw [hboost]; exact heligible)
    have hmade : u.bindRecord id b = (v.enterBay b .held).updateRecord id fun r => { r with state := .bound b, late := false } := by
      rw [State.bindRecord, hbyId, hr]
      exact if_pos ⟨hrp, by rw [hub]; exact hstock⟩
    have hbays : ∀ c, (u.bindRecord id b).bay c =
        if b = c then { s.bay b with state := .held, reservation := some id, setpoint := p } else u.bay c := fun c => by
      rw [hmade, State.updateRecord_bay, hp, hvb]
      refine (State.setBay_bay v b c _).trans ?_
      split
      · rfl
      · next hbc => exact (State.setBay_bay u b c _).trans (if_neg hbc)
    refine h.made (m := .bind id b) (b := b) (f := fun r => { r with state := .bound b, late := false }) hfresh
      (fun c hc => List.mem_singleton.1 hc ▸ hbay) (if_pos ⟨hpending, hstock⟩) (fun q hq hqid => ?_) ?_ (fun c => ?_) ?_
      (fun c hc => absurd hc (by simp [moveFrom])) fun c hc => ?_
    · obtain rfl : q = r := List.inj_on_of_nodup_map hready.ids hq hmem (hqid.trans hid.symm)
      have hlate := hready.late q hq hrp
      rw [← hlate]
    · rw [hmade, hp]
      rfl
    · rw [hbays]
      split
      · next hbc => rw [← hbc, hub]
      · rfl
    · rw [hbays, if_pos rfl]
      exact ⟨rfl, rfl⟩
    · rw [hbays, if_neg fun hbc => hc (List.mem_singleton.2 hbc.symm)]
  · have hsame : u.bindRecord id b = u := by
      rw [State.bindRecord, hbyId]
      cases hr : s.book.byId id with
      | none => rfl
      | some r =>
        refine if_neg fun hc => hfits ⟨?_, hub ▸ hc.2⟩
        rw [hr, Option.map_some, hc.1]
    rw [hsame]
    exact h.refused (if_neg hfits)

/-- A rebind request of a move. -/
theorem MovedBy.rebind (h : MovedBy s ms u) (hready : MoveReady s) {id : Nat} {old new : BayNo} (hfresh : ∀ k ∈ ms, moveId k ≠ id)
    (hold : old ∉ ms.flatMap Move.touched) (hnew : new ∉ ms.flatMap Move.touched) (hne : new ≠ old) :
    MovedBy s (ms ++ [.rebind id old new]) (u.rebindRecord id old new) := by
  have hbyId : u.book.byId id = s.book.byId id := h.byId (m := .rebind id old new) hfresh
  have huo : u.bay old = s.bay old := h.bay hold
  have hun : u.bay new = s.bay new := h.bay hnew
  by_cases hfits : (s.book.byId id).map (fun r => (r.state, r.atDoor)) = some (.bound old, false) ∧
      (s.bay old).reservation = some id ∧ (s.bay new).state = .stock
  · have ⟨hbound, hnamed, hstock⟩ := hfits
    obtain ⟨r, hr, hrs⟩ := Option.map_eq_some_iff.1 hbound
    obtain ⟨hrb, hrd⟩ := Prod.mk.inj hrs
    obtain ⟨hmem, hid⟩ := Book.byId_some hr
    have hheld := hready.held r hmem old hrb hrd
    obtain ⟨hfaultO, hhandoverO, heligibleO⟩ := hready.calm old (.inl hheld)
    obtain ⟨hfaultN, hhandoverN, heligibleN⟩ := hready.calm new (.inr hstock)
    have hboost : u.boost = s.boost := h.boost
    obtain ⟨p, hp⟩ := State.enterBay_calm (s := u) (b := old) (.inr rfl) (.inl (by rw [huo]; exact hheld)) (by rw [huo]; exact hfaultO)
      (by rw [huo]; exact hhandoverO) (by rw [hboost]; exact heligibleO)
    have hfree : ∀ c, (u.enterBay old .stock).bay c =
        if old = c then { s.bay old with state := .stock, reservation := none, setpoint := p } else u.bay c := fun c => by
      rw [hp, huo]
      exact State.setBay_bay u old c _
    let w := u.enterBay old .stock
    let v := w.setBay new { w.bay new with reservation := some id }
    have hvn : v.bay new = { s.bay new with reservation := some id } := by
      simp only [v, State.setBay_bay_self, w]
      rw [hfree, if_neg hne.symm, hun]
    have hboost' : v.boost = s.boost := (congrArg State.boost hp).trans hboost
    obtain ⟨q, hq⟩ := State.enterBay_calm (s := v) (b := new) (.inl rfl) (.inr (by rw [hvn]; exact hstock))
      (by rw [hvn]; exact hfaultN) (by rw [hvn]; exact hhandoverN) (by rw [hboost']; exact heligibleN)
    have hmade : u.rebindRecord id old new = (v.enterBay new .held).updateRecord id fun r => { r with state := .bound new } := by
      rw [State.rebindRecord, hbyId, hr]
      exact if_pos ⟨hrb, hrd, by rw [huo]; exact hheld, by rw [huo]; exact hnamed, by rw [hun]; exact hstock⟩
    have hbays : ∀ c, (u.rebindRecord id old new).bay c =
        if new = c then { s.bay new with state := .held, reservation := some id, setpoint := q } else w.bay c := fun c => by
      rw [hmade, State.updateRecord_bay, hq, hvn]
      refine (State.setBay_bay v new c _).trans ?_
      split
      · rfl
      · next hnc => exact (State.setBay_bay w new c _).trans (if_neg hnc)
    refine h.made (m := .rebind id old new) (b := new) (f := fun r => { r with state := .bound new }) hfresh
      (fun c hc => ?_) (if_pos hfits) (fun _ _ _ => rfl) ?_ (fun c => ?_) ?_ (fun c hc => ?_) fun c hc => ?_
    · obtain rfl | hc := List.mem_cons.1 hc
      · exact hnew
      · exact List.mem_singleton.1 hc ▸ hold
    · rw [hmade, hq]
      apply State.eq_of_fields <;> simp [v, w, State.setBay, hp, moveId]
    · rw [hbays]
      split
      · next hbc => rw [← hbc, hun]
      · show w.bay c = _
        rw [show w.bay c = _ from hfree c]
        split
        · next hoc => rw [← hoc, huo]
        · rfl
    · rw [hbays, if_pos rfl]
      exact ⟨rfl, rfl⟩
    · obtain rfl := Option.some.inj hc
      rw [hbays, if_neg hne, show w.bay old = _ from hfree old, if_pos rfl]
      exact ⟨rfl, rfl⟩
    · have hcn : ¬ new = c := fun he => hc (by simp [Move.touched, he])
      have hco : ¬ old = c := fun he => hc (by simp [Move.touched, he])
      rw [hbays, if_neg hcn, show w.bay c = _ from hfree c, if_neg hco]
  · have hsame : u.rebindRecord id old new = u := by
      rw [State.rebindRecord, hbyId]
      cases hr : s.book.byId id with
      | none => rfl
      | some r =>
        refine if_neg fun hc => hfits ⟨?_, huo ▸ hc.2.2.2.1, hun ▸ hc.2.2.2.2⟩
        rw [hr, Option.map_some, hc.1, hc.2.1]
    rw [hsame]
    exact h.refused (if_neg hfits)

/-- The moves of a pass, one after another. -/
theorem State.applyMoves_moved (hready : MoveReady s) (hids : (ms.map moveId).Nodup) (htouched : (ms.flatMap Move.touched).Nodup) :
    MovedBy s ms (ms.foldl State.applyMove s) := by
  induction ms using List.reverseRecOn with
  | nil =>
    refine ⟨?_, fun b => rfl, fun m hm => absurd hm (by simp), fun m hm => absurd hm (by simp), fun b _ => rfl⟩
    have hsame : movedRecord s [] = id := rfl
    rw [hsame, List.map_id]
    simp
  | append_singleton ms m ih =>
    rw [List.map_append, List.nodup_append] at hids
    rw [List.flatMap_append, List.flatMap_singleton, List.nodup_append] at htouched
    obtain ⟨hms, -, hapart⟩ := hids
    obtain ⟨hts, htm, htapart⟩ := htouched
    have hfresh : ∀ k ∈ ms, moveId k ≠ moveId m := fun k hk => hapart _ (List.mem_map_of_mem hk) _ (by simp)
    have hbays : ∀ c ∈ m.touched, c ∉ ms.flatMap Move.touched := fun c hc hmem => htapart c hmem c hc rfl
    have h := ih hms hts
    rw [List.foldl_append]
    cases m with
    | bind id b => exact h.bind hready hfresh (hbays b (by simp [Move.touched]))
    | rebind id old new =>
      have hne : new ≠ old := by simpa [Move.touched] using htm
      exact h.rebind hready hfresh (hbays old (by simp [Move.touched])) (hbays new (by simp [Move.touched])) hne

end

end Sys2Proof.Machine
end


section
/-! SUPPORT. The late flags of a pass written, and the boost sets and own figures handed on (R49, R98, R99, R107, R114, R128). -/

namespace Sys2Proof.Machine

open Sys2Proof.Machine.Safety

/-! ### The late flags (R49, R98) -/

/-- A record after the late flags of a list. -/
def latedRecord (ls : List LateFlag) (r : Reservation) : Reservation :=
  match ls.find? (·.id = r.id) with
  | some f => if r.state = .bound f.bay then { r with late := f.late } else r
  | none => r

/-- RES_LATE of a late flag, when it turns to yes. -/
def lateNotice (k : Book) (f : LateFlag) : Option Notice :=
  match k.byId f.id with
  | some r => if r.state = .bound f.bay ∧ f.late = true ∧ r.late = false then some (.resLate f.id f.bay) else none
  | none => none

/-- The book after the late flags of a list. -/
def Book.lated (ls : List LateFlag) (k : Book) : Book := { k with records := k.records.map (latedRecord ls) }

@[simp] theorem latedRecord_id (ls : List LateFlag) (r : Reservation) : (latedRecord ls r).id = r.id := by
  unfold latedRecord
  split
  · split <;> rfl
  · rfl

@[simp] theorem latedRecord_state (ls : List LateFlag) (r : Reservation) : (latedRecord ls r).state = r.state := by
  unfold latedRecord
  split
  · split <;> rfl
  · rfl

theorem latedRecord_one {f : LateFlag} {r : Reservation} :
    latedRecord [f] r = if f.id = r.id ∧ r.state = .bound f.bay then { r with late := f.late } else r := by
  unfold latedRecord
  by_cases h : f.id = r.id <;> simp [h]

theorem latedRecord_cons {f : LateFlag} {fs : List LateFlag} {r : Reservation} (h : ∀ g ∈ fs, g.id ≠ f.id) :
    latedRecord fs (latedRecord [f] r) = latedRecord (f :: fs) r := by
  by_cases hid : f.id = r.id
  · have hnone : fs.find? (fun g => decide (g.id = (latedRecord [f] r).id)) = none := List.find?_eq_none.2 fun g hg => by
      rw [latedRecord_id, ← hid]
      simpa using h g hg
    have hrest : latedRecord fs (latedRecord [f] r) = latedRecord [f] r := by
      rw [latedRecord.eq_def fs, hnone]
    rw [hrest]
    simp [latedRecord, hid]
  · have hfirst : latedRecord [f] r = r := by rw [latedRecord_one, if_neg fun hc => hid hc.1]
    rw [hfirst]
    simp [latedRecord, hid]

/-- The records found are those before, changed. -/
theorem Book.byId_map {k : Book} {g : Reservation → Reservation} (hg : ∀ r, (g r).id = r.id) (id : Nat) :
    Book.byId { k with records := k.records.map g } id = (k.byId id).map g := by
  unfold Book.byId
  dsimp only
  rw [List.find?_map]
  have hsame : (fun r : Reservation => r.id == id) ∘ g = fun r => r.id == id := by
    funext r
    rw [Function.comp_apply, hg]
  rw [hsame]

/-- One late flag, after notices. -/
theorem State.applyLate_told (ns : List Notice) (f : LateFlag) {s : State} (hids : (s.book.records.map (·.id)).Nodup) :
    (s.told ns).applyLate f =
      ({ s with book := s.book.lated [f] } : State).told (ns ++ (lateNotice s.book f).toList) := by
  have hkept : (∀ r ∈ s.book.records, ¬ (f.id = r.id ∧ r.state = .bound f.bay)) → s.book.lated [f] = s.book := fun hno => by
    have hmap : s.book.records.map (latedRecord [f]) = s.book.records := by
      refine (List.map_congr_left fun r hr => ?_).trans (List.map_id _)
      rw [latedRecord_one, if_neg (hno r hr)]
      rfl
    rw [Book.lated, hmap]
  rw [State.applyLate, State.writeLate, State.told_book]
  obtain hr | ⟨r, hr⟩ := Option.eq_none_or_eq_some (s.book.byId f.id)
  · have hnotice : lateNotice s.book f = none := by rw [lateNotice, hr]
    rw [hr, hnotice, hkept fun r hmem hc => Book.byId_none.1 hr r hmem hc.1.symm]
    simp
  · obtain ⟨hmem, hid⟩ := Book.byId_some hr
    have hone : ∀ q ∈ s.book.records, f.id = q.id → q = r := fun q hq hqid =>
      List.inj_on_of_nodup_map hids hq hmem (hqid.symm.trans hid.symm)
    have hnotice : lateNotice s.book f =
        if r.state = .bound f.bay ∧ f.late = true ∧ r.late = false then some (.resLate f.id f.bay) else none := by
      rw [lateNotice, hr]
    rw [hr, hnotice]
    dsimp only
    by_cases hbound : r.state = .bound f.bay
    · have hupdate : s.updateRecord f.id (fun q => { q with late := f.late }) = { s with book := s.book.lated [f] } := by
        refine congrArg (fun l => ({ s with book := { s.book with records := l } } : State)) (List.map_congr_left fun q hq => ?_)
        rw [latedRecord_one]
        by_cases hqid : f.id = q.id
        · rw [if_pos (beq_iff_eq.2 hqid.symm), if_pos ⟨hqid, by rw [hone q hq hqid]; exact hbound⟩]
        · rw [if_neg (by simpa using Ne.symm hqid), if_neg fun hc => hqid hc.1]
      rw [if_pos hbound, State.told_updateRecord, hupdate]
      cases hlate : f.late <;> cases hr' : r.late <;> simp [hbound]
    · rw [if_neg hbound, if_neg fun hc => hbound hc.1, hkept fun q hq hc => hbound (hone q hq hc.1 ▸ hc.2)]
      simp

/-- The late flags of a list, after notices. -/
theorem State.applyLates_told (ns : List Notice) {ls : List LateFlag} {s : State} (hids : (s.book.records.map (·.id)).Nodup)
    (hls : (ls.map (·.id)).Nodup) :
    ls.foldl State.applyLate (s.told ns) =
      ({ s with book := s.book.lated ls } : State).told (ns ++ ls.filterMap (lateNotice s.book)) := by
  induction ls generalizing s ns with
  | nil =>
    have hsame : s.book.records.map (latedRecord []) = s.book.records := List.map_id _
    rw [Book.lated, hsame]
    simp
  | cons f fs ih =>
    obtain ⟨hf, hfs⟩ := List.nodup_cons.1 hls
    have hother : ∀ g ∈ fs, g.id ≠ f.id := fun g hg he => hf (List.mem_map.2 ⟨g, hg, he⟩)
    have hkeptIds : ((s.book.lated [f]).records.map (·.id)).Nodup := by
      rw [Book.lated, List.map_map]
      have : (fun r : Reservation => r.id) ∘ latedRecord [f] = (·.id) := funext fun r => latedRecord_id _ r
      rw [this]
      exact hids
    have hbook : (s.book.lated [f]).lated fs = s.book.lated (f :: fs) := by
      unfold Book.lated
      dsimp only
      rw [List.map_map]
      exact congrArg (fun l => ({ s.book with records := l } : Book)) (List.map_congr_left fun r _ => latedRecord_cons hother)
    have hnotices : fs.filterMap (lateNotice (s.book.lated [f])) = fs.filterMap (lateNotice s.book) := by
      refine List.filterMap_congr fun g hg => ?_
      unfold lateNotice
      rw [Book.lated, Book.byId_map (latedRecord_id _)]
      cases hr : s.book.byId g.id with
      | none => rfl
      | some r =>
        have hrid : r.id = g.id := (Book.byId_some hr).2
        have hsame : latedRecord [f] r = r := by
          rw [latedRecord_one, if_neg fun hc => hother g hg (hrid.symm.trans hc.1.symm)]
        rw [Option.map_some, hsame]
    rw [List.foldl_cons, State.applyLate_told ns f hids, ih (s := { s with book := s.book.lated [f] }) _ hkeptIds hfs]
    dsimp only
    rw [hbook, hnotices, List.filterMap_cons]
    cases lateNotice s.book f <;> simp

/-! ### The boost sets handed on (R107, R114) -/

/-- What the handing on of the boost sets makes of the bays and the arbiter. -/
structure SetsTaken (v : State) (high low : List BayNo) (bays : Vector Bay 12) (a : Arbiter) : Prop where
  idle : v.boost.converter = .idle → ∀ (a' : Arbiter) (w : Option BayNo), Decided { v.boost with high := high, low := low } a' w →
    a = { a' with converter := match w with | some b => .granted b (v.cfg.boostSlice * 1000) | none => .idle }
  held : ∀ h, v.boost.converter.holder = some h →
    a = if h ∈ high ∨ h ∈ low then { v.boost with high := high, low := low }
      else { v.boost with high := high, low := low, converter := .switching 2000 }
  stands : v.boost.converter ≠ .idle → v.boost.converter.holder = none → a = { v.boost with high := high, low := low }
  bays : ∀ b : BayNo, bays[b] =
    { v.bay b with
      boost := decide (a.converter.holder = some b)
      setpoint :=
        if (v.bay b).boost = true ∧ a.converter.holder ≠ some b then
          if (v.bay b).chargeable v.cfg = true then min (v.bay b).setpoint (v.normalCapOf b) else 0
        else (v.bay b).setpoint }

/-- Notices do not touch the bays, the arbiter and the planner. -/
theorem State.told_with (ns : List Notice) (v : State) (bays : Vector Bay 12) (a : Arbiter) (plan : Planner) :
    ({ v.told ns with bays := bays, boost := a, plan := plan } : State) =
      State.told ns { v with bays := bays, boost := a, plan := plan } := by
  refine Eq.trans ?_ (State.told_aside ns v bays v.book v.asks plan a v.feed v.ts v.out).symm
  apply State.eq_of_fields <;> simp

section
variable {v : State} (high low : List BayNo) (hfield : ∀ b : BayNo, (v.bay b).boost = decide (v.boost.converter.holder = some b))
include hfield

/-- Where the holder stays, so do the bays. -/
theorem bays_of_same_holder {a : Arbiter} (h : a.converter.holder = v.boost.converter.holder) (b : BayNo) :
    v.bays[b] =
      { v.bay b with
        boost := decide (a.converter.holder = some b)
        setpoint :=
          if (v.bay b).boost = true ∧ a.converter.holder ≠ some b then
            if (v.bay b).chargeable v.cfg = true then min (v.bay b).setpoint (v.normalCapOf b) else 0
          else (v.bay b).setpoint } := by
  have hkeep : ¬ ((v.bay b).boost = true ∧ a.converter.holder ≠ some b) := fun ⟨hb, hno⟩ => by
    rw [hfield b] at hb
    exact hno (h.trans (of_decide_eq_true hb))
  rw [if_neg hkeep, h, ← hfield b]
  rfl

/-- What a change of the arbiter makes of the sets handed on where the holder stays. -/
theorem takeSets_stays (ns : List Notice) {a : Arbiter} (h : a.converter.holder = v.boost.converter.holder) :
    ({ v.told ns with boost := a } : State) = State.told ns { v with
      bays := v.bays, boost := a
      plan := { v.plan with
        requested := v.plan.requested || decide (a.converter.holder ≠ v.boost.converter.holder) } } := by
  rw [h, decide_eq_false fun hne => hne rfl, Bool.or_false]
  refine Eq.trans ?_ (State.told_with ns v v.bays a { v.plan with requested := v.plan.requested })
  apply State.eq_of_fields <;> simp

theorem State.takeSets_told (ns : List Notice) :
    ∃ bays a, (v.told ns).takeSets high low = State.told ns { v with
        bays := bays, boost := a
        plan := { v.plan with
          requested := v.plan.requested || decide (a.converter.holder ≠ v.boost.converter.holder) } } ∧
      SetsTaken v high low bays a := by
  let sets : Arbiter := { v.boost with high := high, low := low }
  let w : State := { v.told ns with boost := sets }
  have hboost : { (v.told ns).boost with high := high, low := low } = sets := by rw [State.told_boost]
  obtain ⟨hidle, hw⟩ | ⟨h, k, hgranted, hw⟩ | ⟨hno, hnone, hw⟩ :
      (v.boost.converter = .idle ∧ (v.told ns).takeSets high low = w.decideGrant) ∨
      (∃ h k, v.boost.converter = .granted h k ∧
        (v.told ns).takeSets high low = if h ∈ high ∨ h ∈ low then w else w.endGrant (.switching switchMillis)) ∨
      (v.boost.converter ≠ .idle ∧ v.boost.converter.holder = none ∧ (v.told ns).takeSets high low = w) := by
    unfold State.takeSets
    dsimp only
    rw [hboost]
    have htold : ∀ {c}, (v.told ns).boost.converter = c → v.boost.converter = c := fun h => by rwa [State.told_boost] at h
    split
    · next hc => exact .inl ⟨htold hc, rfl⟩
    · next h k hc => exact .inr (.inl ⟨h, k, htold hc, rfl⟩)
    · next k hc => exact .inr (.inr ⟨by rw [htold hc]; simp, by rw [htold hc]; rfl, rfl⟩)
    · next hc => exact .inr (.inr ⟨by rw [htold hc]; simp, by rw [htold hc]; rfl, rfl⟩)
  · have hholder : v.boost.converter.holder = none := by rw [hidle]; rfl
    rw [hw]
    have hdecided : ∀ (a' : Arbiter) (w : Option BayNo), Decided sets a' w → sets.decide = (w, a') := fun a' w h => Arbiter.decide_eq h
    obtain ⟨winner, a', hdecide⟩ : ∃ winner a', sets.decide = (winner, a') := ⟨_, _, rfl⟩
    cases winner with
    | none =>
      have hw' : w.decideGrant = { v.told ns with boost := { a' with converter := .idle } } := by
        rw [State.decideGrant, show w.boost.decide = (none, a') from hdecide]
      refine ⟨v.bays, { a' with converter := .idle }, ?_, ⟨fun _ b x hd => ?_, fun h hh => ?_, fun hne => absurd hidle hne, fun b => ?_⟩⟩
      · rw [hw']
        exact takeSets_stays hfield ns hholder.symm
      · obtain ⟨rfl, rfl⟩ := Prod.mk.inj ((hdecided b x hd).symm.trans hdecide)
        rfl
      · exact absurd (hholder.symm.trans hh) (by simp)
      · exact bays_of_same_holder (a := { a' with converter := .idle }) hfield hholder.symm b
    | some d =>
      let a : Arbiter := { a' with converter := .granted d (v.cfg.boostSlice * 1000) }
      let bays : Vector Bay 12 := v.bays.set d { v.bay d with boost := true } d.isLt
      have hw' : w.decideGrant = State.told ns { v with bays := bays, boost := a, plan := { v.plan with requested := true } } := by
        rw [State.decideGrant, show w.boost.decide = (some d, a') from hdecide, ← State.told_with]
        apply State.eq_of_fields <;> simp [State.grant, State.setBoost, State.setBay, State.request, w, a, bays, State.bay]
      refine ⟨bays, a, ?_, ⟨fun _ b x hd => ?_, fun h hh => ?_, fun hne => absurd hidle hne, fun b => ?_⟩⟩
      · rw [hw', decide_eq_true (by rw [hholder]; simp [a, Converter.holder]), Bool.or_true]
      · obtain ⟨rfl, rfl⟩ := Prod.mk.inj ((hdecided b x hd).symm.trans hdecide)
        rfl
      · exact absurd (hholder.symm.trans hh) (by simp)
      · have hno : (v.bay b).boost = false := by rw [hfield b, hholder]; simp
        refine (State.setBay_bay v d b _).trans ?_
        by_cases hb : d = b
        · subst hb
          rw [if_pos rfl, hno]
          simp [a, Converter.holder]
        · have hsame : decide (a.converter.holder = some b) = (v.bay b).boost := by rw [hno]; simp [a, Converter.holder, hb]
          rw [if_neg hb, if_neg fun hc => absurd (hno.symm.trans hc.1) (by simp), hsame]
  · have hholder : v.boost.converter.holder = some h := by rw [hgranted]; rfl
    rw [hw]
    by_cases hin : h ∈ high ∨ h ∈ low
    · rw [if_pos hin]
      refine ⟨v.bays, sets, ?_, ⟨fun hi => absurd (hgranted.symm.trans hi) (by simp), fun c hc => ?_,
        fun _ hn => absurd (hholder.symm.trans hn) (by simp), fun b => bays_of_same_holder hfield rfl b⟩⟩
      · exact takeSets_stays hfield ns rfl
      · obtain rfl := Option.some.inj (hholder.symm.trans hc)
        rw [if_pos hin]
    · rw [if_neg hin]
      let a : Arbiter := { sets with converter := .switching switchMillis }
      let bays : Vector Bay 12 := v.bays.set h
        { v.bay h with
          boost := false
          setpoint := if (v.bay h).chargeable v.cfg = true then min (v.bay h).setpoint (v.normalCapOf h) else 0 } h.isLt
      have hbays : w.bays = v.bays := State.told_bays ns v
      have hcap : w.normalCapOf h = v.normalCapOf h := by
        show normalCap (v.told ns).cfg (targetOf (v.told ns).cfg (v.told ns).book.records ((v.told ns).bay h)) ((v.told ns).bay h) = _
        rw [State.told_cfg, State.told_book, State.told_bay]
        rfl
      have hw' : w.endGrant (.switching switchMillis) = State.told ns { v with
          bays := bays, boost := a, plan := { v.plan with requested := true } } := by
        rw [State.endGrant_eq (s := w) _ hholder, hcap, show w.bay h = v.bay h from State.told_bay ns v h, hbays,
          show w.cfg = v.cfg from State.told_cfg ns v, ← State.told_with]
        apply State.eq_of_fields <;> simp [w, a, bays]
      refine ⟨bays, a, ?_, ⟨fun hi => absurd (hgranted.symm.trans hi) (by simp), fun c hc => ?_,
        fun _ hn => absurd (hholder.symm.trans hn) (by simp), fun b => ?_⟩⟩
      · rw [hw', decide_eq_true (by rw [hholder]; simp [a, Converter.holder]), Bool.or_true]
      · obtain rfl := Option.some.inj (hholder.symm.trans hc)
        rw [if_neg hin]
        rfl
      · have hnone : a.converter.holder = none := rfl
        refine (State.setBay_bay v h b _).trans ?_
        by_cases hb : h = b
        · subst hb
          have hyes : (v.bay h).boost = true := by rw [hfield h, hholder]; simp
          simp [hnone, hyes]
        · have hno : (v.bay b).boost = false := by rw [hfield b, hholder]; simpa using hb
          have hsame : decide (a.converter.holder = some b) = (v.bay b).boost := by rw [hno, hnone]; simp
          rw [if_neg hb, if_neg fun hc => absurd (hno.symm.trans hc.1) (by simp), hsame]
  · exact ⟨v.bays, sets, hw.trans (takeSets_stays hfield ns rfl), fun hi => absurd hi hno,
      fun h hh => absurd (hnone.symm.trans hh) (by simp), fun _ _ => rfl, fun b => bays_of_same_holder hfield rfl b⟩

end

/-! ### The own figures handed on (R99, R128, R132) -/

theorem State.takeOwnFigures_told (d p : Nat) (ns : List Notice) (v : State) :
    let new := Feed.shareNow v.cfg { v.feed with ownDemand := d, ownPriority := p }
    ∃ bays, (v.told ns).takeOwnFigures d p = State.told ns { v with
        bays := bays, feed := { v.feed with ownDemand := d, ownPriority := p, share := new }
        plan := { v.plan with requested := v.plan.requested || decide (new ≠ v.feed.share) } } ∧
      (∀ b : BayNo, ∃ q, q ≤ (v.bay b).setpoint ∧ bays[b] = { v.bay b with setpoint := q }) ∧
      (v.feed.share ≤ new → bays = v.bays) := by
  intro new
  let w : State := { v with feed := { v.feed with ownDemand := d, ownPriority := p } }
  have hw : (v.told ns).takeOwnFigures d p = w.recomputeShare.told ns := by
    rw [← State.told_recomputeShare]
    refine congrArg State.recomputeShare ?_
    refine Eq.trans ?_ (State.told_aside ns v v.bays v.book v.asks v.plan v.boost w.feed v.ts v.out).symm
    apply State.eq_of_fields <;> simp [w]
  rw [hw]
  obtain ⟨hsame, heq⟩ | ⟨hrise, heq⟩ | ⟨hfall, heq⟩ := w.recomputeShare_cases
  · have hsame' : new = v.feed.share := hsame
    refine ⟨v.bays, ?_, fun b => ⟨_, le_rfl, rfl⟩, fun _ => rfl⟩
    rw [heq, hsame']
    simp [w]
  · have hrise' : v.feed.share < new := hrise
    refine ⟨v.bays, ?_, fun b => ⟨_, le_rfl, rfl⟩, fun _ => rfl⟩
    rw [heq, decide_eq_true (ne_of_gt hrise'), Bool.or_true]
    rfl
  · have hfall' : new < v.feed.share := hfall
    obtain ⟨bays, hclamp, hbays⟩ := State.clampShare_eq v.feed.share new { w with feed := { w.feed with share := new } }
    refine ⟨bays, ?_, hbays hfall'.le, fun hle => absurd hle (Nat.not_le.2 hfall')⟩
    rw [heq, decide_eq_true (ne_of_lt hfall'), Bool.or_true]
    exact congrArg (State.told ns) hclamp

end Sys2Proof.Machine
end


section
/-! SUPPORT. A completion taken whole (R84, R97 to R99). -/

namespace Sys2Proof.Machine

open Sys2Proof.Machine.Safety

/-! ### The setpoint of a bay (R98, R102) -/

theorem capAt_stage_mono (cfg : Setup) {l l' : Nat} (target : Nat) (x : Bay) (h : l ≤ l') : capAt cfg l target x ≤ capAt cfg l' target x := by
  cases hp : x.pack with
  | none => simp [capAt, hp]
  | some p => exact capAt_mono hp hp h le_rfl le_rfl id

/-- The setpoint written by a completion, after the end of a grant that the sets bring: the cap is the normal one just where the
bay has lost the converter. -/
theorem setpoint_after_sets (cfg : Setup) (target allocation : Nat) (x : Bay) (keeps : Bool) :
    let written := if x.chargeable cfg = true then min allocation (powerCap cfg target x) else 0
    (if x.boost = true ∧ keeps = false then
      if x.chargeable cfg = true then min written (normalCap cfg target x) else 0
    else written) =
      if x.chargeable cfg = true then min allocation (powerCap cfg target { x with boost := x.boost && keeps }) else 0 := by
  intro written
  have hnormal : normalCap cfg target x = powerCap cfg target { x with boost := false } := rfl
  have hle : normalCap cfg target x ≤ powerCap cfg target x :=
    capAt_stage_mono cfg target x (by cases x.boost <;> decide)
  by_cases hc : x.chargeable cfg = true
  · have hwritten : written = min allocation (powerCap cfg target x) := if_pos hc
    rw [if_pos hc, if_pos hc, hwritten]
    by_cases hlost : x.boost = true ∧ keeps = false
    · obtain ⟨hb, hk⟩ := hlost
      rw [if_pos ⟨hb, hk⟩, hb, hk, Bool.and_false, ← hnormal]
      omega
    · have hsame : (x.boost && keeps) = x.boost := by cases hb : x.boost <;> cases hk : keeps <;> simp_all
      rw [if_neg hlost, hsame]
  · have hwritten : written = 0 := if_neg hc
    rw [if_neg hc, if_neg hc, hwritten, ite_self]

/-- The setpoints written, after notices. -/
theorem State.writeSetpoints_told (l : List (BayNo × Nat)) (ns : List Notice) (s : State) :
    (s.told ns).writeSetpoints l = (s.writeSetpoints l).told ns := by
  have hcap : ∀ b, (s.told ns).capOf b = s.capOf b := fun b => by simp [State.capOf]
  refine Eq.trans ?_ (State.told_with ns s (s.writeSetpoints l).bays s.boost s.plan)
  apply State.eq_of_fields <;> simp [State.writeSetpoints, hcap]

/-! ### The end of the pass (R84) -/

/-- The end of a pass and of its event, after notices. -/
theorem State.finish_endPass (ns : List Notice) (s v : State) :
    ∃ t, State.finish none s (v.told ns).endPass = t ∧ t = { v with plan := t.plan, flags := t.flags, line := t.line, out := t.out } ∧
      Raised ns v t ∧
      t.plan =
        if v.plan.again = true ∨ v.plan.requested = true then
          { v.plan with
            pass := some ⟨⟨v.clock.seconds, v.bays, v.book.records, v.feed.share⟩, 0⟩, again := false, period := some 10000
            requested := false }
        else { v.plan with pass := none } := by
  let plan : Planner :=
    if v.plan.again = true ∨ v.plan.requested = true then
      { v.plan with
        pass := some ⟨⟨v.clock.seconds, v.bays, v.book.records, v.feed.share⟩, 0⟩, again := false, period := some 10000
        requested := false }
    else { v.plan with pass := none }
  have hend : (v.told ns).endPass = State.told ns { v with plan := plan } := by
    refine Eq.trans ?_ (State.told_with ns v v.bays v.boost plan)
    unfold State.endPass plan
    simp only [State.told_plan, Bool.or_eq_true]
    split
    · apply State.eq_of_fields <;> simp [State.startPass, State.snapshot, periodMillis]
    · apply State.eq_of_fields <;> simp
  have hplan : plan.requested = false := by
    unfold plan
    split
    · rfl
    · next hno => exact Bool.eq_false_iff.2 fun h => hno (.inr h)
  have hfin := State.finish_none (s := s) (u := State.told ns { v with plan := plan }) none (by simpa using hplan)
  refine ⟨_, rfl, ?_, ?_, ?_⟩
  · rw [hend, hfin]
    apply State.eq_of_fields <;> simp
  · rw [hend, hfin]
    exact raised_told ns { v with plan := plan }
  · rw [hend, hfin]
    exact State.told_plan ns { v with plan := plan }

/-! ### The results applied (R97 to R99) -/

/-- The part after the moves, the late flags and the setpoints of a pass. -/
def State.written (p : Plan) (u : State) : State := State.writeSetpoints p.allocation { u with book := u.book.lated p.lates }

/-- What the results of a pass make of the part, after the moves. -/
structure Applied (s : State) (p : Plan) (u : State) (a : Arbiter) (bays : Vector Bay 12) : Prop where
  moves : MovedBy s p.moves u
  sets : ∃ mid, SetsTaken (u.written p) p.high p.low mid a ∧
    (∀ b : BayNo, ∃ q, q ≤ mid[b].setpoint ∧ bays[b] = { mid[b] with setpoint := q }) ∧
    (s.feed.share ≤ Feed.shareNow s.cfg { s.feed with ownDemand := p.demand, ownPriority := p.priority } → bays = mid)

/-- The part with the results of a pass applied, but for its notices. -/
def State.applied (s : State) (p : Plan) (u : State) (a : Arbiter) (bays : Vector Bay 12) : State :=
  let new := Feed.shareNow s.cfg { s.feed with ownDemand := p.demand, ownPriority := p.priority }
  { s with
    bays := bays, book := u.book.lated p.lates, boost := a
    feed := { s.feed with ownDemand := p.demand, ownPriority := p.priority, share := new }
    plan := { s.plan with
      lastOrder := p.order
      requested := s.plan.requested || (p.moves.any fun m => (moveFits s m).isSome) ||
        decide (a.converter.holder ≠ s.boost.converter.holder) || decide (new ≠ s.feed.share) } }

theorem State.applyPlan_told {s : State} {p : Plan} (hready : MoveReady s)
    (hfield : ∀ b : BayNo, (s.bay b).boost = decide (s.boost.converter.holder = some b)) (hids : (p.moves.map moveId).Nodup)
    (htouched : (p.moves.flatMap Move.touched).Nodup) (hlates : (p.lates.map (·.id)).Nodup) :
    ∃ u a bays, Applied s p u a bays ∧
      s.applyPlan p = State.told (p.lates.filterMap (lateNotice u.book)) (s.applied p u a bays) := by
  have hmoved := State.applyMoves_moved hready hids htouched
  generalize hu : p.moves.foldl State.applyMove s = u at hmoved
  have hids' : (u.book.records.map (·.id)).Nodup := by
    rw [hmoved.rest]
    dsimp only
    rw [List.map_map]
    have hsame : (fun r : Reservation => r.id) ∘ movedRecord s p.moves = (·.id) := funext fun r => movedRecord_id s _ r
    rw [hsame]
    exact hready.ids
  have hfeed : u.feed = s.feed := by rw [hmoved.rest]
  have hcfg : u.cfg = s.cfg := by rw [hmoved.rest]
  let ns := p.lates.filterMap (lateNotice u.book)
  have hwritten : (p.lates.foldl State.applyLate u).writeSetpoints p.allocation = (u.written p).told ns := by
    have h := State.applyLates_told (s := u) [] hids' hlates
    rw [State.told_nil, List.nil_append] at h
    rw [h, State.writeSetpoints_told]
    rfl
  have hfield' : ∀ b : BayNo, ((u.written p).bay b).boost = decide ((u.written p).boost.converter.holder = some b) := fun b => by
    have hbay : ((u.written p).bay b).boost = (u.bay b).boost := by
      rw [State.written, State.writeSetpoints_bay]
      rfl
    have hboost : (u.written p).boost = s.boost := hmoved.boost
    rw [hbay, hboost, hmoved.fields b]
    exact hfield b
  obtain ⟨mid, a, hsets, htaken⟩ := State.takeSets_told p.high p.low hfield' ns
  let v : State := { u.written p with
    bays := mid, boost := a
    plan := { u.plan with requested := u.plan.requested || decide (a.converter.holder ≠ u.boost.converter.holder) } }
  obtain ⟨bays, hfigures, hbays, hstay⟩ := State.takeOwnFigures_told p.demand p.priority ns v
  have hshare : Feed.shareNow v.cfg { v.feed with ownDemand := p.demand, ownPriority := p.priority } =
      Feed.shareNow s.cfg { s.feed with ownDemand := p.demand, ownPriority := p.priority } := by
    show Feed.shareNow u.cfg { u.feed with ownDemand := p.demand, ownPriority := p.priority } = _
    rw [hfeed, hcfg]
  refine ⟨u, a, bays, ⟨hmoved, mid, htaken, hbays, fun hle => hstay ?_⟩, ?_⟩
  · rw [hshare]
    exact (congrArg Feed.share hfeed).le.trans hle
  · let x : State := { v with
      bays := bays
      feed := { v.feed with
        ownDemand := p.demand, ownPriority := p.priority
        share := Feed.shareNow s.cfg { s.feed with ownDemand := p.demand, ownPriority := p.priority } }
      plan := { v.plan with
        requested := v.plan.requested ||
          decide (Feed.shareNow s.cfg { s.feed with ownDemand := p.demand, ownPriority := p.priority } ≠ v.feed.share) } }
    have hplan : s.applyPlan p = { x.told ns with plan := { (x.told ns).plan with lastOrder := p.order } } := by
      rw [State.applyPlan, hu, hwritten, hsets]
      show ({ (v.told ns).takeOwnFigures p.demand p.priority with
        plan := { ((v.told ns).takeOwnFigures p.demand p.priority).plan with lastOrder := p.order } } : State) = _
      rw [hfigures, hshare]
    have hx : ({ x with plan := { x.plan with lastOrder := p.order } } : State) = s.applied p u a bays := by
      have hrest := hmoved.rest
      show ({ u with
        bays := bays, book := u.book.lated p.lates, boost := a, feed := { u.feed with
          ownDemand := p.demand, ownPriority := p.priority
          share := Feed.shareNow s.cfg { s.feed with ownDemand := p.demand, ownPriority := p.priority } }
        plan := { u.plan with
          lastOrder := p.order
          requested := u.plan.requested || decide (a.converter.holder ≠ u.boost.converter.holder) ||
            decide (Feed.shareNow s.cfg { s.feed with ownDemand := p.demand, ownPriority := p.priority } ≠ u.feed.share) } } :
          State) = _
      rw [hrest]
      rfl
    rw [hplan, ← hx]
    refine Eq.trans ?_ (State.told_with ns x x.bays x.boost { x.plan with lastOrder := p.order })
    apply State.eq_of_fields <;> simp

end Sys2Proof.Machine
end


section
/-! SUPPORT. The bays after a completion, and the completion itself (R84, R97 to R99). -/

namespace Sys2Proof.Machine

open Sys2Proof.Machine.Safety

section
variable {s u : State} {p : Plan} {a : Arbiter} {bays : Vector Bay 12}

/-- A bay after the setpoints of a pass have been written. -/
theorem State.written_bay (p : Plan) (u : State) (b : BayNo) :
    (u.written p).bay b =
      { u.bay b with
        setpoint :=
          if (u.bay b).chargeable u.cfg = true then
            min (allocationOf p.allocation b)
              (powerCap u.cfg (targetOf u.cfg (u.book.lated p.lates).records (u.bay b)) (u.bay b))
          else 0 } :=
  State.writeSetpoints_bay p.allocation { u with book := u.book.lated p.lates } b

/-- A bay after the results of a pass have been applied. -/
theorem Applied.bay (h : Applied s p u a bays) (b : BayNo) :
    ∃ q, bays[b] = { u.bay b with boost := decide (a.converter.holder = some b), setpoint := q } ∧
      q ≤ allocationOf p.allocation b ∧
      (s.feed.share ≤ Feed.shareNow s.cfg { s.feed with ownDemand := p.demand, ownPriority := p.priority } →
        q = if (u.bay b).chargeable u.cfg = true then
            min (allocationOf p.allocation b)
              (powerCap u.cfg (targetOf u.cfg (u.book.lated p.lates).records (u.bay b))
                { u.bay b with boost := (u.bay b).boost && decide (a.converter.holder = some b) })
          else 0) := by
  obtain ⟨mid, htaken, hbays, hstay⟩ := h.sets
  have hmid := htaken.bays b
  rw [State.written_bay] at hmid
  let x := u.bay b
  let target := targetOf u.cfg (u.book.lated p.lates).records x
  let after : Nat := if x.chargeable u.cfg = true then
      min (allocationOf p.allocation b)
        (powerCap u.cfg target { x with boost := x.boost && decide (a.converter.holder = some b) })
    else 0
  have hset : mid[b] = { x with boost := decide (a.converter.holder = some b), setpoint := after } := by
    have hsets := setpoint_after_sets u.cfg target (allocationOf p.allocation b) x (decide (a.converter.holder = some b))
    refine hmid.trans ?_
    show ({ x with boost := _, setpoint := _ } : Bay) = _
    refine congrArg (fun n => ({ x with boost := decide (a.converter.holder = some b), setpoint := n } : Bay))
      (Eq.trans ?_ hsets)
    have hcap : (u.written p).normalCapOf b = normalCap u.cfg target x := by
      rw [State.normalCapOf, State.written_bay]
      rfl
    simp only [decide_eq_false_iff_not, hcap]
    rfl
  have hle : after ≤ allocationOf p.allocation b := by
    unfold after
    split
    · exact Nat.min_le_left _ _
    · exact Nat.zero_le _
  obtain ⟨q, hq, hbay⟩ := hbays b
  refine ⟨q, ?_, ?_, fun hshare => ?_⟩
  · rw [hbay, hset]
  · rw [hset] at hq
    exact hq.trans hle
  · have hsame : bays[b] = mid[b] := congrArg (·[b]) (hstay hshare)
    have hqs : q = mid[b].setpoint := congrArg Bay.setpoint (hbay.symm.trans hsame)
    rw [hqs, hset]

end

/-- The notices of a completion, as the records before and after it give them. -/
theorem lateNotices_eq {s u : State} {ms : List Move} (h : MovedBy s ms u) (ls : List LateFlag) :
    ls.filterMap (lateNotice u.book) = ls.filterMap fun f =>
      match (u.book.lated ls).byId f.id, s.book.byId f.id with
      | some r', some r =>
        if r'.state = .bound f.bay ∧ f.late = true ∧ r.late = false then some (.resLate f.id f.bay) else none
      | _, _ => none := by
  refine List.filterMap_congr fun f _ => ?_
  have hmoved : u.book.byId f.id = (s.book.byId f.id).map (movedRecord s ms) := by
    rw [h.rest]
    exact Book.byId_map (movedRecord_id s ms) f.id
  rw [Book.lated, Book.byId_map (latedRecord_id ls), lateNotice, hmoved]
  cases s.book.byId f.id with
  | none => rfl
  | some r => simp

/-- Settles O49: the moves by `State.applyMoves_moved`, the late flags by `State.applyLates_told`, the setpoints and the sets by
`Applied.bay`, and the end of the pass by `State.finish_endPass`. -/
theorem completionAppliesResults : Obligations.CompletionAppliesResults := by
  intro n age s hr hs hpass hshare hids hagree p boundTo sets
  obtain ⟨hrecords, -⟩ := hagree
  have hdistinct := n.distinctMoves (cfg := s.cfg) hids fun r hr b hb _ => by
    have h := hrecords r hr
    rw [RecordAgrees, hb] at h
    exact h.1
  have hready : MoveReady s.quiet := by
    obtain ⟨hids, hlate, hheld, hcalm⟩ := moveReady_of_sound hs
    exact ⟨hids, hlate, hheld, hcalm⟩
  obtain ⟨u, a, bays, happlied, happly⟩ := State.applyPlan_told (p := p) hready hs.boost.1 hdistinct.ids hdistinct.touched
    ((n.late_ids_sublist s.cfg).nodup hids)
  have hmoved := happlied.moves
  let ns := p.lates.filterMap (lateNotice u.book)
  obtain ⟨t, ht, heq, hraised, hplan⟩ := State.finish_endPass ns s (s.quiet.applied p u a bays)
  have hexec : exec .passCompletion s = .next t := by
    have hlive : exec .passCompletion s = .next (State.finish none s s.quiet.completePass) := event_live hr
    have hcomplete : s.quiet.completePass = (s.quiet.applyPlan p).endPass := by
      rw [State.completePass, State.quiet_plan, hpass]
      exact if_neg (Nat.not_lt.2 hshare)
    rw [hlive, hcomplete, happly, ht]
  have hbays : t.bays = bays := congrArg State.bays heq
  have hbook : t.book = u.book.lated p.lates := congrArg State.book heq
  have hboost : t.boost = a := congrArg State.boost heq
  have hfeed : t.feed.share = Feed.shareNow s.cfg { s.feed with ownDemand := p.demand, ownPriority := p.priority } :=
    congrArg (fun t : State => t.feed.share) heq
  have hcfg : u.cfg = s.cfg := by rw [hmoved.rest]; rfl
  obtain ⟨mid, htaken, -, -⟩ := happlied.sets
  have huboost : (u.written p).boost = s.boost := hmoved.boost
  refine ⟨t, hexec, ?_, ?_, hfeed, fun hidle a' w hd => ?_, fun h hh => ?_, fun hne hnone => ?_, ?plan, ?book, ?_,
    fun b => ?bays⟩
  · rw [heq]
    rfl
  · rw [heq]
    rfl
  · rw [hboost]
    refine (htaken.idle (by rw [huboost]; exact hidle) a' w (by rw [huboost]; exact hd)).trans ?_
    cases w with
    | none => rfl
    | some b =>
      exact congrArg (fun c : Setup => ({ a' with converter := .granted b (c.boostSlice * 1000) } : Arbiter)) hcfg
  · rw [hboost]
    have h := htaken.held h (by rw [huboost]; exact hh)
    rw [h, huboost]
  · rw [hboost]
    have h := htaken.stands (by rw [huboost]; exact hne) (by rw [huboost]; exact hnone)
    rw [h, huboost]
  case plan =>
    let v := s.quiet.applied p u a bays
    let changed := s.plan.again = true ∨ t.feed.share ≠ s.feed.share ∨ t.boost.converter.holder ≠ s.boost.converter.holder ∨
      ∃ m ∈ p.moves, (moveFits s m).isSome = true
    have hsettled : s.plan.requested = false := hr.settled
    have hrequested : v.plan.requested = true ↔ (∃ m ∈ p.moves, (moveFits s m).isSome = true) ∨
        t.boost.converter.holder ≠ s.boost.converter.holder ∨ t.feed.share ≠ s.feed.share := by
      have hv : v.plan.requested = (s.plan.requested || (p.moves.any fun m => (moveFits s m).isSome) ||
          decide (t.boost.converter.holder ≠ s.boost.converter.holder) || decide (t.feed.share ≠ s.feed.share)) := by
        rw [hboost, hfeed]
        rfl
      rw [hv, hsettled, Bool.false_or, Bool.or_eq_true, Bool.or_eq_true, List.any_eq_true, decide_eq_true_iff,
        decide_eq_true_iff, or_assoc]
    have hchanged : (v.plan.again = true ∨ v.plan.requested = true) ↔ changed := by
      refine (or_congr_right hrequested).trans ⟨?_, ?_⟩
      · rintro (h | h | h | h)
        exacts [.inl h, .inr (.inr (.inr h)), .inr (.inr (.inl h)), .inr (.inl h)]
      · rintro (h | h | h | h)
        exacts [.inl h, .inr (.inr (.inr h)), .inr (.inr (.inl h)), .inr (.inl h)]
    rw [hplan]
    by_cases h : changed
    · rw [if_pos (hchanged.2 h), if_pos h, heq]
      rfl
    · have hno := hchanged.not.2 h
      rw [if_neg hno, if_neg h]
      show (⟨none, s.plan.again, s.plan.period, p.order, v.plan.requested⟩ : Planner) = _
      have hagain : s.plan.again = false := Bool.eq_false_iff.2 fun h => hno (.inl h)
      have hquiet : v.plan.requested = false := Bool.eq_false_iff.2 fun h => hno (.inr h)
      rw [hagain, hquiet]
  case book =>
    rw [hbook, Book.lated, hmoved.rest]
    dsimp only
    rw [List.map_map]
    refine congrArg (fun l => ({ s.book with records := l } : Book)) (List.map_congr_left fun r _ => ?_)
    have hfind : p.lates.find? (·.id = (movedRecord s.quiet p.moves r).id) = p.lates.find? (·.id = r.id) := by
      rw [movedRecord_id]
    rw [Function.comp_apply, latedRecord, hfind]
    rfl
  · rw [hbook]
    exact (congrArg (fun l => Raised l s t) (lateNotices_eq hmoved p.lates)).mp hraised
  case bays =>
    obtain ⟨q, hq, hle, hcap⟩ := happlied.bay b
    have hx : t.bay b = { u.bay b with boost := decide (a.converter.holder = some b), setpoint := q } :=
      (congrArg (·[b]) hbays).trans hq
    have hfields := hmoved.fields b
    intro x
    refine ⟨?_, fun m hm hfits => ?_, fun m hm hfits hfrom => ?_, fun hnone => ?_, ?_, ?_, fun hrise => ?_⟩
    · show t.bay b = { s.bay b with
        state := (t.bay b).state, reservation := (t.bay b).reservation, boost := (t.bay b).boost, setpoint := (t.bay b).setpoint }
      rw [hx]
      generalize u.bay b = y at hfields
      rw [hfields]
      rfl
    · rw [show x = _ from hx]
      exact hmoved.bound m hm b hfits
    · rw [show x = _ from hx]
      exact hmoved.freed m hm hfits b hfrom
    · rw [show x = _ from hx]
      have hsame := hmoved.others b hnone
      have hst : (u.bay b).state = (s.bay b).state := by rw [hsame]; rfl
      have hres : (u.bay b).reservation = (s.bay b).reservation := by rw [hsame]; rfl
      exact ⟨hst, hres⟩
    · rw [show x = _ from hx, hboost]
    · rw [show x = _ from hx]
      exact hle
    · have hwas : (u.bay b).boost = (s.bay b).boost := by rw [hfields]; rfl
      rw [show x = _ from hx, hcap (hfeed ▸ hrise), hbook, hcfg, hwas]
      rfl

end Sys2Proof.Machine
end
